-- ==== Sys2Proof/Word.lean ====
section
/-! DEFINITION. The words of the part: a byte, a text of characters, and one dot line of the head. -/

namespace Sys2Proof

/-- One byte: a character of the job link (R1) or one byte of an object or image (R205). -/
abbrev Byte := BitVec 8

/-- A run of characters, each by its code. -/
abbrev Text := List Byte

/-- One dot line or mask of the head: bit x is the dot at x, 0 at the left edge (00 "Conventions", R124). -/
abbrev Dots := BitVec 832

/-- The characters of a fixed word of the manual. -/
def txt (s : String) : Text := s.toList.map fun c => BitVec.ofNat 8 c.toNat

end Sys2Proof
end

