-- ==== Sys2Proof/Syntax.lean ====
section
/-! DEFINITION. The commands of the part: one constructor for each row of spec/opcode_table.json.

A record that the parser takes stands in the receive buffer (R3, R5), so the record commands name the record's
keyword and carry none of its characters (log entry 3). What a device outside the part answers inside an event,
such as the media sensor's level, is an operand of the event's command (log entry 4). -/

namespace Sys2Proof

/-- The two levels of the media sensor (R151). -/
inductive SensorLevel where
  | low
  | high
  deriving DecidableEq, Repr

/-- The four filtered inputs of the line port (R175). -/
inductive LineInput where
  | print
  | purge
  | hold
  | taken
  deriving DecidableEq, Repr

/-- The five outputs of the line port (00 "Connections to the outside"). -/
inductive LineOutput where
  | ready
  | waste
  | apply
  | miss
  | lineFault
  deriving DecidableEq, Repr

/-- The commands, in the order of the opcode table. -/
inductive Instr where
  /-- POWER_ON (R203). -/
  | powerOn
  /-- LOAD_COMPLETION (R203). -/
  | loadCompletion
  /-- CHARACTER_RECEIVED (R3): the character, and whether its stop bit was found (R1, R17). -/
  | characterReceived (c : Byte) (stopBit : Bool)
  /-- HRDY_RISE (R4). -/
  | hrdyRise
  /-- CHARACTER_SENT (R4). -/
  | characterSent
  /-- DAMAGED_RECORD (R18). -/
  | damagedRecord
  /-- UNKNOWN_RECORD (R6). -/
  | unknownRecord
  /-- OBJ (R26). -/
  | obj
  /-- BLK (R27). -/
  | blk
  /-- EOB (R28). -/
  | eob
  /-- DEL (R32). -/
  | del
  /-- FMT (R38). -/
  | fmt
  /-- TXT (R48). -/
  | txt
  /-- BAR (R50). -/
  | bar
  /-- BOX (R52). -/
  | box
  /-- IMG (R54). -/
  | img
  /-- FEND (R40). -/
  | fend
  /-- CTR (R58). -/
  | ctr
  /-- JOB (R69). -/
  | job
  /-- DAT (R70). -/
  | dat
  /-- EOJ (R71). -/
  | eoj
  /-- CAN (R82). -/
  | can
  /-- ABORT (R85). -/
  | abort
  /-- SET (R200). -/
  | set
  /-- SAVE (R202). -/
  | save
  /-- WRITE_COMPLETION (R202). -/
  | writeCompletion
  /-- RESET (R204). -/
  | reset
  /-- CAL (R153). -/
  | cal
  /-- PAUSE (R167). -/
  | pause
  /-- GO (R167). -/
  | go
  /-- LINE_ON: the record LINE with the word ON (R172). -/
  | lineOn
  /-- LINE_OFF: the record LINE with the word OFF (R173). -/
  | lineOff
  /-- CLR (R195), with the level the media sensor then reads (R166). -/
  | clr (sensor : SensorLevel)
  /-- STAT (R193). -/
  | stat
  /-- BEGIN_COPY (R92). -/
  | beginCopy
  /-- FILL_COMPLETION (R95). -/
  | fillCompletion
  /-- WAIT_BAND_ALLOCATION (R95). -/
  | waitBandAllocation
  /-- SETTLE_COMPLETION (R144). -/
  | settleCompletion
  /-- IDLE_TIMER_EXPIRY (R143). -/
  | idleTimerExpiry
  /-- BACKFEED_COMPLETION (R158). -/
  | backfeedCompletion
  /-- SHIFT_COMPLETION (R140), with the mask the head's data output presented during the shift. -/
  | shiftCompletion (readback : Dots)
  /-- STROBE_COMPLETION (R137). -/
  | strobeCompletion
  /-- CLOSING_COMPLETION (R141), with the mask the head's data output presented during the closing shift. -/
  | closingCompletion (readback : Dots)
  /-- LINE_COMPLETION (R160), with the sensor level after the line's media step. -/
  | lineCompletion (sensor : SensorLevel)
  /-- MEDIA_STEP (R151), with the sensor level after the step. -/
  | mediaStep (sensor : SensorLevel)
  /-- CALIBRATION_SUCCESS (R154). -/
  | calibrationSuccess
  /-- FEED_OUT_COMPLETION (R162). -/
  | feedOutCompletion
  /-- FEED_MOVE_COMPLETION (R169). -/
  | feedMoveCompletion
  /-- SAMPLE_COMPLETION (R127), with the thermistor reading in degrees Celsius. -/
  | sampleCompletion (reading : Int)
  /-- FEED_KEY (R169), with the level the media sensor then reads (R166). -/
  | feedKey (sensor : SensorLevel)
  /-- PAUSE_KEY (R167). -/
  | pauseKey
  /-- TRIGGER_EDGE (R176): the input PRINT or PURGE that rises. -/
  | triggerEdge (input : LineInput)
  /-- CONFLICT_WINDOW_EXPIRY (R179). -/
  | conflictWindowExpiry
  /-- HOLD_EDGE (R177): rising or falling. -/
  | holdEdge (rising : Bool)
  /-- ENC_PULSE (R175). -/
  | encPulse
  /-- PULSE_BEGIN (R186): the output APPLY or MISS. -/
  | pulseBegin (output : LineOutput)
  /-- PULSE_END (R186): the output APPLY or MISS. -/
  | pulseEnd (output : LineOutput)
  /-- APPLY_WAIT_EXPIRY (R187). -/
  | applyWaitExpiry
  /-- TAKEN (R188). -/
  | taken
  /-- HRDY_FALL (R4). -/
  | hrdyFall
  /-- FALLING_EDGE (R175): the input PRINT, PURGE or TAKEN that falls. -/
  | fallingEdge (input : LineInput)
  /-- POWER_LOSS (R201). -/
  | powerLoss
  deriving DecidableEq, Repr

end Sys2Proof
end

