-- ==== Sys2Proof/Machine/State.lean ====
section
/-! DEFINITION. The state of the part, block by block (00 "Block overview"), its fault and refusal reasons, and the
state right after power-on. INVENTORY.md, "State", gives the rule and the reset value of every field. -/

namespace Sys2Proof.Machine

/-! ## Reports and the job link -/

/-- The error codes of an ERR report (1.6 "Error codes"). -/
inductive ErrCode where
  | syntaxErr | sequence | range | busy | dupTag | queueFull | noObject | dirFull | storeFull | length | readOnly | link
  deriving DecidableEq, Repr

/-- The fifteen fault kinds, in kind order (11.1). -/
inductive FaultKind where
  | mediaOut | headHot | headFault | headWarm | headSensor | calFail | headData | senseFlip | lineConflict
  | lineOverrun | lineSequence | applyTimeout | late | linkError | settingsLost
  deriving DecidableEq, Repr

/-- The seven engine states (R149). -/
inductive EngineState where
  | idle | calibrating | backfeeding | printing | halted | feedingOut | holding
  deriving DecidableEq, Repr

/-- A copy, named by its job's tag and its number in the job. -/
structure CopyId where
  tag : Nat
  number : Nat
  deriving DecidableEq, Repr

/-- The pause-reason set (R167): which of the six reasons are present. -/
structure PauseSet where
  host : Bool := false
  panel : Bool := false
  line : Bool := false
  hot : Bool := false
  media : Bool := false
  headFault : Bool := false
  deriving DecidableEq, Repr

/-- The presented record (R164): the copy, or absent, and the waste flag. -/
structure Presented where
  copy : Option CopyId
  waste : Bool
  deriving DecidableEq, Repr

/-- The values of an STS reply (R194). -/
structure StsValues where
  engine : EngineState
  pause : PauseSet
  jobs : Nat
  readyBands : Nat
  presented : Option Presented
  reading : Int
  speed : Nat
  pitch : Nat
  calibrated : Bool
  portOn : Bool
  parcels : Nat
  /-- Every latched kind, in kind order, with its active flag. -/
  faults : List (FaultKind × Bool)
  deriving DecidableEq, Repr

/-- A report (R13). -/
inductive Report where
  | err (code : ErrCode) (keyword : Option Text)
  | sts (v : StsValues)
  | abt (n : Nat)
  | done (tag applied missed wasted voided failed : Nat) (serials : Option (Nat × Nat))
  | flt (kind : FaultKind) (set : Bool)
  /-- CAL pitch, or CAL FAIL where the pitch is absent. -/
  | cal (pitch : Option Nat)
  /-- RDY OK or RDY DEFAULT. -/
  | rdy (ok : Bool)
  deriving DecidableEq, Repr

/-- A complete record in the receive buffer (R3): its stored characters without the LF, and its two marks. -/
structure Record where
  chars : Text
  damaged : Bool
  overLong : Bool
  deriving DecidableEq, Repr

/-- The parser context (R9). -/
inductive Context where
  | none | job | object | format
  deriving DecidableEq, Repr

/-- A pending rate switch (R2): the new rate, and how many noted reports are still to be sent. -/
structure RateSwitch where
  rate : Nat
  noted : Nat
  deriving DecidableEq, Repr

/-- The job link (Chapter 1). -/
structure JobLink where
  records : List Record
  receiving : Text
  receivingDamaged : Bool
  receivingOverLong : Bool
  cts : Bool
  context : Context
  reports : List Report
  waiting : List Report
  /-- Characters of the head report already sent. -/
  sent : Nat
  /-- A character is being transmitted. -/
  sending : Bool
  hrdy : Bool
  rate : Nat
  rateSwitch : Option RateSwitch
  deriving DecidableEq, Repr

/-! ## Formats and the object store -/

/-- The kinds of objects (R21). -/
inductive ObjectKind where
  | font | graphic | format
  deriving DecidableEq, Repr

/-- A field's rotation (R42). -/
inductive Rotation where
  | r0 | r90 | r180 | r270
  deriving DecidableEq, Repr

/-- A field's draw mode (R44). -/
inductive DrawMode where
  | set | clear | invert
  deriving DecidableEq, Repr

/-- The source of a field's text (R46). -/
inductive Source where
  | literal (text : Text)
  | item (n : Nat)
  | ctr (n : Nat)
  deriving DecidableEq, Repr

/-- The two bar code symbologies (R50). -/
inductive Symbology where
  | c128 | i25
  deriving DecidableEq, Repr

/-- What a compiled field draws, with its own parameters (R48, R50, R52, R54); WIDE and RED are already fitted. -/
inductive FieldBody where
  | txt (font : Text) (source : Source) (mx my : Nat)
  | bar (symbology : Symbology) (source : Source) (module wide height reduction : Nat) (check : Bool)
      (hrFont : Option Text)
  | box (width height thickness : Nat)
  | img (graphic : Text)
  deriving DecidableEq, Repr

/-- A compiled field: its origin, rotation, draw mode (R42) and body. -/
structure Field where
  x : Nat
  y : Nat
  rot : Rotation
  mode : DrawMode
  body : FieldBody
  deriving DecidableEq, Repr

/-- The content of a format: the label length L, its width Wf and its fields in format order (R40). -/
structure Format where
  length : Nat
  width : Nat
  fields : List Field
  deriving DecidableEq, Repr

/-- One pair of a named-object list (R41). -/
structure NamedObject where
  name : Text
  kind : ObjectKind
  deriving DecidableEq, Repr

/-- A chain table entry (R19); `last` is the manual's END. -/
inductive Link where
  | free
  | next (block : Nat)
  | last
  deriving DecidableEq, Repr

/-- The states of a RAM directory entry that holds an object (R21). -/
inductive EntryState where
  | loading | live | retired
  deriving DecidableEq, Repr

/-- A RAM directory entry that holds an object (R21). -/
structure Entry where
  name : Text
  kind : ObjectKind
  /-- 1 to 255 once LIVE (R25); 0 while LOADING, when the entry has none. -/
  generation : Nat
  state : EntryState
  firstBlock : Option Nat
  /-- The declared length of a font or graphic; the compiled length of a format, so far while it is LOADING. -/
  length : Nat
  /-- Bytes received, or compiled, so far. -/
  received : Nat
  refs : Nat
  /-- A completed format's content (R40); absent for a font or graphic, and while LOADING. -/
  format : Option Format
  deriving DecidableEq, Repr

/-- The three ROM fonts (R23). -/
inductive RomFont where
  | rf8 | rf16 | rf32
  deriving DecidableEq, Repr

/-- One specific directory entry: RAM entry 0 to 47, or a ROM entry. -/
inductive EntryRef where
  | ram (index : Nat)
  | rom (font : RomFont)
  deriving DecidableEq, Repr

/-- Where a directory entry's content lies (R21). -/
inductive Origin where
  | ram | rom
  deriving DecidableEq, Repr

/-- The fields by which a directory entry describes its object, whatever its origin (R21). -/
structure DirectoryEntry where
  name : Text
  kind : ObjectKind
  origin : Origin
  generation : Nat
  state : EntryState
  firstBlock : Option Nat
  length : Nat
  refs : Nat
  deriving DecidableEq, Repr

/-- Reference counts of the ROM entries (R23), the one field of theirs that changes; `directoryEntry` gives the
others. -/
structure RomRefs where
  rf8 : Nat
  rf16 : Nat
  rf32 : Nat
  deriving DecidableEq, Repr

/-- The block store's contents: (address, byte) cells, byte i of block b at 1024 × b + i (R19). -/
abbrev Memory := List Host.Cell

/-- The object store (Chapters 2 and 3). -/
structure ObjectStore where
  chain : Vector Link 256
  blocks : Memory
  ram : Vector (Option Entry) 48
  romRefs : RomRefs
  /-- The definition state of the open format (R38). -/
  defn : Option Format
  deriving DecidableEq, Repr

/-! ## Serial counters -/

/-- What a step past a limit does (R56). -/
inductive CounterMode where
  | wrap | hold
  deriving DecidableEq, Repr

/-- The fill character of counter text (R47). -/
inductive CounterFill where
  | zero | space
  deriving DecidableEq, Repr

/-- A counter record (R56). -/
structure Counter where
  value : Nat
  low : Nat
  high : Nat
  step : Int
  mode : CounterMode
  cascade : Option Nat
  digits : Nat
  fill : CounterFill
  exhausted : Bool
  deriving DecidableEq, Repr

/-! ## The job queue -/

/-- The result of a terminal copy (R73). -/
inductive CopyResult where
  | applied | missedUnprinted | missedLate | voided | wasted | failed
  deriving DecidableEq, Repr

/-- The state of a copy (R73). -/
inductive CopyState where
  | waiting | rendering | rendered | printing | presented | applying
  | terminal (result : CopyResult)
  deriving DecidableEq, Repr

/-- The marks of a copy (R75). -/
structure Marks where
  late : Bool := false
  withdrawn : Bool := false
  defect : Bool := false
  lost : Bool := false
  deriving DecidableEq, Repr

/-- A copy record (R73). -/
structure Copy where
  number : Nat
  state : CopyState
  marks : Marks
  bound : Bool
  deriving DecidableEq, Repr

/-- A job in a slot (R67). -/
structure Job where
  slot : Nat
  tag : Nat
  format : EntryRef
  /-- Each pair of the format's named-object list with the entry it was found in. -/
  objects : List (NamedObject × EntryRef)
  items : Vector (Option Text) 16
  copies : List Copy
  firstSerial : Option Nat
  lastSerial : Option Nat
  deriving DecidableEq, Repr

/-- The open assembly slot (R69). -/
structure Assembly where
  tag : Nat
  format : Text
  copies : Nat
  items : Vector (Option Text) 16
  deriving DecidableEq, Repr

/-- The job queue (Chapter 5): the jobs in slots in acceptance order, and the assembly slot. -/
structure JobQueue where
  jobs : List Job
  assembly : Option Assembly
  deriving DecidableEq, Repr

/-! ## Rendering and the band ring -/

/-- One element of a bar code (R108): a bar or a space, its nominal width, and a bar's printed width (R118). -/
structure Element where
  bar : Bool
  width : Nat
  printed : Nat
  deriving DecidableEq, Repr

/-- The human-readable line of a bar code (R119): its font, its text and the u at which it begins. -/
structure HrLine where
  font : EntryRef
  text : Text
  start : Nat
  deriving DecidableEq, Repr

/-- What a laid-out field marks in its unrotated frame. -/
inductive Shape where
  | text (font : EntryRef) (mx my : Nat)
  | bars (elements : List Element) (height : Nat) (hr : Option HrLine)
  | box (thickness : Nat)
  | image (graphic : EntryRef)
  deriving DecidableEq, Repr

/-- A field of the render context (R91): its place, its text, its unrotated frame U × V, and its shape. -/
structure LaidField where
  x : Nat
  y : Nat
  rot : Rotation
  mode : DrawMode
  text : Text
  frameU : Nat
  frameV : Nat
  shape : Shape
  deriving DecidableEq, Repr

/-- The states of the render cursor (R91). -/
inductive RenderCursor where
  | idle | waitBand | filling
  deriving DecidableEq, Repr

/-- The render context (R91). -/
structure RenderContext where
  copy : CopyId
  format : EntryRef
  length : Nat
  width : Nat
  fields : List LaidField
  /-- The band count n = ceil(L / 64). -/
  bands : Nat
  nextIndex : Nat
  /-- The band now FILLING, by its number. -/
  filling : Option Nat
  deriving DecidableEq, Repr

/-- The render engine (Chapter 6). -/
structure RenderEngine where
  cursor : RenderCursor
  context : Option RenderContext
  deriving DecidableEq, Repr

/-- The states of a band (R89). -/
inductive BandState where
  | free | filling | ready | printing
  deriving DecidableEq, Repr

/-- A band of the ring (R88). -/
structure Band where
  state : BandState
  owner : Option CopyId
  index : Option Nat
  used : Option Nat
  lines : List Dots
  deriving DecidableEq, Repr

/-- The band ring (Chapter 6). -/
structure BandRing where
  bands : Vector Band 16
  fill : Nat
  deriving DecidableEq, Repr

/-! ## Strobe timing and the head -/

/-- An energy set (R125). -/
structure Energy where
  speed : Nat
  dark : Int
  basew : Nat
  ha : Nat
  hb : Nat
  split : Nat
  deriving DecidableEq, Repr

/-- A strobe width with its three phases, in microseconds (R132, R133). -/
structure Strobe where
  w : Nat
  a : Nat
  b : Nat
  c : Nat
  deriving DecidableEq, Repr

/-- The strobe timing unit (Chapter 8). -/
structure StrobeUnit where
  active : Energy
  width : Strobe
  buffered : Strobe
  swap : Bool
  reading : Int
  temp : Int
  sensorValid : Bool
  warm : Bool
  hot : Bool
  deriving DecidableEq, Repr

/-- The head power states (R143). -/
inductive HeadPower where
  | off | settling | on
  deriving DecidableEq, Repr

/-- The line being strobed (R136 to R139). -/
structure LineStrobe where
  dots : Dots
  /-- Masks A, B, C; six masks for a split line. -/
  masks : List Dots
  /-- How many of the masks have been shifted. -/
  shifted : Nat
  /-- The line's strobe has completed; its line period still runs. -/
  strobed : Bool
  phases : Strobe
  nmax : Nat
  /-- R, or 2R for a split line, in microseconds. -/
  strobeTime : Nat
  tline : Nat
  deriving DecidableEq, Repr

/-- The head interface (Chapter 8). -/
structure HeadInterface where
  power : HeadPower
  p1 : Dots
  p2 : Dots
  line : Option LineStrobe
  closing : Bool
  lastMask : Dots
  owed : Bool
  defect : Bool
  verdictDue : Bool
  /-- The verdict handed to PE: `true` for defect, `false` for clean. -/
  verdict : Option Bool
  defectCount : Nat
  /-- The seconds the idle timer runs for, while it runs. -/
  idleTimer : Option Nat
  offAfterStrobe : Bool
  resumed : Bool
  deriving DecidableEq, Repr

/-! ## The print engine -/

/-- The MEDIA setting (R200). -/
inductive MediaKind where
  | gap | mark | cont
  deriving DecidableEq, Repr

/-- Which sensor level marks a gap or a mark (R151). -/
inductive Sense where
  | lowGap | highGap
  deriving DecidableEq, Repr

/-- What started a calibration (R153). -/
inductive CalOrigin where
  | host | auto | panel
  deriving DecidableEq, Repr

/-- An edge a calibration took: its position and the level after it. -/
structure Edge where
  position : Int
  level : SensorLevel
  deriving DecidableEq, Repr

/-- The calibration record (R153, R154). -/
structure Calibration where
  origin : CalOrigin
  copy : Option CopyId
  /-- Steps fed from the start. -/
  steps : Nat
  /-- The edges e1, e2, ... seen so far, in order. -/
  edges : List Edge
  deriving DecidableEq, Repr

/-- The phase of a label in progress (R149). -/
inductive LabelPhase where
  | print | feedOut
  deriving DecidableEq, Repr

/-- The label context (R149, R157). -/
structure LabelContext where
  copy : Option CopyId
  top : Int
  /-- L′, the number of lines to print. -/
  lines : Nat
  y : Nat
  phase : LabelPhase
  /-- The pitch when the label started (R157). -/
  pitch : Nat
  /-- PEEL when the feed-out began (R162). -/
  peel : Nat
  /-- The feed-out completion has been taken, and the label awaits its verdict (R162). -/
  arrived : Bool
  /-- The band in state PRINTING, by its number (R100). -/
  band : Option Nat
  deriving DecidableEq, Repr

/-- The print engine and media drive (Chapter 9). -/
structure PrintEngine where
  engine : EngineState
  position : Int
  furthest : Int
  sensor : SensorLevel
  sense : Sense
  lastCapture : Option Int
  lastGapStart : Option Int
  tops : List Int
  violations : Nat
  calibrated : Bool
  pitch : Nat
  cal : Option Calibration
  label : Option LabelContext
  /-- The top of the label that the FEED move in progress feeds away. -/
  feedMove : Option Int
  presented : Option Presented
  pause : PauseSet
  /-- The MEDIA setting in use. -/
  stock : MediaKind
  /-- The PITCH setting in use. -/
  contPitch : Nat
  /-- The step time, in microseconds, of the move under way. -/
  stepTime : Nat
  deriving DecidableEq, Repr

/-! ## The line port -/

/-- The kind of a parcel entry (R178): LABEL from PRINT, PURGE from PURGE. -/
inductive ParcelKind where
  | label | purge
  deriving DecidableEq, Repr

/-- The state of a parcel entry (R182). -/
inductive ParcelState where
  | open | bound | forsaken | applying
  deriving DecidableEq, Repr

/-- A parcel entry (R178). -/
structure Parcel where
  seq : BitVec 8
  kind : ParcelKind
  trigger : BitVec 32
  apply : BitVec 32
  copy : Option CopyId
  state : ParcelState
  deriving DecidableEq, Repr

/-- The open conflict window (R176): the waiting trigger's kind and trigger position. -/
structure ConflictWindow where
  kind : ParcelKind
  position : BitVec 32
  deriving DecidableEq, Repr

/-- The apply wait (R187): the copy, and whether its timer has started. -/
structure ApplyWait where
  copy : CopyId
  timer : Bool
  deriving DecidableEq, Repr

/-- A pulse output (R186): the pulses owed, and its level. -/
structure PulseOutput where
  owed : Nat
  high : Bool
  deriving DecidableEq, Repr

/-- The line port and parcel tracker (Chapter 10). -/
structure LinePort where
  on : Bool
  print : Bool
  purge : Bool
  hold : Bool
  taken : Bool
  window : Option ConflictWindow
  conveyor : BitVec 32
  seq : BitVec 8
  parcels : List Parcel
  /-- The binding cursor: how many copies in print order stand before it. -/
  cursor : Nat
  applyWait : Option ApplyWait
  apply : PulseOutput
  miss : PulseOutput
  deriving DecidableEq, Repr

/-! ## Faults and settings -/

/-- Where a kind is made known (R196). -/
inductive Route where
  | none | line | host | both
  deriving DecidableEq, Repr

/-- A fault record (R191); the reported state is `true` for SET. Its route stands in the settings record. -/
structure FaultRecord where
  active : Bool
  latched : Bool
  reported : Bool
  deriving DecidableEq, Repr

/-- The MODE setting (R174). -/
inductive LineMode where
  | ahead | trigger
  deriving DecidableEq, Repr

/-- The settings record (R200). Its energy keys are the pending energy set (12, introduction). -/
structure Settings where
  rate : Nat
  energy : Energy
  idle : Nat
  media : MediaKind
  pitch : Nat
  peel : Nat
  start : Nat
  mode : LineMode
  applyd : Nat
  routes : Vector Route 15
  deriving DecidableEq, Repr

/-- Whether start-up or a soft reset is in progress (R16, R203, R204). -/
inductive StartPhase where
  /-- Start-up, before its load completion. -/
  | loading
  /-- Start-up, after its load completion, until RDY has entered the report queue. -/
  | startRdy
  /-- A soft reset whose reload waits for the write completion. -/
  | resetWait
  /-- A soft reset after its reload, until RDY has entered the report queue. -/
  | resetRdy
  /-- Neither is in progress. -/
  | running
  deriving DecidableEq, Repr

/-- The settings store (Chapter 12). -/
structure SettingsStore where
  settings : Settings
  image : Option (List Byte)
  writing : Bool
  eeprom : List Byte
  /-- The model's own mark of an image that power loss cut short (R201). -/
  torn : Bool
  start : StartPhase
  deriving DecidableEq, Repr

/-! ## The whole state -/

/-- The state of the part, with the queue of commands that are waiting, first in, first out. -/
structure State where
  powered : Bool
  jl : JobLink
  os : ObjectStore
  cb : Vector Counter 8
  jq : JobQueue
  re : RenderEngine
  br : BandRing
  stu : StrobeUnit
  hi : HeadInterface
  pe : PrintEngine
  lp : LinePort
  fm : Vector FaultRecord 15
  ss : SettingsStore
  /-- The model's own count of power-ons, which an undefined byte may depend on. -/
  fresh : Nat
  pending : List Instr
  deriving DecidableEq, Repr

/-- Why a step stops. -/
inductive Fault where
  /-- Raised by TRIGGER_EDGE, FALLING_EDGE, PULSE_BEGIN and PULSE_END when their operand is an input or output that
  the row does not have (`Instr.wellFormed` refuses it). Safe: the part has no such event (log entry 37). -/
  | illFormed
  deriving DecidableEq, Repr

/-- Why a step has no meaning. -/
inductive Refusal where
  /-- Raised by an arm of `exec` whose command has no meaning yet; no command of this model is so. Safe. -/
  | notModelled (mnemonic : String)
  deriving DecidableEq, Repr

/-! ## Values after power-on -/

/-- The default of a route, in kind order (11.1, "The fifteen kinds"). -/
def defaultRoutes : Vector Route 15 :=
  #v[.both, .both, .both, .host, .host, .host, .host, .host, .host, .host, .host, .both, .line, .host, .host]

/-- The defaults of the energy settings (R125). -/
def defaultEnergy : Energy :=
  { speed := 200, dark := 0, basew := 600, ha := 40, hb := 12, split := 416 }

/-- The defaults of the SET keys (R200). -/
def defaultSettings : Settings :=
  { rate := 38400, energy := defaultEnergy, idle := 120, media := .gap, pitch := 800, peel := 40, start := 4,
    mode := .ahead, applyd := 1000, routes := defaultRoutes }

/-- The default counter record (R56). -/
def defaultCounter : Counter :=
  { value := 0, low := 0, high := 999999999, step := 1, mode := .wrap, cascade := none, digits := 9, fill := .zero,
    exhausted := false }

/-- The width and phases of the default energy set at 25 °C (R132, R133). -/
def defaultStrobe : Strobe := { w := 600, a := 375, b := 112, c := 113 }

/-- A FREE band; its dots are not defined after power-on (R105) and are held as off (log entry 28). -/
def freshBand : Band :=
  { state := .free, owner := none, index := none, used := none, lines := List.replicate 64 0 }

/-- A fault record with both flags clear and reported state CLEAR (R191). -/
def clearFault : FaultRecord := { active := false, latched := false, reported := false }

/-- The part right after power-on with an EEPROM never written, which reads as all FFh (R203, R210): every block in
its power-on state, every setting at its default, the load of the settings image in progress (log entries 5, 6). -/
def State.reset : State :=
  { powered := true
    jl :=
      { records := [], receiving := [], receivingDamaged := false, receivingOverLong := false, cts := false,
        context := .none, reports := [], waiting := [], sent := 0, sending := false, hrdy := false, rate := 38400,
        rateSwitch := none }
    os :=
      { chain := Vector.replicate 256 .free, blocks := [], ram := Vector.replicate 48 none,
        romRefs := { rf8 := 0, rf16 := 0, rf32 := 0 }, defn := none }
    cb := Vector.replicate 8 defaultCounter
    jq := { jobs := [], assembly := none }
    re := { cursor := .idle, context := none }
    br := { bands := Vector.replicate 16 freshBand, fill := 15 }
    stu :=
      { active := defaultEnergy, width := defaultStrobe, buffered := defaultStrobe, swap := false, reading := 25,
        temp := 25, sensorValid := true, warm := false, hot := false }
    hi :=
      { power := .off, p1 := 0, p2 := 0, line := none, closing := false, lastMask := 0, owed := false,
        defect := false, verdictDue := false, verdict := none, defectCount := 0, idleTimer := none,
        offAfterStrobe := false, resumed := false }
    pe :=
      { engine := .idle, position := 0, furthest := 0, sensor := .low, sense := .highGap, lastCapture := none,
        lastGapStart := none, tops := [], violations := 0, calibrated := false, pitch := 0, cal := none,
        label := none, feedMove := none, presented := none, pause := {}, stock := .gap, contPitch := 800,
        stepTime := 0 }
    lp :=
      { on := false, print := false, purge := false, hold := false, taken := false, window := none, conveyor := 0,
        seq := 0, parcels := [], cursor := 0, applyWait := none, apply := { owed := 0, high := false },
        miss := { owed := 0, high := false } }
    fm := Vector.replicate 15 clearFault
    ss :=
      { settings := defaultSettings, image := none, writing := false, eeprom := List.replicate 256 0xFF,
        torn := false, start := .loading }
    fresh := 0
    pending := [] }

end Sys2Proof.Machine
end

