-- ==== Sys2Proof/Config.lean ====
section
/-! DEFINITION. What one implementation fixes and the manual does not state: free values, with no body, so that a
claim that mentions one holds whatever it is; and the fixed quantities of the part. -/

namespace Sys2Proof

open Machine

/-- The byte the block store would give at an address that nothing has written since the power-on numbered by the
first argument (R37: "Not defined; not read until written by a load"). Log entry 7. -/
opaque Config.undefinedStoreByte : Nat → Nat → Byte

/-- The byte at a position of the compiled object of a format (R39, R40 give its length only). Log entry 8. -/
opaque Config.compiledByte : Format → Nat → Byte

/-- Whether a ROM font's glyph marks the dot at a column and row (R208: "ROM content"). Log entry 9. -/
opaque Config.romGlyphDot : RomFont → (code column row : Nat) → Bool

/-- The length of a ROM font's content in bytes (R21 gives the field, R23 no value). Log entry 9. -/
opaque Config.romLength : RomFont → Nat

/-- Whether a write cut short by the power loss numbered by the first argument left the old byte at an offset of the
EEPROM image (R201: "a mixture of old and new bytes"). Log entry 10. -/
opaque Config.tornKeepsOld : Nat → Nat → Bool

/-- The media position after a step whose sum lies outside a signed 32-bit count (00 "Conventions"). Log entry 11. -/
opaque Config.positionBeyond : Int → Int

/-- Tshift, the time of one mask shift in microseconds (R124). -/
def Config.tshift : Nat := 104

/-- SOFF, the distance from the sensor to the burn line in steps (R150). -/
def Config.soff : Int := 96

/-- The step time of a calibration in microseconds (R150). -/
def Config.calStepTime : Nat := 1250

/-- The most steps a calibration feeds before it has found the stock (R155). -/
def Config.calLimit : Nat := 3000

/-- Positions of the receive buffer (R3). -/
def Config.bufferSize : Nat := 2048

/-- Positions of the report queue (R14). -/
def Config.reportSlots : Nat := 16

end Sys2Proof
end

