-- ==== Sys2Proof/Machine/Ops.lean ====
section
/-! DEFINITION. The shared operations over the block store, the directory and the job queue: bytes and byte order,
memory, chains and blocks, directory entries, name lookup, references, copies in print order. -/

namespace Sys2Proof.Machine

/-! ## Bytes -/

/-- The number a list of bytes stands for, least significant byte first (R205). -/
def fromBytes : List Byte → Nat
  | [] => 0
  | b :: bs => b.toNat + 256 * fromBytes bs

/-- A number as `n` bytes, least significant byte first (R205); higher parts are dropped. -/
def toBytes : Nat → Nat → List Byte
  | 0, _ => []
  | n + 1, v => BitVec.ofNat 8 v :: toBytes n (v / 256)

/-- A number of `w` bits read in two's complement (R205). -/
def fromSigned (w v : Nat) : Int := (BitVec.ofNat w v).toInt

/-- A signed number as the natural number its `w` bits spell (R205). -/
def toSigned (w : Nat) (v : Int) : Nat := (BitVec.ofInt w v).toNat

/-- The least of `x` and the greatest allowed, and the greatest of that and the least allowed (00 "Clamped"). -/
def clampInt (lo hi x : Int) : Int := max lo (min hi x)

/-- A number clamped to a range of natural numbers (R8). -/
def clampNat (lo hi : Nat) (x : Int) : Nat := (clampInt lo hi x).toNat

/-- ceil(a / b). -/
def ceilDiv (a b : Nat) : Nat := (a + b - 1) / b

/-! ## The block store's contents (R19) -/

/-- The byte stored at an address; absent where nothing has written it. -/
def Memory.read : Memory → Nat → Option Byte
  | [], _ => none
  | (a, b) :: m, i => if i = a then some b else if i < a then none else Memory.read m i

/-- The contents with one byte written, addresses strictly rising. -/
def Memory.write : Memory → Nat → Byte → Memory
  | [], i, v => [(i, v)]
  | (a, b) :: m, i, v =>
    if i = a then (i, v) :: m else if i < a then (i, v) :: (a, b) :: m else (a, b) :: Memory.write m i v

/-- The canonical form: addresses strictly rising. An unlisted address holds no defined byte, so no listed cell can
equal what an unlisted address reads as. -/
def Memory.wf : Memory → Bool
  | [] => true
  | [_] => true
  | (a, _) :: (b, y) :: m => decide (a < b) && Memory.wf ((b, y) :: m)

/-! ## Chains (R19, R20) -/

/-- The blocks of a chain from its first block, in order; `fuel` bounds the walk (a chain has at most 256). -/
def chainFrom (chain : Vector Link 256) : Nat → Option Nat → List Nat
  | 0, _ => []
  | _, none => []
  | fuel + 1, some b =>
    b :: match chain[b]? with
      | some (.next c) => chainFrom chain fuel (some c)
      | _ => []

/-- The blocks an entry holds, in chain order. -/
def entryBlocks (os : ObjectStore) (e : Entry) : List Nat := chainFrom os.chain 256 e.firstBlock

/-- The lowest-numbered FREE block (R20). -/
def lowestFree (os : ObjectStore) : Option Nat := os.chain.toList.findIdx? (fun l => l == .free)

/-- The RAM entry of a number, where it holds an object. -/
def ramEntry (os : ObjectStore) (i : Nat) : Option Entry := os.ram[i]?.join

/-- The directory with one RAM entry replaced. -/
def setEntry (i : Nat) (e : Option Entry) (os : ObjectStore) : ObjectStore :=
  { os with ram := os.ram.setIfInBounds i e }

/-- Every chain entry of the given blocks set to FREE (R20). -/
def freeBlocks (blocks : List Nat) (os : ObjectStore) : ObjectStore :=
  { os with chain := blocks.foldl (fun c b => c.setIfInBounds b .free) os.chain }

/-- A RAM entry freed with all its blocks (R20, R22). -/
def freeEntry (i : Nat) (os : ObjectStore) : ObjectStore :=
  match ramEntry os i with
  | some e => setEntry i none (freeBlocks (entryBlocks os e) os)
  | none => os

/-- One block allocated to RAM entry `i` (R20): the lowest FREE block becomes END and is linked behind the entry's
last block, or becomes its first; absent where no block is FREE. -/
def allocBlock (i : Nat) (e : Entry) (os : ObjectStore) : Option (Entry × ObjectStore) :=
  match lowestFree os with
  | none => none
  | some b =>
    let chain := os.chain.setIfInBounds b .last
    match (entryBlocks os e).getLast? with
    | some p =>
      some (e, { os with chain := chain.setIfInBounds p (.next b), ram := os.ram.setIfInBounds i (some e) })
    | none =>
      let e' := { e with firstBlock := some b }
      some (e', { os with chain := chain, ram := os.ram.setIfInBounds i (some e') })

/-- The address of byte `i` of an object held in the given blocks (R19). -/
def byteAddress (blocks : List Nat) (i : Nat) : Nat := 1024 * blocks.getD (i / 1024) 0 + i % 1024

/-- The contents with bytes written at consecutive positions of an object, from position `r` (R27). -/
def writeObject (blocks : List Nat) : Nat → List Byte → Memory → Memory
  | _, [], m => m
  | r, b :: bs, m => writeObject blocks (r + 1) bs (Memory.write m (byteAddress blocks r) b)

/-- Bytes appended to RAM entry `i` (R27, R31): one block more is allocated when the received count would pass
1024 × h; absent where that block is needed and none is FREE. A format's length is its compiled length so far, and a
font's or graphic's its declared one (R21). -/
def appendBytes (i : Nat) (e : Entry) (bytes : List Byte) (os : ObjectStore) : Option ObjectStore :=
  let r := e.received
  let room :=
    if r + bytes.length > 1024 * (entryBlocks os e).length then allocBlock i e os else some (e, os)
  match room with
  | none => none
  | some (e1, os1) =>
    let e2 : Entry :=
      { e1 with
        received := r + bytes.length
        length := if e1.kind = .format then r + bytes.length else e1.length }
    some { os1 with
      blocks := writeObject (entryBlocks os1 e1) r bytes os1.blocks
      ram := os1.ram.setIfInBounds i (some e2) }

/-! ## Directory entries -/

/-- The lowest-numbered RAM entry that `p` holds of (R21, R22). -/
def findEntry (os : ObjectStore) (p : Entry → Bool) : Option (Nat × Entry) :=
  match os.ram.toList.findIdx? (fun o => o.any p) with
  | none => none
  | some i => (ramEntry os i).map fun e => (i, e)

/-- The LOADING entry of the open load. -/
def loadingEntry (os : ObjectStore) : Option (Nat × Entry) := findEntry os fun e => e.state == .loading

/-- The LIVE RAM entry of a name; there is at most one (R24). -/
def liveEntry (os : ObjectStore) (name : Text) : Option (Nat × Entry) :=
  findEntry os fun e => e.state == .live && e.name == name

/-- The lowest-numbered free RAM entry (R21). -/
def freeEntryIndex (os : ObjectStore) : Option Nat := os.ram.toList.findIdx? (fun o => o.isNone)

/-- A new LOADING entry (R26, R31, R38). -/
def newEntry (name : Text) (kind : ObjectKind) (length : Nat) : Entry :=
  { name := name, kind := kind, generation := 0, state := .loading, firstBlock := none, length := length,
    received := 0, refs := 0, format := none }

/-- The open load abandoned (R30): the LOADING entry and its blocks become free, and the definition state ends. -/
def abandonLoad (os : ObjectStore) : ObjectStore :=
  match loadingEntry os with
  | some (i, _) => { freeEntry i os with defn := none }
  | none => { os with defn := none }

/-- The generation of an entry that becomes LIVE (R25), from the LIVE RAM entry of its name. -/
def nextGeneration (previous : Option (Nat × Entry)) : Nat :=
  match previous with
  | some (_, e) => if e.generation = 255 then 1 else e.generation + 1
  | none => 1

/-- A LIVE entry removed from its name (R29 step 2, R32): RETIRED while references hold it, else freed with all its
blocks. -/
def retireEntry (i : Nat) (e : Entry) (os : ObjectStore) : ObjectStore :=
  if e.refs > 0 then setEntry i (some { e with state := .retired }) os else freeEntry i os

/-- A load completed (R29): the LOADING entry `i` becomes LIVE with its generation and content, and the previous
LIVE entry of its name retires or is freed. -/
def completeLoad (i : Nat) (e : Entry) (length : Nat) (format : Option Format) (os : ObjectStore) : ObjectStore :=
  let previous := liveEntry os e.name
  let live :=
    { e with state := .live, length := length, generation := nextGeneration previous, format := format }
  let os := { setEntry i (some live) os with defn := none }
  match previous with
  | some (j, p) => retireEntry j p os
  | none => os

/-- The name of a ROM font (R23). -/
def RomFont.name : RomFont → Text
  | .rf8 => Sys2Proof.txt "RF8"
  | .rf16 => Sys2Proof.txt "RF16"
  | .rf32 => Sys2Proof.txt "RF32"

/-- The ROM font of a name. -/
def romNamed (name : Text) : Option RomFont := [RomFont.rf8, .rf16, .rf32].find? fun f => f.name == name

/-- The generation of a ROM entry (R23). -/
def RomFont.generation : RomFont → Nat
  | .rf8 => 1
  | .rf16 => 1
  | .rf32 => 1

/-- A ROM entry is shadowed while a RAM entry of its name is LIVE (R23). -/
def shadowed (os : ObjectStore) (f : RomFont) : Bool := (liveEntry os f.name).isSome

/-- The name lookup of R24: the LIVE RAM entry of the name decides, and a ROM font only where there is none. -/
def lookup (os : ObjectStore) (name : Text) (kind : ObjectKind) : Option EntryRef :=
  match liveEntry os name with
  | some (i, e) => if e.kind = kind then some (.ram i) else none
  | none =>
    match romNamed name with
    | some f => if kind = .font then some (.rom f) else none
    | none => none

/-! ## References (R33 to R35) -/

/-- The reference count of an entry. -/
def refCount (os : ObjectStore) : EntryRef → Nat
  | .ram i => ((ramEntry os i).map (·.refs)).getD 0
  | .rom .rf8 => os.romRefs.rf8
  | .rom .rf16 => os.romRefs.rf16
  | .rom .rf32 => os.romRefs.rf32

/-- The directory's description of an entry (R21, R23): a RAM entry as it stands, absent where it is free, and a ROM
entry, which is a LIVE font of generation 1 without a block and keeps its reference count. -/
def directoryEntry (os : ObjectStore) : EntryRef → Option DirectoryEntry
  | .ram i => (ramEntry os i).map fun e =>
    { name := e.name, kind := e.kind, origin := .ram, generation := e.generation, state := e.state,
      firstBlock := e.firstBlock, length := e.length, refs := e.refs }
  | .rom f => some
    { name := f.name, kind := .font, origin := .rom, generation := f.generation, state := .live, firstBlock := none,
      length := Config.romLength f, refs := refCount os (.rom f) }

/-- The directory with the reference count of an entry changed by `f`. -/
def mapRefs (f : Nat → Nat) (os : ObjectStore) : EntryRef → ObjectStore
  | .ram i =>
    match ramEntry os i with
    | some e => setEntry i (some { e with refs := f e.refs }) os
    | none => os
  | .rom .rf8 => { os with romRefs := { os.romRefs with rf8 := f os.romRefs.rf8 } }
  | .rom .rf16 => { os with romRefs := { os.romRefs with rf16 := f os.romRefs.rf16 } }
  | .rom .rf32 => { os with romRefs := { os.romRefs with rf32 := f os.romRefs.rf32 } }

/-- One reference taken (R33). -/
def takeRef (os : ObjectStore) (r : EntryRef) : ObjectStore := mapRefs (· + 1) os r

/-- A RETIRED entry whose count is 0 freed with its blocks (R35); any other entry as it stands. -/
def freeIfRetired (os : ObjectStore) : EntryRef → ObjectStore
  | .ram i =>
    match ramEntry os i with
    | some e => if e.state = .retired ∧ e.refs = 0 then freeEntry i os else os
    | none => os
  | .rom _ => os

/-- One reference released (R34, R35). -/
def dropRef (os : ObjectStore) (r : EntryRef) : ObjectStore := freeIfRetired (mapRefs (· - 1) os r) r

/-- The references a job holds: its format and its objects (R67). -/
def Job.refs (j : Job) : List EntryRef := j.format :: j.objects.map (·.2)

/-- Every reference of a job released (R34). -/
def releaseJob (os : ObjectStore) (j : Job) : ObjectStore := j.refs.foldl dropRef os

/-! ## Copies in print order (R66 to R78) -/

/-- A copy is terminal once it has a result (R73). -/
def CopyState.isTerminal : CopyState → Bool
  | .terminal _ => true
  | .waiting | .rendering | .rendered | .printing | .presented | .applying => false

/-- No mark is present. -/
def Marks.isEmpty (m : Marks) : Bool := !m.late && !m.withdrawn && !m.defect && !m.lost

/-- The print order (R68): every copy of every job, by the job's place and then by copy number. -/
def printOrder (s : State) : List (CopyId × Copy) :=
  s.jq.jobs.flatMap fun j => j.copies.map fun c => ({ tag := j.tag, number := c.number }, c)

/-- The job in a slot that carries a tag. -/
def jobOf (s : State) (tag : Nat) : Option Job := s.jq.jobs.find? fun j => j.tag == tag

/-- The copy record of a copy. -/
def copyOf (s : State) (id : CopyId) : Option Copy :=
  match jobOf s id.tag with
  | some j => j.copies.find? fun c => c.number == id.number
  | none => none

/-- The first job of a tag changed by `f`. -/
def updateFirst (tag : Nat) (f : Job → Job) : List Job → List Job
  | [] => []
  | j :: js => if j.tag = tag then f j :: js else j :: updateFirst tag f js

/-- The job of a tag changed by `f`. -/
def mapJob (tag : Nat) (f : Job → Job) (s : State) : State :=
  { s with jq := { s.jq with jobs := updateFirst tag f s.jq.jobs } }

/-- The copy record of a copy changed by `f`. -/
def mapCopy (id : CopyId) (f : Copy → Copy) (s : State) : State :=
  mapJob id.tag
    (fun j => { j with copies := j.copies.map fun c => if c.number = id.number then f c else c }) s

/-- A copy's state set (R74). -/
def setCopyState (id : CopyId) (st : CopyState) (s : State) : State :=
  mapCopy id (fun c => { c with state := st }) s

/-- A copy's bound field set (R76). -/
def setBound (id : CopyId) (b : Bool) (s : State) : State := mapCopy id (fun c => { c with bound := b }) s

/-- RE's next copy: the earliest WAITING copy (R68, R92). -/
def nextRenderCopy (s : State) : Option CopyId :=
  ((printOrder s).find? fun p => p.2.state == .waiting).map (·.1)

/-- PE's next copy: the earliest copy RENDERING or RENDERED (R68). -/
def nextPrintCopy (s : State) : Option CopyId :=
  ((printOrder s).find? fun p => p.2.state == .rendering || p.2.state == .rendered).map (·.1)

/-- How many copies of a list have a result that `p` holds of. -/
def countResults (p : CopyResult → Bool) (cs : List Copy) : Nat :=
  cs.countP fun c => match c.state with
    | .terminal r => p r
    | _ => false

/-- The DONE report of a job (R79). -/
def doneReport (j : Job) : Report :=
  .done j.tag
    (countResults (· == .applied) j.copies)
    (countResults (fun r => r == .missedUnprinted || r == .missedLate) j.copies)
    (countResults (fun r => r == .missedLate || r == .wasted) j.copies)
    (countResults (· == .voided) j.copies)
    (countResults (· == .failed) j.copies)
    (match j.firstSerial, j.lastSerial with
      | some a, some b => some (a, b)
      | _, _ => none)

/-- A job is FINISHED when every copy is terminal (R78). -/
def Job.finished (j : Job) : Bool := j.copies.all fun c => c.state.isTerminal

/-- The job states (R78), derived from the copy states: QUEUED, ACTIVE, FINISHED. -/
inductive JobState where
  | queued | active | finished
  deriving DecidableEq, Repr

/-- A job's state (R78). -/
def Job.state (j : Job) : JobState :=
  if j.copies.all (fun c => c.state == .waiting) then .queued
  else if j.finished then .finished
  else .active

/-! ## Reading a pinned object (R36) -/

/-- Byte `i` of the object in RAM entry `n` (R19); a byte that nothing has written is a free value (log entry 7). -/
def objectByte (s : State) (n i : Nat) : Byte :=
  match ramEntry s.os n with
  | some e =>
    let a := byteAddress (entryBlocks s.os e) i
    (Memory.read s.os.blocks a).getD (Config.undefinedStoreByte s.fresh a)
  | none => Config.undefinedStoreByte s.fresh i

/-- The number in `k` bytes of the object in RAM entry `n`, from position `i` (R205). -/
def objectNumber (s : State) (n i k : Nat) : Nat :=
  fromBytes ((List.range k).map fun d => objectByte s n (i + d))

/-- The format a reference pins (R55). -/
def pinnedFormat (s : State) : EntryRef → Option Format
  | .ram i => (ramEntry s.os i).bind (·.format)
  | .rom _ => none

/-! ## Named objects of a format (R41) -/

/-- The object a field names, if any. -/
def Field.names (f : Field) : Option NamedObject :=
  match f.body with
  | .txt font _ _ _ => some { name := font, kind := .font }
  | .bar _ _ _ _ _ _ _ hr => hr.map fun n => { name := n, kind := .font }
  | .box _ _ _ => none
  | .img g => some { name := g, kind := .graphic }

/-- The named-object list: the distinct pairs of the fields, in format order. -/
def namedObjects (fields : List Field) : List NamedObject :=
  fields.foldl (fun l f => match f.names with
    | some o => if l.contains o then l else l ++ [o]
    | none => l) []

end Sys2Proof.Machine
end

