-- ==== Sys2Proof/Machine/Flags.lean ====
section
/-! DEFINITION. The fault table's flags (Chapter 11): raising and clearing a kind, its route, the notice it owes, the
pause-reason set and the outputs that follow the flags. -/

namespace Sys2Proof.Machine

/-! ## Kinds (11.1) -/

/-- The fifteen kinds in kind order. -/
def FaultKind.all : List FaultKind :=
  [.mediaOut, .headHot, .headFault, .headWarm, .headSensor, .calFail, .headData, .senseFlip, .lineConflict,
    .lineOverrun, .lineSequence, .applyTimeout, .late, .linkError, .settingsLost]

/-- A kind's place in kind order. -/
def FaultKind.index : FaultKind → Fin 15
  | .mediaOut => 0
  | .headHot => 1
  | .headFault => 2
  | .headWarm => 3
  | .headSensor => 4
  | .calFail => 5
  | .headData => 6
  | .senseFlip => 7
  | .lineConflict => 8
  | .lineOverrun => 9
  | .lineSequence => 10
  | .applyTimeout => 11
  | .late => 12
  | .linkError => 13
  | .settingsLost => 14

/-- A kind's name. -/
def FaultKind.name : FaultKind → Text
  | .mediaOut => Sys2Proof.txt "MEDIA-OUT"
  | .headHot => Sys2Proof.txt "HEAD-HOT"
  | .headFault => Sys2Proof.txt "HEAD-FAULT"
  | .headWarm => Sys2Proof.txt "HEAD-WARM"
  | .headSensor => Sys2Proof.txt "HEAD-SENSOR"
  | .calFail => Sys2Proof.txt "CAL-FAIL"
  | .headData => Sys2Proof.txt "HEAD-DATA"
  | .senseFlip => Sys2Proof.txt "SENSE-FLIP"
  | .lineConflict => Sys2Proof.txt "LINE-CONFLICT"
  | .lineOverrun => Sys2Proof.txt "LINE-OVERRUN"
  | .lineSequence => Sys2Proof.txt "LINE-SEQUENCE"
  | .applyTimeout => Sys2Proof.txt "APPLY-TIMEOUT"
  | .late => Sys2Proof.txt "LATE"
  | .linkError => Sys2Proof.txt "LINK-ERROR"
  | .settingsLost => Sys2Proof.txt "SETTINGS-LOST"

/-- The three groups of kinds (Chapter 11): STOP, condition warning, event warning. -/
inductive FaultGroup where
  | stop | condition | event
  deriving DecidableEq, Repr

/-- A kind's group; its class is STOP for the first and WARN for the others (R191). -/
def FaultKind.group : FaultKind → FaultGroup
  | .mediaOut | .headHot | .headFault => .stop
  | .headWarm | .headSensor | .calFail => .condition
  | .headData | .senseFlip | .lineConflict | .lineOverrun | .lineSequence | .applyTimeout | .late | .linkError
  | .settingsLost => .event

/-! ## Flags -/

/-- A kind's record. -/
def faultOf (s : State) (k : FaultKind) : FaultRecord := s.fm[k.index]

/-- A kind's record replaced. -/
def setFault (k : FaultKind) (r : FaultRecord) (s : State) : State := { s with fm := s.fm.set k.index r }

/-- A kind raised (R192): its active and latched flags are set. Its notice is offered by `offerNotices`. -/
def raiseFlags (k : FaultKind) (s : State) : State :=
  setFault k { faultOf s k with active := true, latched := true } s

/-- A kind cleared: both flags clear (R193, R195, R130). -/
def clearFlags (k : FaultKind) (s : State) : State :=
  setFault k { faultOf s k with active := false, latched := false } s

/-- A condition warning whose condition ended: its active flag clears and its latched flag stays (R191). -/
def endCondition (k : FaultKind) (s : State) : State := setFault k { faultOf s k with active := false } s

/-- A kind's route (R196); its one home is the settings record. -/
def routeOf (s : State) (k : FaultKind) : Route := s.ss.settings.routes[k.index]

/-- A route that has FLT notices (R196). -/
def Route.toHost : Route → Bool
  | .host | .both => true
  | .none | .line => false

/-- A route that drives LINE-FAULT (R196). -/
def Route.toLine : Route → Bool
  | .line | .both => true
  | .none | .host => false

/-- A report is an FLT notice of the kind. -/
def isNoticeOf (k : FaultKind) : Report → Bool
  | .flt k' _ => k' == k
  | _ => false

/-- A notice is owed for the kind (R198): routed to the host, latched flag and reported state differ, and no notice
of the kind waits. Before the load completion of a start-up no notice is offered. -/
def noticeOwed (s : State) (k : FaultKind) : Bool :=
  s.ss.start != .loading && (routeOf s k).toHost && (faultOf s k).latched != (faultOf s k).reported
    && !(s.jl.waiting.any (isNoticeOf k))

/-- The kinds that STAT clears (R193 step 2): latched, and an event warning or an ended condition warning. -/
def clearedByStat (s : State) (k : FaultKind) : Bool :=
  (faultOf s k).latched && (k.group == .event || (k.group == .condition && !(faultOf s k).active))

/-- Every latched kind in kind order, with its active flag (R194). -/
def latchedFaults (s : State) : List (FaultKind × Bool) :=
  (FaultKind.all.filter fun k => (faultOf s k).latched).map fun k => (k, (faultOf s k).active)

/-- The LINE-FAULT output (R197): high, with the port ON, while a kind routed to the line is active. -/
def lineFaultOutput (s : State) : Bool :=
  s.lp.on && FaultKind.all.any fun k => (routeOf s k).toLine && (faultOf s k).active

/-- The READY output (R189). -/
def readyOutput (s : State) : Bool := s.lp.on && s.pe.presented.any fun p => !p.waste

/-- The WASTE output (R189). -/
def wasteOutput (s : State) : Bool := s.lp.on && s.pe.presented.any fun p => p.waste

/-! ## The pause-reason set (R167) -/

/-- The six pause reasons. -/
inductive PauseReason where
  | host | panel | line | hot | media | headFault
  deriving DecidableEq, Repr

/-- Whether a reason is present. -/
def PauseSet.has (p : PauseSet) : PauseReason → Bool
  | .host => p.host
  | .panel => p.panel
  | .line => p.line
  | .hot => p.hot
  | .media => p.media
  | .headFault => p.headFault

/-- The set with a reason made present or absent. -/
def PauseSet.put (p : PauseSet) (r : PauseReason) (b : Bool) : PauseSet :=
  match r with
  | .host => { p with host := b }
  | .panel => { p with panel := b }
  | .line => { p with line := b }
  | .hot => { p with hot := b }
  | .media => { p with media := b }
  | .headFault => { p with headFault := b }

/-- No reason is present. -/
def PauseSet.isEmpty (p : PauseSet) : Bool :=
  !p.host && !p.panel && !p.line && !p.hot && !p.media && !p.headFault

/-- A reason added (R167). -/
def addReason (r : PauseReason) (s : State) : State :=
  { s with pe := { s.pe with pause := s.pe.pause.put r true } }

/-- A reason taken out of the set, before PE acts on the change (R167, R168). -/
def dropReason (r : PauseReason) (s : State) : State :=
  { s with pe := { s.pe with pause := s.pe.pause.put r false } }

/-- The pause set was not empty before and is empty now: the event removed its last reason (R168). -/
def pauseEmptied (before after : State) : Bool := !before.pe.pause.isEmpty && after.pe.pause.isEmpty

/-! ## Speed limits (R129, R131, R139) -/

/-- S_eff: the active SPEED, limited to 150 while HEAD-WARM is active and to 100 while HEAD-SENSOR is active. -/
def effectiveSpeed (s : State) : Nat :=
  let v := s.stu.active.speed
  let v := if (faultOf s .headWarm).active then min v 150 else v
  if (faultOf s .headSensor).active then min v 100 else v

/-- Tline = floor(125000 / S_eff) in microseconds (R139). -/
def lineTime (s : State) : Nat := 125000 / effectiveSpeed s

end Sys2Proof.Machine
end

