-- ==== Sys2Proof/Machine/Reports.lean ====
section
/-! DEFINITION. Reports (1.6, 13.4): their text, the report queue and its waiting list, what follows when a report
enters the queue, and the transmitter. -/

namespace Sys2Proof.Machine

/-! ## Numbers and words as text (R211) -/

/-- The decimal digits of a number, least significant first; `fuel` bounds their count. -/
def digitsFrom : Nat → Nat → List Nat
  | 0, _ => []
  | fuel + 1, n => if n < 10 then [n] else (n % 10) :: digitsFrom fuel (n / 10)

/-- A number in decimal without leading zeros, 0 written as "0". -/
def natText (n : Nat) : Text := ((digitsFrom (n.log2 + 1) n).reverse).map fun d => BitVec.ofNat 8 (48 + d)

/-- A signed number in decimal, with a leading − when negative. -/
def intText (i : Int) : Text := if i < 0 then Sys2Proof.txt "-" ++ natText i.natAbs else natText i.natAbs

/-- Texts joined by a separator. -/
def joinText (sep : Text) : List Text → Text
  | [] => []
  | [t] => t
  | t :: ts => t ++ sep ++ joinText sep ts

/-- The word of an error code. -/
def ErrCode.name : ErrCode → Text
  | .syntaxErr => Sys2Proof.txt "SYNTAX"
  | .sequence => Sys2Proof.txt "SEQUENCE"
  | .range => Sys2Proof.txt "RANGE"
  | .busy => Sys2Proof.txt "BUSY"
  | .dupTag => Sys2Proof.txt "DUP-TAG"
  | .queueFull => Sys2Proof.txt "QUEUE-FULL"
  | .noObject => Sys2Proof.txt "NO-OBJECT"
  | .dirFull => Sys2Proof.txt "DIR-FULL"
  | .storeFull => Sys2Proof.txt "STORE-FULL"
  | .length => Sys2Proof.txt "LENGTH"
  | .readOnly => Sys2Proof.txt "READONLY"
  | .link => Sys2Proof.txt "LINK"

/-- The name of an engine state (R149). -/
def EngineState.name : EngineState → Text
  | .idle => Sys2Proof.txt "IDLE"
  | .calibrating => Sys2Proof.txt "CALIBRATING"
  | .backfeeding => Sys2Proof.txt "BACKFEEDING"
  | .printing => Sys2Proof.txt "PRINTING"
  | .halted => Sys2Proof.txt "HALTED"
  | .feedingOut => Sys2Proof.txt "FEEDING-OUT"
  | .holding => Sys2Proof.txt "HOLDING"

/-- The reasons of a pause set, in the order of R211. -/
def PauseSet.names (p : PauseSet) : List Text :=
  (if p.host then [Sys2Proof.txt "HOST"] else []) ++ (if p.panel then [Sys2Proof.txt "PANEL"] else [])
    ++ (if p.line then [Sys2Proof.txt "LINE"] else []) ++ (if p.hot then [Sys2Proof.txt "HOT"] else [])
    ++ (if p.media then [Sys2Proof.txt "MEDIA"] else [])
    ++ (if p.headFault then [Sys2Proof.txt "HEADFAULT"] else [])

/-- A list of words joined by "+", or NONE when it is empty (R211). -/
def plusList : List Text → Text
  | [] => Sys2Proof.txt "NONE"
  | t :: ts => joinText (Sys2Proof.txt "+") (t :: ts)

/-- The presented record as STS writes it (R211). -/
def presentedText : Option Presented → Text
  | none => Sys2Proof.txt "NONE"
  | some p =>
    (match p.copy with
      | some c => natText c.tag ++ Sys2Proof.txt "." ++ natText c.number
      | none => Sys2Proof.txt "NOCOPY")
    ++ (if p.waste then Sys2Proof.txt ":WASTE" else Sys2Proof.txt ":GOOD")

/-- The STS reply (R211). -/
def stsText (v : StsValues) : Text :=
  Sys2Proof.txt "STS " ++ joinText (Sys2Proof.txt ",")
    [ Sys2Proof.txt "ENG=" ++ v.engine.name,
      Sys2Proof.txt "PAUSE=" ++ plusList v.pause.names,
      Sys2Proof.txt "JOBS=" ++ natText v.jobs,
      Sys2Proof.txt "BANDS=" ++ natText v.readyBands,
      Sys2Proof.txt "PRES=" ++ presentedText v.presented,
      Sys2Proof.txt "T=" ++ intText v.reading,
      Sys2Proof.txt "SPD=" ++ natText v.speed,
      Sys2Proof.txt "PITCH=" ++ natText v.pitch,
      Sys2Proof.txt "CAL=" ++ (if v.calibrated then Sys2Proof.txt "YES" else Sys2Proof.txt "NO"),
      Sys2Proof.txt "LINE=" ++ (if v.portOn then Sys2Proof.txt "ON:" else Sys2Proof.txt "OFF:")
        ++ natText v.parcels,
      Sys2Proof.txt "FAULTS=" ++ plusList (v.faults.map fun f =>
        f.1.name ++ (if f.2 then Sys2Proof.txt ":A" else Sys2Proof.txt ":N")) ]

/-- A report's characters before its CR and LF (R13, R211). -/
def Report.body : Report → Text
  | .err code kw =>
    Sys2Proof.txt "ERR " ++ code.name ++ (match kw with
      | some k => Sys2Proof.txt "," ++ k
      | none => [])
  | .sts v => stsText v
  | .abt n => Sys2Proof.txt "ABT " ++ natText n
  | .done tag a m w v f serials =>
    Sys2Proof.txt "DONE " ++ joinText (Sys2Proof.txt ",") ([tag, a, m, w, v, f].map natText)
      ++ (match serials with
        | some (x, y) => Sys2Proof.txt ",S=" ++ natText x ++ Sys2Proof.txt "-" ++ natText y
        | none => [])
  | .flt k set =>
    Sys2Proof.txt "FLT " ++ k.name ++ (if set then Sys2Proof.txt ",SET" else Sys2Proof.txt ",CLEAR")
  | .cal pitch => Sys2Proof.txt "CAL " ++ (match pitch with
      | some p => natText p
      | none => Sys2Proof.txt "FAIL")
  | .rdy ok => Sys2Proof.txt "RDY " ++ (if ok then Sys2Proof.txt "OK" else Sys2Proof.txt "DEFAULT")

/-- A report as it is sent: its characters, then CR and LF (R4, R13). -/
def Report.text (r : Report) : Text := r.body ++ [13, 10]

/-! ## The transmitter (R2, R4) -/

/-- JL's receiver and transmitter run once the settings are loaded (R1). -/
def linkOn (s : State) : Bool := s.ss.start != .loading

/-- The report at the head of the queue may be sent now: while a rate switch is pending only noted reports are (R2). -/
def mayTransmit (s : State) : Bool :=
  linkOn s && s.jl.hrdy && !s.jl.reports.isEmpty && (match s.jl.rateSwitch with
    | some w => decide (w.noted > 0)
    | none => true)

/-- The transmitter begins the next character of the head report when it may and none is in transmission (R4). -/
def beginCharacter (s : State) : State :=
  if mayTransmit s then { s with jl := { s.jl with sending := true } } else s

/-- A pending rate switch ends when no noted report is left to send (R2): both directions take the new rate. -/
def endRateSwitch (s : State) : State :=
  match s.jl.rateSwitch with
  | some w => if w.noted = 0 then { s with jl := { s.jl with rate := w.rate, rateSwitch := none } } else s
  | none => s

/-- A RATE handed to JL (R2): where it differs from the rate in use a switch is made pending and the reports now in
the queue are noted; with none noted the switch happens at once. -/
def requestRate (rate : Nat) (s : State) : State :=
  if rate = s.jl.rate then s
  else endRateSwitch
    { s with jl := { s.jl with rateSwitch := some { rate := rate, noted := s.jl.reports.length } } }

/-! ## The report queue and the waiting list (R14, R15, R80) -/

/-- The binding cursor after the job at place `at` of the order leaves it (R180): it stays between the copies that
remain. -/
def cursorWithout (jobs : List Job) (tag : Nat) (cursor : Nat) : Nat :=
  match jobs with
  | [] => cursor
  | j :: js =>
    let n := j.copies.length
    if j.tag = tag then cursor - min cursor n
    else if cursor ≤ n then cursor else n + cursorWithout js tag (cursor - n)

/-- The jobs without the first of a tag. -/
def withoutJob (tag : Nat) : List Job → List Job
  | [] => []
  | j :: js => if j.tag = tag then js else j :: withoutJob tag js

/-- A FINISHED job's slot is freed (R80): its references are released and its copies leave the print order. -/
def freeSlot (tag : Nat) (s : State) : State :=
  match jobOf s tag with
  | some j =>
    { s with
      os := releaseJob s.os j
      jq := { s.jq with jobs := withoutJob tag s.jq.jobs }
      lp := { s.lp with cursor := cursorWithout s.jq.jobs tag s.lp.cursor } }
  | none => s

/-- Start-up or a soft reset ends when its RDY enters the report queue (R16). -/
def endStart (s : State) : State := { s with ss := { s.ss with start := .running } }

/-- What follows in the event in which a report enters the queue: DONE frees its job's slot (R80), RDY ends the start
(R16). -/
def onEnter (r : Report) (s : State) : State :=
  match r with
  | .done tag _ _ _ _ _ _ => freeSlot tag s
  | .rdy _ => endStart s
  | .err _ _ | .sts _ | .abt _ | .flt _ _ | .cal _ => s

/-- A report enters the report queue (R14). -/
def enterReport (r : Report) (s : State) : State :=
  beginCharacter (onEnter r { s with jl := { s.jl with reports := s.jl.reports ++ [r] } })

/-- An event report offered (R15): it enters at once where a position is free and nothing waits, and otherwise joins
the end of the waiting list. -/
def offerReport (r : Report) (s : State) : State :=
  if s.jl.reports.length < Config.reportSlots ∧ s.jl.waiting = [] then enterReport r s
  else { s with jl := { s.jl with waiting := s.jl.waiting ++ [r] } }

/-- The notice of a kind offered where it is owed, and its reported state set (R198). -/
def offerNotice (k : FaultKind) (s : State) : State :=
  if noticeOwed s k then
    offerReport (.flt k (faultOf s k).latched)
      (setFault k { faultOf s k with reported := (faultOf s k).latched } s)
  else s

/-- Every notice owed offered, in kind order (R198). -/
def offerNotices (s : State) : State := FaultKind.all.foldl (fun s k => offerNotice k s) s

/-- A kind raised in an event that raises no other: its flags, then its notice if owed (R192, R198). -/
def raiseFault (k : FaultKind) (s : State) : State := offerNotice k (raiseFlags k s)

/-- A freed position takes the oldest waiting report (R15); when that is an FLT notice, its kind is tested again
(R198). -/
def fillFreedPosition (s : State) : State :=
  match s.jl.waiting with
  | [] => s
  | r :: rest =>
    if s.jl.reports.length < Config.reportSlots then
      let s := enterReport r { s with jl := { s.jl with waiting := rest } }
      match r with
      | .flt k _ => offerNotice k s
      | .err _ _ | .sts _ | .abt _ | .done _ _ _ _ _ _ _ | .cal _ | .rdy _ => s
    else s

/-- The head report's position becomes free (R4, R14), a noted report counts toward the rate switch (R2), and the
oldest waiting report enters. -/
def leaveReport (s : State) : State :=
  let s := { s with jl := { s.jl with
    reports := s.jl.reports.tail
    sent := 0
    rateSwitch := s.jl.rateSwitch.map fun w => { w with noted := w.noted - 1 } } }
  fillFreedPosition (endRateSwitch s)

/-- A reply placed by the taking of a record (R14). -/
def reply (r : Report) (s : State) : State := enterReport r s

end Sys2Proof.Machine
end

