-- ==== Sys2Proof/Machine/Operands.lean ====
section
/-! DEFINITION. The operand forms of the record language (1.3, 1.5): keywords, parameters of every kind of R7, and the
form of each of the 25 records as its owning chapter gives it. -/

namespace Sys2Proof.Machine

/-! ## Keywords (R6, R12) -/

/-- The 25 keywords of the dispatch table. -/
inductive Keyword where
  | obj | blk | eob | del | fmt | txt | bar | box | img | fend | ctr | job | dat | eoj | can | abort | set | save
  | reset | cal | pause | go | line | clr | stat
  deriving DecidableEq, Repr

/-- Every keyword. -/
def Keyword.all : List Keyword :=
  [.obj, .blk, .eob, .del, .fmt, .txt, .bar, .box, .img, .fend, .ctr, .job, .dat, .eoj, .can, .abort, .set, .save,
    .reset, .cal, .pause, .go, .line, .clr, .stat]

/-- A keyword as it stands on the link. -/
def Keyword.text : Keyword → Text
  | .obj => Sys2Proof.txt "OBJ"
  | .blk => Sys2Proof.txt "BLK"
  | .eob => Sys2Proof.txt "EOB"
  | .del => Sys2Proof.txt "DEL"
  | .fmt => Sys2Proof.txt "FMT"
  | .txt => Sys2Proof.txt "TXT"
  | .bar => Sys2Proof.txt "BAR"
  | .box => Sys2Proof.txt "BOX"
  | .img => Sys2Proof.txt "IMG"
  | .fend => Sys2Proof.txt "FEND"
  | .ctr => Sys2Proof.txt "CTR"
  | .job => Sys2Proof.txt "JOB"
  | .dat => Sys2Proof.txt "DAT"
  | .eoj => Sys2Proof.txt "EOJ"
  | .can => Sys2Proof.txt "CAN"
  | .abort => Sys2Proof.txt "ABORT"
  | .set => Sys2Proof.txt "SET"
  | .save => Sys2Proof.txt "SAVE"
  | .reset => Sys2Proof.txt "RESET"
  | .cal => Sys2Proof.txt "CAL"
  | .pause => Sys2Proof.txt "PAUSE"
  | .go => Sys2Proof.txt "GO"
  | .line => Sys2Proof.txt "LINE"
  | .clr => Sys2Proof.txt "CLR"
  | .stat => Sys2Proof.txt "STAT"

/-- The keyword a text is, if it is one of the 25. -/
def keywordOf (t : Text) : Option Keyword := Keyword.all.find? fun k => k.text == t

/-! ## Characters -/

/-- A capital letter. -/
def isCapital (b : Byte) : Bool := decide (65 ≤ b.toNat) && decide (b.toNat ≤ 90)

/-- A decimal digit. -/
def isDigit (b : Byte) : Bool := decide (48 ≤ b.toNat) && decide (b.toNat ≤ 57)

/-- A character of a name: A–Z or 0–9. -/
def isNameChar (b : Byte) : Bool := isCapital b || isDigit b

/-- A character of a word or key: A–Z, 0–9 or hyphen. -/
def isWordChar (b : Byte) : Bool := isNameChar b || b == 45

/-- A character a record may hold: 32–126 (R5). -/
def isPrintable (b : Byte) : Bool := decide (32 ≤ b.toNat) && decide (b.toNat ≤ 126)

/-- A digit of a hex run: 0–9 or A–F (R7). -/
def isHex (b : Byte) : Bool := isDigit b || (decide (65 ≤ b.toNat) && decide (b.toNat ≤ 70))

/-! ## The head of a record: checks 2 and 3 of R11 -/

/-- What checks 2 and 3 of R11 make of a record: refused with SYNTAX, with or without a keyword in the report, or a
known keyword and what stands behind the space after it. -/
inductive RecordHead where
  | refused (keyword : Option Text)
  | known (keyword : Keyword) (rest : Option Text)
  deriving DecidableEq, Repr

/-- The keyword is 2 to 5 capitals (R6). -/
def keywordShaped (t : Text) : Bool := decide (2 ≤ t.length) && decide (t.length ≤ 5) && t.all isCapital

/-- Checks 2 and 3 of R11. The keyword is what stands before the first space or the end (log entry 14). -/
def headOf (r : Record) : RecordHead :=
  let kw := r.chars.takeWhile (· != 32)
  let rest := (r.chars.dropWhile (· != 32)).tail?
  if keywordShaped kw then
    if r.overLong || !r.chars.all isPrintable then .refused (some kw)
    else match keywordOf kw with
      | some k => .known k rest
      | none => .refused (some kw)
  else .refused none

/-! ## Parameters (R6, R7) -/

/-- A parameter by its writing: a quoted string's text, KEY=VALUE, or a bare token. -/
inductive Param where
  | quoted (text : Text)
  | keyval (key value : Text)
  | bare (token : Text)
  deriving DecidableEq, Repr

/-- The tokens between commas outside quotes; absent where a space stands outside a quoted string or a quote is left
open (R6, R7). -/
def splitTokens : Text → (inQuote : Bool) → (token : Text) → Option (List Text)
  | [], q, acc => if q then none else some [acc]
  | c :: cs, q, acc =>
    if c = 34 then splitTokens cs (!q) (acc ++ [c])
    else if c = 44 ∧ q = false then (splitTokens cs false []).map fun ts => acc :: ts
    else if c = 32 ∧ q = false then none
    else splitTokens cs q (acc ++ [c])

/-- The text of a quoted string behind its opening quote: "" stands for one quote, and the closing quote ends the
token (R7). -/
def unquote : Text → Option Text
  | [] => none
  | [c] => if c = 34 then some [] else none
  | c :: d :: cs =>
    if c = 34 then if d = 34 then (unquote cs).map fun t => 34 :: t else none
    else (unquote (d :: cs)).map fun t => c :: t

/-- The integer a token writes: an optional sign, then 1 to 10 decimal digits (R7). -/
def readInt (t : Text) : Option Int :=
  let digits := match t with
    | c :: cs => if c = 43 ∨ c = 45 then cs else t
    | [] => []
  if 1 ≤ digits.length ∧ digits.length ≤ 10 ∧ digits.all isDigit then
    let n : Nat := digits.foldl (fun acc d => 10 * acc + (d.toNat - 48)) 0
    some (if t.head? = some 45 then -(n : Int) else n)
  else none

/-- A token is written as a word: 1 to 24 characters from A–Z, 0–9 and hyphen (R7). -/
def isWord (t : Text) : Bool := decide (1 ≤ t.length) && decide (t.length ≤ 24) && t.all isWordChar

/-- One token read as a parameter; absent where it is empty or of no kind (R6, R7). A value that is neither an integer nor
a word is of no kind, an HR value of more than 24 characters included (R7 against R50, log entry 54). -/
def readParam (t : Text) : Option Param :=
  match t with
  | [] => none
  | c :: cs =>
    if c = 34 then (unquote cs).map .quoted
    else if t.contains 61 then
      let k := t.takeWhile (· != 61)
      let v := (t.dropWhile (· != 61)).tail
      if 2 ≤ k.length ∧ k.length ≤ 24 ∧ k.all isWordChar ∧ ((readInt v).isSome ∨ isWord v) then
        some (.keyval k v)
      else none
    else if t.contains 34 then none
    else some (.bare t)

/-- The keys of a parameter list, in order. -/
def keysOf (ps : List Param) : List Text :=
  ps.filterMap fun p => match p with
    | .keyval k _ => some k
    | .quoted _ | .bare _ => none

/-- No key appears twice (R7). -/
def noRepeats : List Text → Bool
  | [] => true
  | k :: ks => !ks.contains k && noRepeats ks

/-- The parameter list behind the keyword's space; absent where R6 or R7 refuses it whole with SYNTAX. -/
def readParams (rest : Option Text) : Option (List Param) :=
  match rest with
  | none => some []
  | some t =>
    match splitTokens t false [] with
    | none => none
    | some ts =>
      match ts.mapM readParam with
      | none => none
      | some ps => if noRepeats (keysOf ps) then some ps else none

/-! ## Reading parameters by the form (R7)

A form check ends with a value, with RANGE or with SYNTAX; within one record SYNTAX outranks RANGE (log entry 13). -/

/-- The outcome of check 5 of R11. -/
inductive FormCheck (α : Type) where
  | ok (value : α)
  | range
  | bad
  deriving DecidableEq, Repr

/-- Two checks of one record together. -/
def FormCheck.both {α β : Type} (a : FormCheck α) (b : FormCheck β) : FormCheck (α × β) :=
  match a, b with
  | .ok x, .ok y => .ok (x, y)
  | .bad, _ => .bad
  | _, .bad => .bad
  | .range, _ => .range
  | _, .range => .range

/-- The value of a check changed by `f`. -/
def FormCheck.map {α β : Type} (f : α → β) : FormCheck α → FormCheck β
  | .ok x => .ok (f x)
  | .range => .range
  | .bad => .bad

/-- A parameter read as an integer. -/
def asInt : Param → FormCheck Int
  | .bare t => match readInt t with
    | some i => .ok i
    | none => .bad
  | .quoted _ | .keyval _ _ => .bad

/-- A parameter read as an object name: longer than 8 characters is RANGE. -/
def asName : Param → FormCheck Text
  | .bare t => if t.all isNameChar then if t.length ≤ 8 then .ok t else .range else .bad
  | .quoted _ | .keyval _ _ => .bad

/-- The value a word stands for in a fixed set; another word is RANGE. -/
def wordValue {α : Type} (allowed : List (Text × α)) (t : Text) : FormCheck α :=
  if isWord t then
    match allowed.find? fun p => p.1 == t with
    | some p => .ok p.2
    | none => .range
  else .bad

/-- A parameter read as a word of a fixed set. -/
def asWord {α : Type} (allowed : List (Text × α)) : Param → FormCheck α
  | .bare t => wordValue allowed t
  | .quoted _ | .keyval _ _ => .bad

/-- A parameter read as a quoted string. -/
def asQuoted : Param → FormCheck Text
  | .quoted t => .ok t
  | .keyval _ _ | .bare _ => .bad

/-- The value of a hex digit. -/
def hexValue (b : Byte) : Nat := if isDigit b then b.toNat - 48 else b.toNat - 55

/-- The bytes of an even run of hex digits, the first of each pair being the high half. -/
def hexBytes : Text → List Byte
  | a :: b :: cs => BitVec.ofNat 8 (16 * hexValue a + hexValue b) :: hexBytes cs
  | _ => []

/-- A parameter read as a hex run: longer than 480 characters is RANGE. -/
def asHex : Param → FormCheck (List Byte)
  | .bare t =>
    if t.all isHex ∧ t.length % 2 = 0 then if t.length ≤ 480 then .ok (hexBytes t) else .range else .bad
  | .quoted _ | .keyval _ _ => .bad

/-- The keys and values of trailing parameters; absent where one is of another kind. -/
def keyvals : List Param → Option (List (Text × Text))
  | [] => some []
  | .keyval k v :: ps => (keyvals ps).map fun kvs => (k, v) :: kvs
  | .quoted _ :: _ => none
  | .bare _ :: _ => none

/-- The trailing KEY=VALUE parameters of a record whose form has `most` keys, of which this record accepts some, read
by `f` (R7): another kind of parameter, or more than `most` of them, is SYNTAX; a key the record does not accept is
RANGE, whatever its value, which is not read. -/
def withKeysOf {α : Type} (most : Nat) (accepted : List Text) (ks : List Param)
    (f : List (Text × Text) → FormCheck α) : FormCheck α :=
  match keyvals ks with
  | none => .bad
  | some kvs =>
    if kvs.length ≤ most then
      ((if kvs.all fun p => accepted.contains p.1 then .ok () else .range : FormCheck Unit).both
        (f (kvs.filter fun p => accepted.contains p.1))).map (·.2)
    else .bad

/-- The trailing KEY=VALUE parameters of a record that accepts every key of its form. -/
def withKeys {α : Type} (accepted : List Text) (ks : List Param) (f : List (Text × Text) → FormCheck α) :
    FormCheck α :=
  withKeysOf accepted.length accepted ks f

/-- The value written for a key, if the record gives it. -/
def keyText (k : Text) (kvs : List (Text × Text)) : Option Text :=
  (kvs.find? fun p => p.1 == k).map (·.2)

/-- A key read as an integer; absent where the record omits it. A word given to an integer key is SYNTAX, a parameter
that is not of the expected kind (log entry 47). -/
def keyInt (k : Text) (kvs : List (Text × Text)) : FormCheck (Option Int) :=
  match keyText k kvs with
  | none => .ok none
  | some v => match readInt v with
    | some i => .ok (some i)
    | none => .bad

/-- A key read as a word of a fixed set; absent where the record omits it. -/
def keyWord {α : Type} (k : Text) (allowed : List (Text × α)) (kvs : List (Text × Text)) : FormCheck (Option α) :=
  match keyText k kvs with
  | none => .ok none
  | some v => (wordValue allowed v).map some

/-! ## The forms -/

/-- A record with no parameters. -/
def formNone : List Param → FormCheck Unit
  | [] => .ok ()
  | _ :: _ => .bad

/-- OBJ name,kind,length (R26). -/
structure ObjForm where
  name : Text
  kind : ObjectKind
  length : Int
  deriving DecidableEq, Repr

/-- The form of OBJ (R26). -/
def formObj : List Param → FormCheck ObjForm
  | [n, k, l] =>
    ((asName n).both ((asWord [(Sys2Proof.txt "FONT", ObjectKind.font), (Sys2Proof.txt "GRAPHIC", .graphic)] k).both
      (asInt l))).map fun p => { name := p.1, kind := p.2.1, length := p.2.2 }
  | _ => .bad

/-- The form of BLK (R27). -/
def formBlk : List Param → FormCheck (List Byte)
  | [h] => asHex h
  | _ => .bad

/-- The form of DEL (R32). -/
def formDel : List Param → FormCheck Text
  | [n] => asName n
  | _ => .bad

/-- FMT name,length[,width] (R38). -/
structure FmtForm where
  name : Text
  length : Int
  width : Option Int
  deriving DecidableEq, Repr

/-- The form of FMT (R38). -/
def formFmt : List Param → FormCheck FmtForm
  | [n, l] => ((asName n).both (asInt l)).map fun p => { name := p.1, length := p.2, width := none }
  | [n, l, w] =>
    ((asName n).both ((asInt l).both (asInt w))).map fun p =>
      { name := p.1, length := p.2.1, width := some p.2.2 }
  | _ => .bad

/-- The words of MODE on a field record (R42). -/
def drawModes : List (Text × DrawMode) :=
  [(Sys2Proof.txt "SET", .set), (Sys2Proof.txt "CLEAR", .clear), (Sys2Proof.txt "INVERT", .invert)]

/-- What every field record gives (R42), before the compiler's range checks. -/
structure PlaceForm where
  x : Int
  y : Int
  rot : Option Int
  mode : DrawMode
  deriving DecidableEq, Repr

/-- The origin, ROT and MODE of a field record (R42). -/
def formPlace (x y : Param) (kvs : List (Text × Text)) : FormCheck PlaceForm :=
  ((asInt x).both ((asInt y).both ((keyInt (Sys2Proof.txt "ROT") kvs).both
    (keyWord (Sys2Proof.txt "MODE") drawModes kvs)))).map fun p =>
      { x := p.1, y := p.2.1, rot := p.2.2.1, mode := p.2.2.2.getD .set }

/-- A source as written (R46): the number is not checked yet. -/
inductive SourceForm where
  | literal (text : Text)
  | item (n : Int)
  | ctr (n : Int)
  deriving DecidableEq, Repr

/-- The fourth parameter of TXT and BAR (R46). A KEY=VALUE of any other key, one of the record's later keys included, is
RANGE, a key not accepted there; a word given to ITEM or CTR is SYNTAX (log entries 47, 48). -/
def asSource : Param → FormCheck SourceForm
  | .quoted t => .ok (.literal t)
  | .keyval k v =>
    if k = Sys2Proof.txt "ITEM" then match readInt v with
      | some i => .ok (.item i)
      | none => .bad
    else if k = Sys2Proof.txt "CTR" then match readInt v with
      | some i => .ok (.ctr i)
      | none => .bad
    else .range
  | .bare _ => .bad

/-- TXT x,y,font,source[,keys] (R48). -/
structure TxtForm where
  place : PlaceForm
  font : Text
  source : SourceForm
  mx : Option Int
  my : Option Int
  deriving DecidableEq, Repr

/-- The form of TXT (R48). -/
def formTxt : List Param → FormCheck TxtForm
  | x :: y :: f :: src :: ks =>
    withKeys [Sys2Proof.txt "ROT", Sys2Proof.txt "MODE", Sys2Proof.txt "MX", Sys2Proof.txt "MY"] ks fun kvs =>
      ((formPlace x y kvs).both ((asName f).both ((asSource src).both
        ((keyInt (Sys2Proof.txt "MX") kvs).both (keyInt (Sys2Proof.txt "MY") kvs))))).map fun p =>
          { place := p.1, font := p.2.1, source := p.2.2.1, mx := p.2.2.2.1, my := p.2.2.2.2 }
  | _ => .bad

/-- BAR x,y,symbology,source[,keys] (R50). `hr` is absent where HR is omitted or NONE. -/
structure BarForm where
  place : PlaceForm
  symbology : Symbology
  source : SourceForm
  module : Option Int
  wide : Option Int
  height : Option Int
  reduction : Option Int
  check : Bool
  hr : Option Text
  deriving DecidableEq, Repr

/-- The symbology words (R50). -/
def symbologies : List (Text × Symbology) := [(Sys2Proof.txt "C128", .c128), (Sys2Proof.txt "I25", .i25)]

/-- The keys BAR accepts for a symbology (R50): WIDE and CHECK with I25 only. -/
def barKeys (i25 : Bool) : List Text :=
  [Sys2Proof.txt "MOD", Sys2Proof.txt "HT", Sys2Proof.txt "RED", Sys2Proof.txt "HR", Sys2Proof.txt "ROT",
    Sys2Proof.txt "MODE"]
  ++ if i25 then [Sys2Proof.txt "WIDE", Sys2Proof.txt "CHECK"] else []

/-- The value of HR (R50): NONE, or a name; more than 8 characters or a hyphen is RANGE. One of more than 24 characters is
no word and never comes here (`readParam`, log entry 54). -/
def keyHr (kvs : List (Text × Text)) : FormCheck (Option Text) :=
  match keyText (Sys2Proof.txt "HR") kvs with
  | none => .ok none
  | some v =>
    if isWord v then
      if v = Sys2Proof.txt "NONE" then .ok none
      else if v.length ≤ 8 ∧ v.all isNameChar then .ok (some v) else .range
    else .bad

/-- The form of BAR once its symbology is known (R50): eight keys, of which a C128 field accepts six. -/
def formBarAs (sym : FormCheck Symbology) (x y src : Param) (ks : List Param) : FormCheck BarForm :=
  withKeysOf 8 (barKeys (sym != .ok .c128)) ks fun kvs =>
    ((formPlace x y kvs).both (sym.both ((asSource src).both ((keyInt (Sys2Proof.txt "MOD") kvs).both
      ((keyInt (Sys2Proof.txt "WIDE") kvs).both ((keyInt (Sys2Proof.txt "HT") kvs).both
        ((keyInt (Sys2Proof.txt "RED") kvs).both
          ((keyWord (Sys2Proof.txt "CHECK") [(Sys2Proof.txt "ON", true), (Sys2Proof.txt "OFF", false)] kvs).both
            (keyHr kvs))))))))).map fun p =>
      { place := p.1, symbology := p.2.1, source := p.2.2.1, module := p.2.2.2.1, wide := p.2.2.2.2.1,
        height := p.2.2.2.2.2.1, reduction := p.2.2.2.2.2.2.1, check := p.2.2.2.2.2.2.2.1.getD true,
        hr := p.2.2.2.2.2.2.2.2 }

/-- The form of BAR (R50). -/
def formBar : List Param → FormCheck BarForm
  | x :: y :: sym :: src :: ks => formBarAs (asWord symbologies sym) x y src ks
  | _ => .bad

/-- BOX x,y,width,height[,keys] (R52). -/
structure BoxForm where
  place : PlaceForm
  width : Int
  height : Int
  thickness : Option Int
  deriving DecidableEq, Repr

/-- The form of BOX (R52). -/
def formBox : List Param → FormCheck BoxForm
  | x :: y :: w :: h :: ks =>
    withKeys [Sys2Proof.txt "TH", Sys2Proof.txt "ROT", Sys2Proof.txt "MODE"] ks fun kvs =>
      ((formPlace x y kvs).both ((asInt w).both ((asInt h).both (keyInt (Sys2Proof.txt "TH") kvs)))).map fun p =>
        { place := p.1, width := p.2.1, height := p.2.2.1, thickness := p.2.2.2 }
  | _ => .bad

/-- IMG x,y,graphic[,keys] (R54). -/
structure ImgForm where
  place : PlaceForm
  graphic : Text
  deriving DecidableEq, Repr

/-- The form of IMG (R54). -/
def formImg : List Param → FormCheck ImgForm
  | x :: y :: g :: ks =>
    withKeys [Sys2Proof.txt "ROT", Sys2Proof.txt "MODE"] ks fun kvs =>
      ((formPlace x y kvs).both (asName g)).map fun p => { place := p.1, graphic := p.2 }
  | _ => .bad

/-- CTR n[,keys] (R57). NEXT is an integer or NONE. -/
structure CtrForm where
  number : Int
  value : Option Int
  low : Option Int
  high : Option Int
  step : Option Int
  mode : Option CounterMode
  next : Option Int
  digits : Option Int
  fill : Option CounterFill
  deriving DecidableEq, Repr

/-- The value of NEXT (R57): an integer, or the word NONE. -/
def keyNext (kvs : List (Text × Text)) : FormCheck (Option Int) :=
  match keyText (Sys2Proof.txt "NEXT") kvs with
  | none => .ok none
  | some v => match readInt v with
    | some i => .ok (some i)
    | none => if isWord v then if v = Sys2Proof.txt "NONE" then .ok none else .range else .bad

/-- The keys of CTR (R57). -/
def ctrKeys : List Text :=
  [Sys2Proof.txt "VAL", Sys2Proof.txt "LO", Sys2Proof.txt "HI", Sys2Proof.txt "STEP", Sys2Proof.txt "MODE",
    Sys2Proof.txt "NEXT", Sys2Proof.txt "DIG", Sys2Proof.txt "FILL"]

/-- The form of CTR (R57). -/
def formCtr : List Param → FormCheck CtrForm
  | n :: ks =>
    withKeys ctrKeys ks fun kvs =>
      ((asInt n).both ((keyInt (Sys2Proof.txt "VAL") kvs).both ((keyInt (Sys2Proof.txt "LO") kvs).both
        ((keyInt (Sys2Proof.txt "HI") kvs).both ((keyInt (Sys2Proof.txt "STEP") kvs).both
          ((keyWord (Sys2Proof.txt "MODE")
              [(Sys2Proof.txt "WRAP", CounterMode.wrap), (Sys2Proof.txt "HOLD", .hold)] kvs).both
            ((keyNext kvs).both ((keyInt (Sys2Proof.txt "DIG") kvs).both
              (keyWord (Sys2Proof.txt "FILL")
                [(Sys2Proof.txt "ZERO", CounterFill.zero), (Sys2Proof.txt "SPACE", .space)] kvs))))))))).map fun p =>
        { number := p.1, value := p.2.1, low := p.2.2.1, high := p.2.2.2.1, step := p.2.2.2.2.1,
          mode := p.2.2.2.2.2.1, next := p.2.2.2.2.2.2.1, digits := p.2.2.2.2.2.2.2.1,
          fill := p.2.2.2.2.2.2.2.2 }
  | [] => .bad

/-- JOB tag,format[,COPIES=n] (R69). -/
structure JobForm where
  tag : Int
  format : Text
  copies : Option Int
  deriving DecidableEq, Repr

/-- The form of JOB (R69). -/
def formJob : List Param → FormCheck JobForm
  | t :: f :: ks =>
    withKeys [Sys2Proof.txt "COPIES"] ks fun kvs =>
      ((asInt t).both ((asName f).both (keyInt (Sys2Proof.txt "COPIES") kvs))).map fun p =>
        { tag := p.1, format := p.2.1, copies := p.2.2 }
  | _ => .bad

/-- The form of DAT (R70): an integer and a quoted string. -/
def formDat : List Param → FormCheck (Int × Text)
  | [i, t] => (asInt i).both (asQuoted t)
  | _ => .bad

/-- The form of CAN (R81): one integer. -/
def formCan : List Param → FormCheck Int
  | [t] => asInt t
  | _ => .bad

/-- The form of LINE (R172): the word ON or OFF. -/
def formLine : List Param → FormCheck Bool
  | [w] => asWord [(Sys2Proof.txt "ON", true), (Sys2Proof.txt "OFF", false)] w
  | _ => .bad

/-! ## SET (R200) -/

/-- One key of SET with its value, before rounding and clamping (R8). -/
inductive SetItem where
  | rate (v : Int)
  | speed (v : Int)
  | dark (v : Int)
  | basew (v : Int)
  | ha (v : Int)
  | hb (v : Int)
  | split (v : Int)
  | idle (v : Int)
  | media (v : MediaKind)
  | pitch (v : Int)
  | peel (v : Int)
  | start (v : Int)
  | mode (v : LineMode)
  | applyd (v : Int)
  | route (k : FaultKind) (v : Route)
  deriving DecidableEq, Repr

/-- The words of a route (R196). -/
def routeWords : List (Text × Route) :=
  [(Sys2Proof.txt "LINE", .line), (Sys2Proof.txt "HOST", .host), (Sys2Proof.txt "BOTH", .both),
    (Sys2Proof.txt "NONE", .none)]

/-- The words of MEDIA (R200). -/
def mediaWords : List (Text × MediaKind) :=
  [(Sys2Proof.txt "GAP", .gap), (Sys2Proof.txt "MARK", .mark), (Sys2Proof.txt "CONT", .cont)]

/-- The words of MODE on SET (R174). -/
def lineModeWords : List (Text × LineMode) := [(Sys2Proof.txt "AHEAD", .ahead), (Sys2Proof.txt "TRIGGER", .trigger)]

/-- The numeric keys of SET (R200). -/
def numericKeys : List (Text × (Int → SetItem)) :=
  [(Sys2Proof.txt "RATE", .rate), (Sys2Proof.txt "SPEED", .speed), (Sys2Proof.txt "DARK", .dark),
    (Sys2Proof.txt "BASEW", .basew), (Sys2Proof.txt "HA", .ha), (Sys2Proof.txt "HB", .hb),
    (Sys2Proof.txt "SPLIT", .split), (Sys2Proof.txt "IDLE", .idle), (Sys2Proof.txt "PITCH", .pitch),
    (Sys2Proof.txt "PEEL", .peel), (Sys2Proof.txt "START", .start), (Sys2Proof.txt "APPLYD", .applyd)]

/-- The kind a route key names (R196): ROUTE- followed by the kind's name. -/
def routeKind (k : Text) : Option FaultKind := FaultKind.all.find? fun f => Sys2Proof.txt "ROUTE-" ++ f.name == k

/-- One key and value of SET (R200, R7): an unknown key is RANGE. -/
def readSetItem (k v : Text) : FormCheck SetItem :=
  match numericKeys.find? fun p => p.1 == k with
  | some p => match readInt v with
    | some i => .ok (p.2 i)
    | none => .bad
  | none =>
    if k = Sys2Proof.txt "MEDIA" then (wordValue mediaWords v).map .media
    else if k = Sys2Proof.txt "MODE" then (wordValue lineModeWords v).map .mode
    else match routeKind k with
      | some f => (wordValue routeWords v).map (.route f)
      | none => .range

/-- The keys of a SET, in the order given. -/
def readSetItems : List Param → FormCheck (List SetItem)
  | [] => .ok []
  | .keyval k v :: ps => ((readSetItem k v).both (readSetItems ps)).map fun p => p.1 :: p.2
  | .quoted _ :: _ => .bad
  | .bare _ :: _ => .bad

/-- The form of SET (R200): one key or more. -/
def formSet : List Param → FormCheck (List SetItem)
  | [] => .bad
  | p :: ps => readSetItems (p :: ps)

end Sys2Proof.Machine
end

