-- ==== Sys2Proof/Machine/BarCode.lean ====
section
/-! DEFINITION. Bar codes (Chapter 7): fitness of the text, C128 and I25 encoding, the element list and its width. -/

namespace Sys2Proof.Machine

/-! ## Fitness (R109) -/

/-- A text is fit for a symbology: 1 to 48 characters, printable for C128 and digits for I25 (R109). -/
def fitText (sym : Symbology) (t : Text) : Bool :=
  decide (1 ≤ t.length) && decide (t.length ≤ 48) && (match sym with
    | .c128 => t.all isPrintable
    | .i25 => t.all isDigit)

/-! ## C128 (R110 to R114) -/

/-- The patterns of the values 0 to 106, in modules from the first bar (R110). -/
def c128Patterns : List (List Nat) :=
  [ [2, 1, 2, 2, 2, 2], [2, 2, 2, 1, 2, 2], [2, 2, 2, 2, 2, 1], [1, 2, 1, 2, 2, 3], [1, 2, 1, 3, 2, 2],
    [1, 3, 1, 2, 2, 2], [1, 2, 2, 2, 1, 3], [1, 2, 2, 3, 1, 2], [1, 3, 2, 2, 1, 2], [2, 2, 1, 2, 1, 3],
    [2, 2, 1, 3, 1, 2], [2, 3, 1, 2, 1, 2], [1, 1, 2, 2, 3, 2], [1, 2, 2, 1, 3, 2], [1, 2, 2, 2, 3, 1],
    [1, 1, 3, 2, 2, 2], [1, 2, 3, 1, 2, 2], [1, 2, 3, 2, 2, 1], [2, 2, 3, 2, 1, 1], [2, 2, 1, 1, 3, 2],
    [2, 2, 1, 2, 3, 1], [2, 1, 3, 2, 1, 2], [2, 2, 3, 1, 1, 2], [3, 1, 2, 1, 3, 1], [3, 1, 1, 2, 2, 2],
    [3, 2, 1, 1, 2, 2], [3, 2, 1, 2, 2, 1], [3, 1, 2, 2, 1, 2], [3, 2, 2, 1, 1, 2], [3, 2, 2, 2, 1, 1],
    [2, 1, 2, 1, 2, 3], [2, 1, 2, 3, 2, 1], [2, 3, 2, 1, 2, 1], [1, 1, 1, 3, 2, 3], [1, 3, 1, 1, 2, 3],
    [1, 3, 1, 3, 2, 1], [1, 1, 2, 3, 1, 3], [1, 3, 2, 1, 1, 3], [1, 3, 2, 3, 1, 1], [2, 1, 1, 3, 1, 3],
    [2, 3, 1, 1, 1, 3], [2, 3, 1, 3, 1, 1], [1, 1, 2, 1, 3, 3], [1, 1, 2, 3, 3, 1], [1, 3, 2, 1, 3, 1],
    [1, 1, 3, 1, 2, 3], [1, 1, 3, 3, 2, 1], [1, 3, 3, 1, 2, 1], [3, 1, 3, 1, 2, 1], [2, 1, 1, 3, 3, 1],
    [2, 3, 1, 1, 3, 1], [2, 1, 3, 1, 1, 3] ]
  ++ [ [2, 1, 3, 3, 1, 1], [2, 1, 3, 1, 3, 1], [3, 1, 1, 1, 2, 3], [3, 1, 1, 3, 2, 1], [3, 3, 1, 1, 2, 1],
    [3, 1, 2, 1, 1, 3], [3, 1, 2, 3, 1, 1], [3, 3, 2, 1, 1, 1], [3, 1, 4, 1, 1, 1], [2, 2, 1, 4, 1, 1],
    [4, 3, 1, 1, 1, 1], [1, 1, 1, 2, 2, 4], [1, 1, 1, 4, 2, 2], [1, 2, 1, 1, 2, 4], [1, 2, 1, 4, 2, 1],
    [1, 4, 1, 1, 2, 2], [1, 4, 1, 2, 2, 1], [1, 1, 2, 2, 1, 4], [1, 1, 2, 4, 1, 2], [1, 2, 2, 1, 1, 4],
    [1, 2, 2, 4, 1, 1], [1, 4, 2, 1, 1, 2], [1, 4, 2, 2, 1, 1], [2, 4, 1, 2, 1, 1], [2, 2, 1, 1, 1, 4],
    [4, 1, 3, 1, 1, 1], [2, 4, 1, 1, 1, 2], [1, 3, 4, 1, 1, 1], [1, 1, 1, 2, 4, 2], [1, 2, 1, 1, 4, 2],
    [1, 2, 1, 2, 4, 1], [1, 1, 4, 2, 1, 2], [1, 2, 4, 1, 1, 2], [1, 2, 4, 2, 1, 1], [4, 1, 1, 2, 1, 2],
    [4, 2, 1, 1, 1, 2], [4, 2, 1, 2, 1, 1], [2, 1, 2, 1, 4, 1], [2, 1, 4, 1, 2, 1], [4, 1, 2, 1, 2, 1],
    [1, 1, 1, 1, 4, 3], [1, 1, 1, 3, 4, 1], [1, 3, 1, 1, 4, 1], [1, 1, 4, 1, 1, 3], [1, 1, 4, 3, 1, 1],
    [4, 1, 1, 1, 1, 3], [4, 1, 1, 3, 1, 1], [1, 1, 3, 1, 4, 1], [1, 1, 4, 1, 3, 1], [3, 1, 1, 1, 4, 1],
    [4, 1, 1, 1, 3, 1], [2, 1, 1, 4, 1, 2], [2, 1, 1, 2, 1, 4], [2, 1, 1, 2, 3, 2], [2, 3, 3, 1, 1, 1, 2] ]

/-- The length of the run of digits a text begins with. -/
def digitRun (t : Text) : Nat := (t.takeWhile isDigit).length

/-- A character's value as a set B data symbol: code − 32 (R110). -/
def setBValue (b : Byte) : Nat := b.toNat - 32

/-- The value of a digit. -/
def digitValue (b : Byte) : Nat := b.toNat - 48

/-- Where the C128 walk stands: in set B with so many digits of a decided run still to carry in set B, or in set C. -/
inductive CodeSet where
  | b (carry : Nat)
  | c
  deriving DecidableEq, Repr

/-- The walk over the text (R112, R113), a digit pair 95 to 98 included (log entry 49): the values of the data and switch
symbols, from a position in a code set.
Each round consumes a character or is a switch that the next round follows with one; `fuel` bounds the rounds. -/
def c128Walk : Nat → CodeSet → Text → List Nat
  | 0, _, _ => []
  | _, _, [] => []
  | fuel + 1, .b carry, ch :: rest =>
    if isDigit ch = false then setBValue ch :: c128Walk fuel (.b 0) rest
    else if carry > 0 then setBValue ch :: c128Walk fuel (.b (carry - 1)) rest
    else
      let k := digitRun (ch :: rest)
      if 6 ≤ k ∨ (4 ≤ k ∧ k = (ch :: rest).length) then
        if k % 2 = 0 then 99 :: c128Walk fuel .c (ch :: rest)
        else setBValue ch :: 99 :: c128Walk fuel .c rest
      else setBValue ch :: c128Walk fuel (.b (k - 1)) rest
  | fuel + 1, .c, ch :: rest =>
    match rest with
    | d :: rest' =>
      if isDigit ch ∧ isDigit d then (10 * digitValue ch + digitValue d) :: c128Walk fuel .c rest'
      else 100 :: c128Walk fuel (.b 1) (ch :: rest)
    | [] => 100 :: c128Walk fuel (.b 1) (ch :: rest)

/-- The start value and the data and switch symbols of a text (R111 to R113). -/
def c128Symbols (t : Text) : Nat × List Nat :=
  if 4 ≤ digitRun t then (105, c128Walk (2 * t.length + 1) .c t)
  else (104, c128Walk (2 * t.length + 1) (.b 0) t)

/-- Σ i × vᵢ over the symbols after the start, counting from `i` (R114). -/
def weightedSum : Nat → List Nat → Nat
  | _, [] => 0
  | i, v :: vs => i * v + weightedSum (i + 1) vs

/-- The check value of a C128 symbol (R114). -/
def c128Check (start : Nat) (vs : List Nat) : Nat := (start + weightedSum 1 vs) % 103

/-- The whole symbol sequence: start, data and switch symbols, check, stop (R114). -/
def c128Sequence (t : Text) : List Nat :=
  let p := c128Symbols t
  p.1 :: p.2 ++ [c128Check p.1 p.2, 106]

/-- The element widths of a C128 symbol in dots (R114). -/
def c128Widths (m : Nat) (t : Text) : List Nat :=
  (c128Sequence t).flatMap fun v => (c128Patterns.getD v []).map (m * ·)

/-! ## I25 (R115 to R117) -/

/-- The check sum over digits from the right, the rightmost with weight 3 (R115). -/
def i25Sum : (three : Bool) → List Nat → Nat
  | _, [] => 0
  | three, d :: ds => (if three then 3 * d else d) + i25Sum (!three) ds

/-- The check digit of the data digits (R115). -/
def i25CheckDigit (ds : List Nat) : Nat := (10 - i25Sum true ds.reverse % 10) % 10

/-- The digit string with any check digit and any leading 0 (R115, R116). -/
def i25Digits (check : Bool) (t : Text) : List Nat :=
  let ds := t.map digitValue
  let ds := if check then ds ++ [i25CheckDigit ds] else ds
  if ds.length % 2 = 1 then 0 :: ds else ds

/-- The patterns of the digits, `true` for a wide element (R116). -/
def i25Patterns : List (List Bool) :=
  [ [false, false, true, true, false], [true, false, false, false, true], [false, true, false, false, true],
    [true, true, false, false, false], [false, false, true, false, true], [true, false, true, false, false],
    [false, true, true, false, false], [false, false, false, true, true], [true, false, false, true, false],
    [false, true, false, true, false] ]

/-- The element widths of the pairs: five bars of the first digit and five spaces of the second, interleaved (R116). -/
def i25Pairs (m w : Nat) : List Nat → List Nat
  | a :: b :: ds =>
    (((i25Patterns.getD a []).zip (i25Patterns.getD b [])).flatMap fun p =>
      [if p.1 then w else m, if p.2 then w else m]) ++ i25Pairs m w ds
  | _ => []

/-- The element widths of an I25 symbol in dots: start, pairs, stop (R117). -/
def i25Widths (m w : Nat) (digits : List Nat) : List Nat := [m, m, m, m] ++ i25Pairs m w digits ++ [w, m, m]

/-! ## The element list (R108, R118) -/

/-- Widths as elements, alternating from the given kind, each bar narrowed by r at its trailing end (R118). -/
def elementsOf (r : Nat) : (bar : Bool) → List Nat → List Element
  | _, [] => []
  | bar, w :: ws =>
    { bar := bar, width := w, printed := if bar then w - r else 0 } :: elementsOf r (!bar) ws

/-- The digits of a number list as characters. -/
def digitText (ds : List Nat) : Text := ds.map fun d => BitVec.ofNat 8 (48 + d)

/-- The element list of a text (R108). -/
def barElements (sym : Symbology) (m w r : Nat) (check : Bool) (t : Text) : List Element :=
  match sym with
  | .c128 => elementsOf r true (c128Widths m t)
  | .i25 => elementsOf r true (i25Widths m w (i25Digits check t))

/-- The human-readable text (R119): the C128 text as it stands, or the I25 digit string. -/
def hrText (sym : Symbology) (check : Bool) (t : Text) : Text :=
  match sym with
  | .c128 => t
  | .i25 => digitText (i25Digits check t)

/-- The symbol width U: the sum of the nominal element widths (R108). -/
def symbolWidth (es : List Element) : Nat := (es.map (·.width)).sum

end Sys2Proof.Machine
end

