-- ==== Sys2Proof/Machine/Render.lean ====
section
/-! DEFINITION. Rendering (Chapters 3, 4, 6 and 13): counters served to a copy, fonts and graphics read, fields laid
out, a copy validated, bands allocated, composed and freed. -/

namespace Sys2Proof.Machine

/-! ## Stepping counters (R59 to R62) -/

/-- One step of one counter (R59, R60): the new record, and whether it wrapped. -/
def stepCounter (c : Counter) : Counter × Bool :=
  let sum : Int := c.value + c.step
  match c.mode with
  | .wrap =>
    if sum > c.high then ({ c with value := ((c.low : Int) + (sum - c.high - 1)).toNat }, true)
    else if sum < c.low then ({ c with value := ((c.high : Int) - (c.low - sum - 1)).toNat }, true)
    else ({ c with value := sum.toNat }, false)
  | .hold =>
    if c.exhausted then (c, false)
    else if sum > c.high then ({ c with value := c.high, exhausted := true }, false)
    else if sum < c.low then ({ c with value := c.low, exhausted := true }, false)
    else ({ c with value := sum.toNat }, false)

/-- Counter `i` takes one step with its cascades (R61); `fuel` bounds the chain, which ends within eight counters. -/
def stepCascade : Nat → Nat → Vector Counter 8 → Vector Counter 8
  | 0, _, cb => cb
  | fuel + 1, i, cb =>
    match cb[i]? with
    | none => cb
    | some c =>
      let p := stepCounter c
      let cb := cb.setIfInBounds i p.1
      match p.2, c.cascade with
      | true, some j => stepCascade fuel j cb
      | _, _ => cb

/-- The counters a format refers to, each once, in ascending order (R62). -/
def referredCounters (fields : List Field) : List Nat :=
  (List.range 8).filter fun n => fields.any fun f => match f.body with
    | .txt _ (.ctr k) _ _ => k == n
    | .bar _ (.ctr k) _ _ _ _ _ _ => k == n
    | _ => false

/-- The counter record of a number; the eight numbers are 0 to 7. -/
def counterOf (cb : Vector Counter 8) (n : Nat) : Counter := cb[n]?.getD defaultCounter

/-- CB serves a copy (R62): absent where a referred counter is exhausted (R63); otherwise the records read, which the
copy prints, and the bank after every referred counter has stepped in ascending order. -/
def serveCounters (fields : List Field) (cb : Vector Counter 8) : Option (List (Nat × Counter) × Vector Counter 8) :=
  let ns := referredCounters fields
  if ns.any fun n => (counterOf cb n).exhausted then none
  else some (ns.map fun n => (n, counterOf cb n), ns.foldl (fun cb n => stepCascade 8 n cb) cb)

/-! ## Counter text and sources (R46, R47) -/

/-- The counter text of a record (R47): v mod 10^d in exactly d characters, filled on the left. -/
def counterText (c : Counter) : Text :=
  let t := natText (c.value % 10 ^ c.digits)
  let f : Byte := match c.fill with
    | .zero => 48
    | .space => 32
  List.replicate (c.digits - t.length) f ++ t

/-- The text of a source for a copy (R46): the items of its job and the counter records it read. -/
def sourceText (items : Vector (Option Text) 16) (read : List (Nat × Counter)) : Source → Text
  | .literal t => t
  | .item n => (items[n - 1]?.join).getD []
  | .ctr n => match read.find? fun p => p.1 == n with
    | some p => counterText p.2
    | none => []

/-! ## Fonts and graphics (R49, R206 to R208) -/

/-- The cell height of a ROM font (R23). -/
def RomFont.height : RomFont → Nat
  | .rf8 => 8
  | .rf16 => 16
  | .rf32 => 32

/-- The advance width of every glyph of a ROM font (R208). -/
def RomFont.advance : RomFont → Nat
  | .rf8 => 6
  | .rf16 => 10
  | .rf32 => 20

/-- The bitmap width of a ROM font's glyph (R208): 0 for code 32. -/
def RomFont.columns (f : RomFont) (code : Nat) : Nat :=
  if code = 32 then 0 else match f with
    | .rf8 => 5
    | .rf16 => 8
    | .rf32 => 16

/-- The offset value of a glyph directory entry that has no glyph (R206). -/
def noGlyph : Nat := 0xFFFFFFFF

/-- A loaded font has a glyph for a code (R206): none where the entry's offset is FFFFFFFFh, whatever its bitmap width (log
entry 57). -/
def hasGlyph (s : State) (n code : Nat) : Bool :=
  let first := (objectByte s n 3).toNat
  let final := (objectByte s n 4).toNat
  decide (first ≤ code) && decide (code ≤ final) && objectNumber s n (8 + 6 * (code - first)) 4 != noGlyph

/-- The code whose glyph is drawn for a code: itself, or the font's default glyph (R49). -/
def drawnCode (s : State) (font : EntryRef) (code : Nat) : Nat :=
  match font with
  | .ram n => if hasGlyph s n code then code else (objectByte s n 5).toNat
  | .rom _ => if 32 ≤ code ∧ code ≤ 126 then code else 63

/-- The place of a code's entry in a loaded font's glyph directory (R206). -/
def glyphEntry (s : State) (n code : Nat) : Nat := 6 + 6 * (code - (objectByte s n 3).toNat)

/-- The cell height of a font. -/
def fontHeight (s : State) : EntryRef → Nat
  | .ram n => (objectByte s n 2).toNat
  | .rom f => f.height

/-- The advance of the glyph drawn for a code. -/
def glyphAdvance (s : State) (font : EntryRef) (code : Nat) : Nat :=
  match font with
  | .ram n => (objectByte s n (glyphEntry s n (drawnCode s font code))).toNat
  | .rom f => f.advance

/-- The bitmap width of the glyph drawn for a code. -/
def glyphColumns (s : State) (font : EntryRef) (code : Nat) : Nat :=
  match font with
  | .ram n => (objectByte s n (glyphEntry s n (drawnCode s font code) + 1)).toNat
  | .rom f => f.columns (drawnCode s font code)

/-- A bit of a bitmap row held as whole bytes, most significant bit leftmost (R205): row `b`, column `a` of a bitmap of
`columns` columns that begins at position `at` of an object. -/
def bitmapDot (s : State) (n start columns a b : Nat) : Bool :=
  (objectByte s n (start + b * ceilDiv columns 8 + a / 8)).getLsbD (7 - a % 8)

/-- The glyph drawn for a code marks the dot at column `a`, row `b` (R49, R206). -/
def glyphDot (s : State) (font : EntryRef) (code a b : Nat) : Bool :=
  let cols := glyphColumns s font code
  decide (a < cols) && decide (b < fontHeight s font) && (match font with
    | .ram n => bitmapDot s n (objectNumber s n (glyphEntry s n (drawnCode s font code) + 2) 4) cols a b
    | .rom f => Config.romGlyphDot f (drawnCode s font code) a b)

/-- The width of a line of text in unmagnified dots: the sum of the advances (R49). -/
def textAdvance (s : State) (font : EntryRef) (t : Text) : Nat :=
  (t.map fun c => glyphAdvance s font c.toNat).sum

/-- A graphic's width and height (R207). -/
def graphicSize (s : State) : EntryRef → Nat × Nat
  | .ram n => (objectNumber s n 2 2, objectNumber s n 4 2)
  | .rom _ => (0, 0)

/-- A graphic marks the dot at column `a`, row `b` (R54, R207). -/
def graphicDot (s : State) (g : EntryRef) (a b : Nat) : Bool :=
  match g with
  | .ram n => bitmapDot s n 6 (objectNumber s n 2 2) a b
  | .rom _ => false

/-! ## The dot set of a field (R43 to R45, R49, R53, R54, R123) -/

/-- A line of text, laid out from `u` = 0 with magnification `mx` × `my`, marks the dot (u, v) (R49). -/
def textMarks (s : State) (font : EntryRef) (mx my : Nat) : Text → Nat → Nat → Bool
  | [], _, _ => false
  | c :: cs, u, v =>
    let w := glyphAdvance s font c.toNat * mx
    if u < w then glyphDot s font c.toNat (u / mx) (v / my) else textMarks s font mx my cs (u - w) v

/-- The bars of an element list mark the column u (R118, R123). -/
def barMarks : List Element → Nat → Bool
  | [], _ => false
  | e :: es, u => if u < e.width then e.bar && decide (u < e.printed) else barMarks es (u - e.width)

/-- A laid-out field marks the dot (u, v) of its unrotated frame. -/
def frameMarks (s : State) (f : LaidField) (u v : Nat) : Bool :=
  match f.shape with
  | .text font mx my => textMarks s font mx my f.text u v
  | .bars es h hr =>
    if v < h then barMarks es u
    else match hr with
      | some l => if l.start ≤ u then textMarks s l.font 1 1 l.text (u - l.start) (v - h) else false
      | none => false
  | .box t => decide (u < t) || decide (f.frameU ≤ u + t) || decide (v < t) || decide (f.frameV ≤ v + t)
  | .image g => graphicDot s g u v

/-- The occupied width and height of a frame under a rotation (R43). -/
def occupied (rot : Rotation) (u v : Nat) : Nat × Nat :=
  match rot with
  | .r0 | .r180 => (u, v)
  | .r90 | .r270 => (v, u)

/-- The frame position that lands on the dot (dx, dy) of the occupied rectangle (R43, read backwards). -/
def framePosition (f : LaidField) (dx dy : Nat) : Nat × Nat :=
  match f.rot with
  | .r0 => (dx, dy)
  | .r90 => (dy, f.frameV - 1 - dx)
  | .r180 => (f.frameU - 1 - dx, f.frameV - 1 - dy)
  | .r270 => (f.frameU - 1 - dy, dx)

/-- The dot set of a field holds the label dot (x, y), before clipping (R43, R44). -/
def inDotSet (s : State) (f : LaidField) (x y : Nat) : Bool :=
  let o := occupied f.rot f.frameU f.frameV
  if f.x ≤ x ∧ x < f.x + o.1 ∧ f.y ≤ y ∧ y < f.y + o.2 then
    let p := framePosition f (x - f.x) (y - f.y)
    frameMarks s f p.1 p.2
  else false

/-- A draw mode applied to a dot of the dot set (R44). -/
def DrawMode.apply : DrawMode → Bool → Bool
  | .set, _ => true
  | .clear, _ => false
  | .invert, d => !d

/-- A dot of the label (R44, R45): every field applied in format order to a dot that starts off; off outside L and
Wf. -/
def labelDot (s : State) (c : RenderContext) (x y : Nat) : Bool :=
  if x < c.width ∧ y < c.length then
    c.fields.foldl (fun d f => if inDotSet s f x y then f.mode.apply d else d) false
  else false

/-- A dot line of the label (R96). -/
def labelLine (s : State) (c : RenderContext) (y : Nat) : Dots := BitVec.ofFnLE fun x : Fin 832 => labelDot s c x y

/-- The 64 lines of band index `b`, of which `used` are composed (R96). -/
def composeBand (s : State) (c : RenderContext) (b used : Nat) : List Dots :=
  (List.range 64).map fun i => if i < used then labelLine s c (64 * b + i) else 0

/-! ## Laying out a field (R92 steps 2 to 4, R108) -/

/-- The entry a job pinned for a named object (R36). -/
def pinnedObject (j : Job) (name : Text) (kind : ObjectKind) : EntryRef :=
  match j.objects.find? fun p => p.1 == { name := name, kind := kind } with
  | some p => p.2
  | none => .rom .rf8

/-- A bar code field's shape and frame from its text (R108, R119, R120): absent where the text is unfit, or the
human-readable line is wider than the symbol. -/
def layBar (s : State) (j : Job) (sym : Symbology) (m w h r : Nat) (check : Bool) (hr : Option Text) (t : Text) :
    Option (Shape × Nat × Nat) :=
  if fitText sym t then
    let es := barElements sym m w r check t
    let u := symbolWidth es
    match hr with
    | none => some (.bars es h none, u, h)
    | some name =>
      let font := pinnedObject j name .font
      let line := hrText sym check t
      let ut := textAdvance s font line
      if ut ≤ u then
        some (.bars es h (some { font := font, text := line, start := (u - ut) / 2 }), u, h + fontHeight s font)
      else none
  else none

/-- The rectangle of a field lies on the label (R120). -/
def fits (L W : Nat) (f : Field) (u v : Nat) : Bool :=
  let o := occupied f.rot u v
  decide (f.x + o.1 ≤ W) && decide (f.y + o.2 ≤ L)

/-- A field laid out for a copy (R92 steps 2 to 4): absent where validation fails at it. -/
def layField (s : State) (j : Job) (read : List (Nat × Counter)) (L W : Nat) (f : Field) : Option LaidField :=
  let at' (t : Text) (u v : Nat) (shape : Shape) : LaidField :=
    { x := f.x, y := f.y, rot := f.rot, mode := f.mode, text := t, frameU := u, frameV := v, shape := shape }
  match f.body with
  | .txt font src mx my =>
    let t := sourceText j.items read src
    let font := pinnedObject j font .font
    some (at' t (textAdvance s font t * mx) (fontHeight s font * my) (.text font mx my))
  | .bar sym src m w h r check hr =>
    let t := sourceText j.items read src
    match layBar s j sym m w h r check hr t with
    | some (shape, u, v) => if fits L W f u v then some (at' t u v shape) else none
    | none => none
  | .box u v t => some (at' [] u v (.box t))
  | .img g =>
    let g := pinnedObject j g .graphic
    let size := graphicSize s g
    some (at' [] size.1 size.2 (.image g))

/-- The render context that a successful validation forms (R91, R94), with no band allocated yet. -/
def layCopy (s : State) (j : Job) (id : CopyId) (fmt : Format) (read : List (Nat × Counter)) :
    Option RenderContext :=
  match fmt.fields.mapM (layField s j read fmt.length fmt.width) with
  | some fields =>
    some
      { copy := id, format := j.format, length := fmt.length, width := fmt.width, fields := fields,
        bands := ceilDiv fmt.length 64, nextIndex := 0, filling := none }
  | none => none

/-! ## The band ring (R88 to R90, R98, R101 to R106) -/

/-- The band of a number. -/
def bandOf (s : State) (b : Nat) : Band := s.br.bands[b]?.getD freshBand

/-- One band replaced. -/
def setBand (b : Nat) (band : Band) (s : State) : State :=
  { s with br := { s.br with bands := s.br.bands.setIfInBounds b band } }

/-- A band made FREE (R89): owner, index and lines used become absent, and its dots stay. -/
def Band.freed (band : Band) : Band := { band with state := .free, owner := none, index := none, used := none }

/-- One band made FREE. -/
def freeBand (b : Nat) (s : State) : State := setBand b (bandOf s b).freed s

/-- Every band that `p` holds of made FREE. -/
def freeBandsWhere (p : Band → Bool) (s : State) : State :=
  { s with br := { s.br with bands := s.br.bands.map fun b => if p b then b.freed else b } }

/-- The bands in ring order, starting with the band after the fill position (R90). -/
def ringOrder (fill : Nat) : List Nat := (List.range 16).map fun i => (fill + 1 + i) % 16

/-- The band that an allocation takes: the first FREE one in ring order after the fill position (R90), after a release by
R103 too (log entry 55). -/
def nextFreeBand (s : State) : Option Nat := (ringOrder s.br.fill).find? fun b => (bandOf s b).state == .free

/-- RE allocates the band for the context's next index (R90): it becomes FILLING and the render cursor FILLING; with no
band FREE the cursor becomes WAIT-BAND (R95). -/
def allocateBand (c : RenderContext) (s : State) : State :=
  match nextFreeBand s with
  | some b =>
    let band : Band :=
      { state := .filling, owner := some c.copy, index := some c.nextIndex,
        used := some (min 64 (c.length - 64 * c.nextIndex)), lines := (bandOf s b).lines }
    let s := setBand b band s
    { s with
      br := { s.br with fill := b }
      re := { cursor := .filling, context := some { c with nextIndex := c.nextIndex + 1, filling := some b } } }
  | none => { s with re := { cursor := .waitBand, context := some { c with filling := none } } }

/-- The copy's render ends: the render context is discarded and the cursor becomes IDLE (R97, R101, R103). -/
def endRender (s : State) : State := { s with re := { cursor := .idle, context := none } }

/-- The copy is the one under render. -/
def underRender (id : CopyId) (s : State) : Bool := s.re.context.any fun c => c.copy == id

/-- The render of a copy ends, if it is the one under render (R103). -/
def stopRender (id : CopyId) (s : State) : State := if underRender id s then endRender s else s

/-- A band of the copy that is FILLING or READY. -/
def Band.unprintedOf (id : CopyId) (b : Band) : Bool :=
  b.owner == some id && (b.state == .filling || b.state == .ready)

/-- Every band of a copy not yet in print freed, and its render stopped (R103, R104). -/
def releaseCopy (id : CopyId) (s : State) : State := stopRender id (freeBandsWhere (Band.unprintedOf id) s)

/-- The ready count of a copy (R98). -/
def readyCount (s : State) (id : CopyId) : Nat :=
  s.br.bands.toList.countP fun b => b.owner == some id && b.state == .ready

/-- The number of READY bands (R106). -/
def readyBands (s : State) : Nat := s.br.bands.toList.countP fun b => b.state == .ready

/-- The label length of a copy's format (R36, R67). -/
def copyLength (s : State) (id : CopyId) : Nat :=
  match jobOf s id.tag with
  | some j => ((pinnedFormat s j.format).map (·.length)).getD 0
  | none => 0

/-- The start need of a copy (R98). -/
def startNeed (s : State) (id : CopyId) : Nat :=
  let n := ceilDiv (copyLength s id) 64
  if s.ss.settings.start = 0 then min n 16 else min s.ss.settings.start n

/-- The render side of the start condition (R98). -/
def renderReady (s : State) (id : CopyId) : Bool := decide (startNeed s id ≤ readyCount s id)

/-- The band that holds line y of a copy and may be read: READY or PRINTING (R100). -/
def bandForLine (s : State) (id : CopyId) (y : Nat) : Option Nat :=
  (List.range 16).find? fun b =>
    let band := bandOf s b
    band.owner == some id && band.index == some (y / 64) && (band.state == .ready || band.state == .printing)

/-- A line is the last of its band that is printed: its 64th, or the copy's last printed line (R101). -/
def lastOfBand (y lines : Nat) : Bool := y % 64 == 63 || y + 1 == lines

end Sys2Proof.Machine
end

