-- ==== Sys2Proof/Machine/Head.lean ====
section
/-! DEFINITION. Strobe timing and the print head (Chapter 8): width and phases, dot history and classes, strobing a
line, readback, the verdict, head power. -/

namespace Sys2Proof.Machine

/-! ## Width and phases (R128, R132 to R134) -/

/-- Tc, the temperature of the width computation (R128). -/
def tempC (u : StrobeUnit) : Int := if u.sensorValid then clampInt 0 80 u.temp else 25

/-- W (R132): the formula, then the clamp to 50–2000 µs. -/
def strobeWidth (e : Energy) (tc : Int) : Nat :=
  clampNat 50 2000 ((e.basew : Int) * (32 + e.dark) * (153 - tc) / 4096)

/-- A width divided into its three phases (R133). -/
def strobePhases (e : Energy) (w : Nat) : Strobe :=
  let a := w * e.ha / 64
  let b := w * e.hb / 64
  { w := w, a := a, b := b, c := w - a - b }

/-- The width and phases computed from an energy set and the temperature state (R132, R133). -/
def computeStrobe (e : Energy) (u : StrobeUnit) : Strobe := strobePhases e (strobeWidth e (tempC u))

/-- An energy set made the active set, with its width active and buffered and no swap pending (R125, R126, R134). -/
def StrobeUnit.load (e : Energy) (u : StrobeUnit) : StrobeUnit :=
  { u with active := e, width := computeStrobe e u, buffered := computeStrobe e u, swap := false }

/-- A pending swap made at a line begin (R134). -/
def StrobeUnit.swapped (u : StrobeUnit) : StrobeUnit :=
  if u.swap then { u with width := u.buffered, swap := false } else u

/-! ## Dot history and classes (R135, R136) -/

/-- Dots of groups 1 and 2 (R124). -/
def firstHalf : Dots := BitVec.ofNat 832 (2 ^ 416 - 1)

/-- Dots of groups 3 and 4 (R124). -/
def secondHalf : Dots := ~~~firstHalf

/-- The number of dots on. -/
def dotsOn (d : Dots) : Nat := (List.range 832).countP fun x => d.getLsbD x

/-- Mask A (R136): every dot that is on in the line. -/
def maskA (d : Dots) : Dots := d

/-- Mask B (R136): the dots that are on and not hot. -/
def maskB (d p1 : Dots) : Dots := d &&& ~~~p1

/-- Mask C (R136): the cold dots that are on. -/
def maskC (d p1 p2 : Dots) : Dots := d &&& ~~~p1 &&& ~~~p2

/-- The masks of a line in shift order (R137, R138): three, or six for a split line. -/
def lineMasks (split : Bool) (d p1 p2 : Dots) : List Dots :=
  let whole := [maskA d, maskB d p1, maskC d p1 p2]
  if split then whole.map (· &&& firstHalf) ++ whole.map (· &&& secondHalf) else whole

/-- A line is strobed split when more than Nmax of its dots are on (R138). -/
def isSplit (nmax : Nat) (d : Dots) : Bool := decide (nmax < dotsOn d)

/-- R, the strobe time of one half or of a whole line (R137). -/
def strobeTimeOf (p : Strobe) : Nat := Config.tshift + max p.a Config.tshift + max p.b Config.tshift + p.c

/-- The strobe of a line that begins (R137 to R139). -/
def newLineStrobe (d p1 p2 : Dots) (p : Strobe) (nmax tline : Nat) : LineStrobe :=
  let split := isSplit nmax d
  { dots := d, masks := lineMasks split d p1 p2, shifted := 0, strobed := false, phases := p, nmax := nmax,
    strobeTime := if split then 2 * strobeTimeOf p else strobeTimeOf p, tline := tline }

/-- The line period (R139). -/
def LineStrobe.period (l : LineStrobe) : Nat := max l.tline l.strobeTime

/-- HI takes a line's dots at the line begin (R134, R136, R137, R146): the swap is made, the history is cleared after a
halt, and the masks are built. A verdict is due for the label from then on (R141). -/
def headBeginLine (d : Dots) (s : State) : State :=
  let stu := s.stu.swapped
  let p1 := if s.hi.resumed then 0 else s.hi.p1
  let p2 := if s.hi.resumed then 0 else s.hi.p2
  { s with
    stu := stu
    hi := { s.hi with
      p1 := p1, p2 := p2, resumed := false, verdictDue := true
      line := some (newLineStrobe d p1 p2 stu.width stu.active.split (lineTime s)) } }

/-- A line is in progress: begun, and its line completion not yet taken. -/
def lineInProgress (s : State) : Bool := s.hi.line.isSome

/-- A line's strobe is in progress (R137). -/
def strobing (s : State) : Bool := s.hi.line.any fun l => !l.strobed

/-! ## Readback and verdict (R140 to R142) -/

/-- A mark added to a copy in PRINTING (R75). -/
def addMark (id : CopyId) (f : Marks → Marks) (s : State) : State :=
  mapCopy id (fun c => if c.state = .printing then { c with marks := f c.marks } else c) s

/-- A mark added to the copy of the label in progress, if it has one. -/
def markLabel (f : Marks → Marks) (s : State) : State :=
  match s.pe.label.bind (·.copy) with
  | some id => addMark id f s
  | none => s

/-- The compare of a shift's readback with the mask shifted before it, when it is owed (R140, R141). -/
def compareReadback (readback : Dots) (s : State) : State :=
  if s.hi.owed ∧ readback ≠ s.hi.lastMask ∧ s.hi.defect = false then
    markLabel (fun m => { m with defect := true }) { s with hi := { s.hi with defect := true } }
  else s

/-- The closing shift begins once the last line strobed has its strobe behind it (R140, R147): at most one is made for
a label, and none where no mask was shifted. -/
def beginClosing (s : State) : State :=
  if s.hi.verdictDue ∧ s.hi.verdict = none ∧ strobing s = false then
    { s with hi := { s.hi with closing := true } }
  else s

/-- The label is to receive a verdict that HI has not yet handed over (R162). -/
def verdictAwaited (s : State) : Bool := s.hi.verdictDue && s.hi.verdict.isNone

/-- The verdict applied to the defect count at presentation, with the kinds it raises (R142). Their notices are offered
by the caller. -/
def applyVerdict (s : State) : State :=
  let hi := { s.hi with verdict := none, verdictDue := false, owed := false }
  match s.hi.verdict with
  | none => { s with hi := hi }
  | some false => { s with hi := { hi with defectCount := 0 } }
  | some true =>
    let s' := raiseFlags .headData { s with hi := { hi with defectCount := min 2 (s.hi.defectCount + 1) } }
    if s.hi.defectCount = 1 then addReason .headFault (raiseFlags .headFault s') else s'

/-! ## Head power (R143, R144) -/

/-- The idle timer starts if the head is ON (R143). -/
def startIdleTimer (s : State) : State :=
  if s.hi.power = .on then { s with hi := { s.hi with idleTimer := some s.ss.settings.idle } } else s

/-- The idle timer stops (R143). -/
def stopIdleTimer (s : State) : State := { s with hi := { s.hi with idleTimer := none } }

/-- STU's and HI's part of a label start (R126, R135, R140, R141, R144): the pending energy set becomes active, the
history and the defect flag are cleared, no compare is owed, and a head that is OFF powers up. -/
def headLabelStart (s : State) : State :=
  { s with
    stu := s.stu.load s.ss.settings.energy
    hi := { s.hi with
      p1 := 0, p2 := 0, defect := false, owed := false, verdictDue := false, verdict := none, resumed := false
      idleTimer := none
      power := match s.hi.power with
        | .off => .settling
        | .settling => .settling
        | .on => .on } }

/-- HI's part of a soft reset (R141, R143, R145): no closing shift and no verdict, history, flag and count cleared, the
idle timer stopped, and the head OFF, at once or once the strobe in progress completes. -/
def headReset (s : State) : State :=
  let busy := strobing s
  { s with
    hi := { s.hi with
      p1 := 0, p2 := 0, defect := false, owed := false, verdictDue := false, verdict := none, closing := false
      resumed := false, defectCount := 0, idleTimer := none
      power := if busy then s.hi.power else .off
      offAfterStrobe := busy } }

end Sys2Proof.Machine
end

