-- ==== Sys2Proof/Machine/Settings.lean ====
section
/-! DEFINITION. The settings record and its stored image (Chapter 12, 13.3): the values SET writes, the image's bytes,
and the judgement of an image. -/

namespace Sys2Proof.Machine

/-! ## The values SET writes (R8, R125, R200) -/

/-- The six rates (R1). -/
def rates : List Nat := [9600, 19200, 38400, 57600, 115200, 230400]

/-- The highest listed rate not above a value; a value below 9600 becomes 9600 (R2). -/
def rateFor (v : Int) : Nat :=
  if v < 19200 then 9600 else if v < 38400 then 19200 else if v < 57600 then 38400
  else if v < 115200 then 57600 else if v < 230400 then 115200 else 230400

/-- SPEED rounded down to a multiple of 25, then clamped (R125). -/
def speedFor (v : Int) : Nat := clampNat 50 300 (v / 25 * 25)

/-- HB clamped against the pending HA (R125). -/
def hbFor (ha : Nat) (v : Int) : Nat := clampNat 4 (60 - ha) v

/-- The route of one kind replaced. -/
def setRoute (k : FaultKind) (r : Route) (v : Vector Route 15) : Vector Route 15 := v.set k.index r

/-- One key of SET written into the settings record, HB excepted (R200). -/
def writeItem (x : Settings) (i : SetItem) : Settings :=
  match i with
  | .rate v => { x with rate := rateFor v }
  | .speed v => { x with energy := { x.energy with speed := speedFor v } }
  | .dark v => { x with energy := { x.energy with dark := clampInt (-16) 15 v } }
  | .basew v => { x with energy := { x.energy with basew := clampNat 200 2000 v } }
  | .ha v => { x with energy := { x.energy with ha := clampNat 24 56 v } }
  | .hb _ => x
  | .split v => { x with energy := { x.energy with split := clampNat 208 832 v } }
  | .idle v => { x with idle := clampNat 10 600 v }
  | .media v => { x with media := v }
  | .pitch v => { x with pitch := clampNat 8 2400 v }
  | .peel v => { x with peel := clampNat 0 240 v }
  | .start v => { x with start := clampNat 0 16 v }
  | .mode v => { x with mode := v }
  | .applyd v => { x with applyd := clampNat 1 65535 v }
  | .route k v => { x with routes := setRoute k v x.routes }

/-- The HB value a SET gives, if any. -/
def givenHb (items : List SetItem) : Option Int :=
  items.findSome? fun i => match i with
    | .hb v => some v
    | _ => none

/-- The settings record after a SET (R200, R125): every key written, then HB, given or pending, fitted to HA. -/
def writeItems (items : List SetItem) (x : Settings) : Settings :=
  let y := items.foldl writeItem x
  { y with energy := { y.energy with hb := hbFor y.energy.ha ((givenHb items).getD x.energy.hb) } }

/-- A key is refused with BUSY unless the engine is IDLE (R200). -/
def SetItem.needsIdle : SetItem → Bool
  | .media _ | .pitch _ | .peel _ | .start _ => true
  | .rate _ | .speed _ | .dark _ | .basew _ | .ha _ | .hb _ | .split _ | .idle _ | .mode _ | .applyd _
  | .route _ _ => false

/-- A key is refused with BUSY unless the port is OFF (R200). -/
def SetItem.needsPortOff : SetItem → Bool
  | .mode _ | .applyd _ => true
  | .rate _ | .speed _ | .dark _ | .basew _ | .ha _ | .hb _ | .split _ | .idle _ | .media _ | .pitch _ | .peel _
  | .start _ | .route _ _ => false

/-- Some key of a SET is busy (R200). -/
def setBusy (s : State) (items : List SetItem) : Bool :=
  items.any fun i => (i.needsIdle && s.pe.engine != .idle) || (i.needsPortOff && s.lp.on)

/-! ## The image's bytes (R209, R210) -/

/-- The code of a rate. -/
def rateCode (r : Nat) : Nat := (rates.findIdx? (· == r)).getD 0

/-- The code of MEDIA. -/
def mediaCode : MediaKind → Nat
  | .gap => 0
  | .mark => 1
  | .cont => 2

/-- The code of MODE on SET. -/
def lineModeCode : LineMode → Nat
  | .ahead => 0
  | .trigger => 1

/-- The code of a route. -/
def routeCode : Route → Nat
  | .none => 0
  | .line => 1
  | .host => 2
  | .both => 3

/-- The 19 bytes of a counter record (R209). -/
def counterBytes (c : Counter) : List Byte :=
  toBytes 4 c.value ++ toBytes 4 c.low ++ toBytes 4 c.high ++ toBytes 2 (toSigned 16 c.step)
    ++ [match c.mode with
        | .wrap => 0
        | .hold => 1,
      match c.cascade with
        | some j => BitVec.ofNat 8 j
        | none => 0xFF,
      BitVec.ofNat 8 c.digits,
      match c.fill with
        | .zero => 0
        | .space => 1,
      if c.exhausted then 1 else 0]

/-- Bytes 4 to 255 of the image (R209). -/
def imageBody (x : Settings) (cb : Vector Counter 8) : List Byte :=
  toBytes 1 (rateCode x.rate) ++ toBytes 2 x.energy.speed ++ toBytes 1 (toSigned 8 x.energy.dark)
    ++ toBytes 2 x.energy.basew ++ toBytes 1 x.energy.ha ++ toBytes 1 x.energy.hb ++ toBytes 2 x.energy.split
    ++ toBytes 2 x.idle ++ toBytes 1 (mediaCode x.media) ++ toBytes 2 x.pitch ++ toBytes 1 x.peel
    ++ toBytes 1 x.start ++ toBytes 1 (lineModeCode x.mode) ++ toBytes 2 x.applyd
    ++ x.routes.toList.map (fun r => BitVec.ofNat 8 (routeCode r))
    ++ cb.toList.flatMap counterBytes ++ List.replicate 65 0

/-- The sum of R210. -/
def imageSum (body : List Byte) : Nat := (body.map (·.toNat)).sum % 65536

/-- The image of 256 bytes that SAVE forms (R202, R209, R210). -/
def formImage (x : Settings) (cb : Vector Counter 8) : List Byte :=
  let body := imageBody x cb
  toBytes 2 0x4C31 ++ toBytes 2 (imageSum body) ++ body

/-! ## Judging an image (R201, R210) -/

/-- The number in `k` bytes of an image from an offset (R205). -/
def imageNumber (bytes : List Byte) (off k : Nat) : Nat := fromBytes ((bytes.drop off).take k)

/-- The value a code stands for, by its place in a list. -/
def codeValue {α : Type} (l : List α) (c : Nat) : Option α := l[c]?

/-- An exhausted flag that a step could have set (R59, R60): only a HOLD counter's, which then stands at the limit that
its step runs to (log entry 42). -/
def exhaustedSound (c : Counter) : Bool :=
  !c.exhausted || (c.mode == .hold && c.value == if 0 < c.step then c.high else c.low)

/-- The counter record at an offset, where it holds what R56 allows (R201, R209). -/
def readCounter (bytes : List Byte) (n : Nat) : Option Counter :=
  let at' (o k : Nat) : Nat := imageNumber bytes (39 + 19 * n + o) k
  let value := at' 0 4
  let low := at' 4 4
  let high := at' 8 4
  let step := fromSigned 16 (at' 12 2)
  let cascade := at' 15 1
  let digits := at' 16 1
  match codeValue [CounterMode.wrap, .hold] (at' 14 1), codeValue [CounterFill.zero, .space] (at' 17 1),
      codeValue [false, true] (at' 18 1) with
  | some mode, some fill, some exhausted =>
    if low ≤ high ∧ high ≤ 999999999 ∧ low ≤ value ∧ value ≤ high ∧ step ≠ 0 ∧ step.natAbs ≤ 999
        ∧ step.natAbs ≤ high - low + 1 ∧ (cascade = 0xFF ∨ (n < cascade ∧ cascade ≤ 7)) ∧ 1 ≤ digits ∧ digits ≤ 9 then
      let c : Counter :=
        { value := value, low := low, high := high, step := step, mode := mode,
          cascade := if cascade = 0xFF then none else some cascade, digits := digits, fill := fill,
          exhausted := exhausted }
      if exhaustedSound c then some c else none
    else none
  | _, _, _ => none

/-- The energy fields of an image, where each holds what SET could have stored (R125, R201). -/
def readEnergy (bytes : List Byte) : Option Energy :=
  let speed := imageNumber bytes 5 2
  let dark := fromSigned 8 (imageNumber bytes 7 1)
  let basew := imageNumber bytes 8 2
  let ha := imageNumber bytes 10 1
  let hb := imageNumber bytes 11 1
  let split := imageNumber bytes 12 2
  if 50 ≤ speed ∧ speed ≤ 300 ∧ speed % 25 = 0 ∧ -16 ≤ dark ∧ dark ≤ 15 ∧ 200 ≤ basew ∧ basew ≤ 2000
      ∧ 24 ≤ ha ∧ ha ≤ 56 ∧ 4 ≤ hb ∧ hb ≤ 60 - ha ∧ 208 ≤ split ∧ split ≤ 832 then
    some { speed := speed, dark := dark, basew := basew, ha := ha, hb := hb, split := split }
  else none

/-- The routes of an image (R209). -/
def readRoutes (bytes : List Byte) : Option (Vector Route 15) :=
  match (List.range 15).mapM fun i => codeValue [Route.none, .line, .host, .both] (imageNumber bytes (24 + i) 1) with
  | some l => some (Vector.ofFn fun i : Fin 15 => l.getD i .none)
  | none => none

/-- The settings record of an image, where each field holds what SET could have stored (R200, R201). -/
def readSettings (bytes : List Byte) : Option Settings :=
  let idle := imageNumber bytes 14 2
  let pitch := imageNumber bytes 17 2
  let peel := imageNumber bytes 19 1
  let start := imageNumber bytes 20 1
  let applyd := imageNumber bytes 22 2
  match codeValue rates (imageNumber bytes 4 1), readEnergy bytes,
      codeValue [MediaKind.gap, .mark, .cont] (imageNumber bytes 16 1),
      codeValue [LineMode.ahead, .trigger] (imageNumber bytes 21 1), readRoutes bytes with
  | some rate, some energy, some media, some mode, some routes =>
    if 10 ≤ idle ∧ idle ≤ 600 ∧ 8 ≤ pitch ∧ pitch ≤ 2400 ∧ peel ≤ 240 ∧ start ≤ 16 ∧ 1 ≤ applyd then
      some
        { rate := rate, energy := energy, idle := idle, media := media, pitch := pitch, peel := peel, start := start,
          mode := mode, applyd := applyd, routes := routes }
    else none
  | _, _, _, _, _ => none

/-- The counters of an image (R56, R201). -/
def readCounters (bytes : List Byte) : Option (Vector Counter 8) :=
  match (List.range 8).mapM (readCounter bytes) with
  | some l => some (Vector.ofFn fun i : Fin 8 => l.getD i defaultCounter)
  | none => none

/-- The judgement of an image (R201, R210): its settings and counters where it is good, nothing where it is bad. -/
def judgeImage (bytes : List Byte) : Option (Settings × Vector Counter 8) :=
  if imageNumber bytes 0 2 = 0x4C31 ∧ imageNumber bytes 2 2 = imageSum (bytes.drop 4)
      ∧ (bytes.drop 191).all (· == 0) then
    match readSettings bytes, readCounters bytes with
    | some x, some cb => some (x, cb)
    | _, _ => none
  else none

/-- What a load reads from the EEPROM (R201): an image that power loss cut short is bad (log entry 10). -/
def loadedImage (ss : SettingsStore) : Option (Settings × Vector Counter 8) :=
  if ss.torn then none else judgeImage ss.eeprom

end Sys2Proof.Machine
end

