-- ==== Sys2Proof/Machine/Engine.lean ====
section
/-! DEFINITION. The print engine and media drive (Chapter 9): copies ended, the media and its sensor, calibration, line
boundaries, feed-out, presentation, the guard, label starts and the pause set's effect. -/

namespace Sys2Proof.Machine

/-! ## Copies that become terminal (R73, R74, R76, R78, R79) -/

/-- The parcel entry BOUND to a copy that becomes terminal is FORSAKEN (R76, R182). -/
def Parcel.forsake (id : CopyId) (p : Parcel) : Parcel :=
  if p.copy = some id ∧ p.state = .bound then { p with state := .forsaken } else p

/-- The calibration record without the copy, if it was made for it (R154). -/
def Calibration.without (id : CopyId) (c : Calibration) : Calibration :=
  if c.copy = some id then { c with copy := none } else c

/-- A copy becomes terminal with a result (R73): it is no longer bound, its BOUND entry is FORSAKEN (R76), and a
calibration made for it runs on without it (R154). -/
def endCopy (id : CopyId) (r : CopyResult) (s : State) : State :=
  let s := setBound id false (setCopyState id (.terminal r) s)
  { s with
    lp := { s.lp with parcels := s.lp.parcels.map (Parcel.forsake id) }
    pe := { s.pe with cal := s.pe.cal.map (Calibration.without id) } }

/-- A report is the DONE of a tag. -/
def isDoneOf (tag : Nat) : Report → Bool
  | .done t _ _ _ _ _ _ => t == tag
  | .err _ _ | .sts _ | .abt _ | .flt _ _ | .cal _ | .rdy _ => false

/-- A job that has become FINISHED offers its DONE report (R78, R79), once: a DONE already offered has freed the slot or
waits. -/
def offerDone (tag : Nat) (s : State) : State :=
  match jobOf s tag with
  | some j => if j.finished && !s.jl.waiting.any (isDoneOf tag) then offerReport (doneReport j) s else s
  | none => s

/-- A copy that is WAITING, RENDERING or RENDERED becomes terminal, and its bands are freed (R74, R103). -/
def endUnprinted (id : CopyId) (r : CopyResult) (s : State) : State := releaseCopy id (endCopy id r s)

/-! ## Idle, the geometry in use, and halts (R143, R149, R170, R204) -/

/-- The capture register and the top list emptied. -/
def forgetStock (s : State) : State :=
  { s with pe := { s.pe with lastCapture := none, lastGapStart := none, tops := [] } }

/-- The MEDIA and PITCH settings come into use (R170): a changed MEDIA, or a changed PITCH with MEDIA CONT, leaves the
engine uncalibrated. -/
def applyGeometry (s : State) : State :=
  let x := s.ss.settings
  let s :=
    if x.media = s.pe.stock then s
    else
      let s := forgetStock s
      { s with pe := { s.pe with stock := x.media, calibrated := false, violations := 0 } }
  if x.pitch = s.pe.contPitch then s
  else
    { s with pe := { s.pe with
      contPitch := x.pitch
      calibrated := if x.media = .cont then false else s.pe.calibrated
      tops := if x.media = .cont then [] else s.pe.tops } }

/-- A soft reset is in progress: its RDY has not entered the report queue yet (R16, R204). -/
def resetting (s : State) : Bool := s.ss.start == .resetWait || s.ss.start == .resetRdy

/-- An event after a soft reset that finds the engine IDLE: a geometry that the reset reloaded takes its effect; while the
reset is in progress the calibration stands (R204, log entry 24). -/
def takeGeometry (s : State) : State :=
  { s with pe := if s.pe.engine = .idle ∧ resetting s = false then (applyGeometry s).pe else s.pe }

/-- The engine enters IDLE (R143, R149): the media is at rest, the idle timer starts if the head is ON, and a geometry
that an earlier soft reset reloaded takes its effect (R204). -/
def enterIdle (s : State) : State :=
  takeGeometry (startIdleTimer { s with pe := { s.pe with engine := .idle, stepTime := 0 } })

/-- The engine becomes HALTED (R149, R159); the next line begin clears the history (R146). -/
def halt (s : State) : State :=
  { s with pe := { s.pe with engine := .halted, stepTime := 0 }, hi := { s.hi with resumed := true } }

/-! ## Media steps and edges (R150 to R152) -/

/-- The media position one step forward: a signed 32-bit count. -/
def positionAfter (p : Int) : Int := if p + 1 ≤ 2147483647 then p + 1 else Config.positionBeyond (p + 1)

/-- The sensor level that marks a gap or a mark (R151). -/
def Sense.gapLevel : Sense → SensorLevel
  | .lowGap => .low
  | .highGap => .high

/-- The sense inverted (R152). -/
def Sense.inverted : Sense → Sense
  | .lowGap => .highGap
  | .highGap => .lowGap

/-- The sense whose gap level is the given one (R154). -/
def Sense.ofLevel : SensorLevel → Sense
  | .low => .lowGap
  | .high => .highGap

/-- A forward step that ends with the given sensor level shows an edge (R151): a change of level beyond the furthest
position. For MEDIA CONT the sensor is not read. -/
def stepShowsEdge (level : SensorLevel) (s : State) : Bool :=
  decide (s.pe.furthest < positionAfter s.pe.position) && level != s.pe.sensor && s.pe.stock != .cont

/-- The media makes one forward step (R150, R151). The level after it is recorded for CONT stock too (log entry 51). -/
def stepMedia (level : SensorLevel) (s : State) : State :=
  let p := positionAfter s.pe.position
  { s with pe := { s.pe with position := p, furthest := max s.pe.furthest p, sensor := level } }

/-- A capture at the media position violates the sense (R152); `none` where it is not checked. -/
def captureViolates (pe : PrintEngine) : Option Bool :=
  match pe.lastGapStart, pe.lastCapture with
  | some g, some c => if c < g then some (decide (g - c ≤ pe.position - g)) else none
  | _, _ => none

/-- The violation count after a capture (R152). -/
def violationsAfter (pe : PrintEngine) : Nat :=
  match captureViolates pe with
  | some true => pe.violations + 1
  | some false => 0
  | none => pe.violations

/-- A calibrated engine takes a capture at the media position (R151, R152). -/
def takeCapture (s : State) : State :=
  let pe := s.pe
  if captureViolates pe = some true ∧ 7 ≤ pe.violations + 1 then
    raiseFlags .senseFlip { s with pe := { pe with
      sense := pe.sense.inverted, violations := 0, lastCapture := none, lastGapStart := none, tops := [] } }
  else
    let top := pe.position + Config.soff
    { s with pe := { pe with
      lastCapture := some pe.position
      violations := violationsAfter pe
      tops := if pe.tops.length < 4 ∧ top ∉ pe.tops then pe.tops ++ [top] else pe.tops } }

/-- A calibrated engine takes an edge after which the sensor reads the given level (R151). -/
def takeEdge (level : SensorLevel) (s : State) : State :=
  if s.pe.calibrated then
    if level = s.pe.sense.gapLevel then { s with pe := { s.pe with lastGapStart := some s.pe.position } }
    else takeCapture s
  else s

/-! ## The gap-lost guard (R165) -/

/-- The top and the pitch the guard watches with: those of the label in progress, or of the FEED move. -/
def guardedTop (s : State) : Option (Int × Nat) :=
  match s.pe.label with
  | some l => some (l.top, l.pitch)
  | none => s.pe.feedMove.map fun n => (n, s.pe.pitch)

/-- The guard's limit for a top and a pitch. -/
def guardLimit (top : Int) (pitch : Nat) : Int := top + (3 * pitch / 2 : Nat)

/-- The guard is armed and its limit is reached. -/
def guardTrips (s : State) : Bool :=
  s.pe.calibrated && s.pe.stock != .cont && s.pe.tops.isEmpty
    && (s.pe.engine == .printing || s.pe.engine == .feedingOut)
    && (guardedTop s).any fun g => decide (guardLimit g.1 g.2 ≤ s.pe.position)

/-- The guard trips (R165). The notice of MEDIA-OUT is offered by the caller. -/
def tripGuard (s : State) : State :=
  let s := addReason .media (raiseFlags .mediaOut (forgetStock s))
  let s := { s with pe := { s.pe with calibrated := false } }
  match s.pe.label with
  | some _ => halt (markLabel (fun m => { m with lost := true }) s)
  | none => enterIdle { s with pe := { s.pe with feedMove := none } }

/-- A forward step with its edge and the guard (R151, R152, R160 steps 1 to 3, R165), and whether the guard tripped. -/
def guardedStep (level : SensorLevel) (s : State) : State × Bool :=
  let edge := stepShowsEdge level s
  let s := stepMedia level s
  let s := if edge then takeEdge level s else s
  if guardTrips s then (offerNotices (tripGuard s), true) else (offerNotices s, false)

/-! ## Feed-out and presentation (R162 to R164) -/

/-- The target of the feed-out of the label in progress, where it is known (R162). -/
def feedTarget (s : State) (l : LabelContext) : Option Int :=
  match s.pe.calibrated, s.pe.stock with
  | true, .gap => s.pe.tops.head?.map (· + (l.peel : Int))
  | true, .mark => s.pe.tops.head?.map (· + (l.peel : Int))
  | true, .cont => some (l.top + l.pitch + l.peel)
  | false, _ => some (l.top + l.pitch + l.peel)

/-- The target of a FEED move that feeds the label of top `n` away, where it is known (R169). -/
def moveTarget (s : State) (n : Int) : Option Int :=
  match s.pe.stock with
  | .cont => some (n + s.pe.pitch)
  | .gap => s.pe.tops.head?
  | .mark => s.pe.tops.head?

/-- A known target at which, or beyond which, the media stands. -/
def reached (s : State) (target : Option Int) : Bool := target.any fun t => decide (t ≤ s.pe.position)

/-- What a copy becomes at presentation, from its marks (R75, R163). -/
def presentedState (m : Marks) : CopyState :=
  if m.late then .terminal .missedLate
  else if m.defect then .terminal .failed
  else if m.withdrawn ∨ m.lost then .terminal .wasted
  else .presented

/-- The copy of a label takes its result at presentation (R163 step 1): the new state, and whether the label is waste. -/
def presentCopy (copy : Option CopyId) (s : State) : State × Bool :=
  match copy with
  | none => (s, true)
  | some id =>
    match copyOf s id with
    | none => (s, true)
    | some c =>
      match presentedState c.marks with
      | .terminal r => (offerDone id.tag (endCopy id r s), true)
      | st => (setCopyState id st s, false)

/-- Presentation (R163): the label context ends and the label stands at the peel edge. -/
def present (l : LabelContext) (s : State) : State :=
  let p := presentCopy l.copy s
  let s := offerNotices (applyVerdict p.1)
  { s with pe := { s.pe with
    engine := .holding, label := none, presented := some { copy := l.copy, waste := p.2 }, stepTime := 0 } }

/-- The feed-out completion (R162): presentation follows at once, or at the closing completion where the label still
awaits its verdict. -/
def completeFeedOut (l : LabelContext) (s : State) : State :=
  if verdictAwaited s then { s with pe := { s.pe with label := some { l with arrived := true } } }
  else present l s

/-- The feed-out begins, or resumes after a halt (R162, R168): PEEL is taken where it begins, the step time at each
begin and resume (log entries 45, 52), and the completion at once when the media already stands at the target. -/
def startFeedOut (l : LabelContext) (s : State) : State :=
  let l := { l with phase := .feedOut, peel := if l.phase = .print then s.ss.settings.peel else l.peel }
  let s := { s with pe := { s.pe with engine := .feedingOut, label := some l, stepTime := lineTime s } }
  if reached s (feedTarget s l) then completeFeedOut l s else s

/-! ## Line boundaries (R100 to R102, R159, R161) -/

/-- Every band of a copy freed whatever its state, and its render ended (R101). -/
def freeHeld (id : CopyId) (s : State) : State :=
  stopRender id (freeBandsWhere (fun b => b.owner == some id) s)

/-- The bands a label's copy still holds freed when its last line is behind it (R101, R159). -/
def freeLabelBands (l : LabelContext) (s : State) : State :=
  match l.copy with
  | some id => freeHeld id s
  | none => s

/-- The label in progress was stopped: its copy is WITHDRAWN or was discarded (R159, R161). -/
def labelStopped (s : State) (l : LabelContext) : Bool :=
  match l.copy with
  | none => true
  | some id => (copyOf s id).any fun c => c.marks.withdrawn

/-- Line y of a label begins, read from band `b` (R100, R137, R160). -/
def beginLine (l : LabelContext) (b : Nat) (s : State) : State :=
  let band := bandOf s b
  let s := setBand b { band with state := .printing } s
  let s := { s with pe := { s.pe with
    engine := .printing, label := some { l with band := some b }, stepTime := lineTime s } }
  headBeginLine (band.lines.getD (l.y % 64) 0) s

/-- The boundary before line y of the label in progress is decided (R159). -/
def decideBoundary (s : State) : State :=
  match s.pe.label with
  | none => s
  | some l =>
    if labelStopped s l then
      if s.pe.pause.isEmpty then startFeedOut l s else halt s
    else if l.y = l.lines then startFeedOut l (freeLabelBands l s)
    else if !s.pe.pause.isEmpty then halt s
    else match l.copy.bind fun id => bandForLine s id l.y with
      | none => halt s
      | some b =>
        if l.y = 0 ∧ s.hi.power ≠ .on then { s with pe := { s.pe with engine := .printing } }
        else beginLine l b s

/-- The label in progress stands at a boundary that can be decided again at once (R161): between lines, HALTED or
waiting for the head, and not in its feed-out. -/
def atBoundary (s : State) : Bool :=
  (s.pe.engine == .halted || s.pe.engine == .printing) && !lineInProgress s
    && s.pe.label.any fun l => l.phase == .print

/-- The band in PRINTING of a label stopped between lines is freed (R104, R105). -/
def freePrintingBand (s : State) : State :=
  match s.pe.label with
  | some l =>
    match l.band with
    | some b => { freeBand b s with pe := { s.pe with label := some { l with band := none } } }
    | none => s
  | none => s

/-- What follows, in the marking event, when the label in progress has just been stopped (R104, R105, R147, R161): its
band in PRINTING is freed unless a line is in progress, the closing shift is made unless a strobe is, and the boundary
is decided again. -/
def stopLabel (s : State) : State :=
  let s := if lineInProgress s then s else freePrintingBand s
  let s := beginClosing s
  if atBoundary s then decideBoundary s else s

/-- A copy in PRINTING is withdrawn (R75, R104, R161); a second withdrawal changes nothing (R84). -/
def withdraw (id : CopyId) (s : State) : State :=
  if (copyOf s id).any fun c => c.marks.withdrawn then s
  else stopLabel (releaseCopy id (addMark id (fun m => { m with withdrawn := true }) s))

/-! ## Calibration (R153 to R155) -/

/-- The reasons that do not hold back a calibration (R153). -/
def calibrationAllowed (p : PauseSet) : Bool := !p.hot && !p.media && !p.headFault

/-- A calibration on CONT stock, which completes within the starting event (R153). The engine does not leave IDLE in it, so
a running idle timer runs on (log entry 56). -/
def contCalibrate (s : State) : State :=
  let s := endCondition .calFail { s with pe := { s.pe with
    pitch := s.pe.contPitch, calibrated := true, tops := [s.pe.position], violations := 0 } }
  offerReport (.cal (some s.pe.pitch)) s

/-- A calibration on GAP or MARK stock starts (R153). -/
def startCalibration (origin : CalOrigin) (copy : Option CopyId) (s : State) : State :=
  let s := stopIdleTimer (forgetStock s)
  { s with pe := { s.pe with
    engine := .calibrating, calibrated := false, violations := 0, stepTime := Config.calStepTime
    cal := some { origin := origin, copy := copy, steps := 0, edges := [] } } }

/-- The gap level a calibration has found (R154): the level of the shorter of its first two complete runs; absent
before e3, and where the runs are equal. -/
def Calibration.gapLevel (c : Calibration) : Option SensorLevel :=
  match c.edges with
  | e1 :: e2 :: e3 :: _ =>
    if e2.position - e1.position < e3.position - e2.position then some e1.level
    else if e3.position - e2.position < e2.position - e1.position then some e2.level
    else none
  | _ => none

/-- The first two captures at or after e2 (R154): s1 and s2. -/
def Calibration.captures (c : Calibration) : Option (Int × Int) :=
  match c.gapLevel with
  | some g =>
    match (c.edges.drop 1).filter fun e => e.level ≠ g with
    | a :: b :: _ => some (a.position, b.position)
    | _ => none
  | none => none

/-- What a calibration knows after a step (R154, R155). -/
inductive CalVerdict where
  | goOn
  | failed
  /-- The stock is found: s1, s2 and the gap level. -/
  | found (s1 s2 : Int) (gap : SensorLevel)
  deriving DecidableEq, Repr

/-- The judgement of a calibration's edges and steps (R154, R155). -/
def Calibration.judge (c : Calibration) : CalVerdict :=
  match c.gapLevel, c.captures with
  | some g, some (a, b) => if 104 ≤ b - a ∧ b - a ≤ 2400 then .found a b g else .failed
  | none, _ => if 3 ≤ c.edges.length ∨ Config.calLimit ≤ c.steps then .failed else .goOn
  | some _, none => if Config.calLimit ≤ c.steps then .failed else .goOn

/-- A calibration fails (R155): the engine is IDLE and uncalibrated, CAL-FAIL is raised, CAL FAIL is offered, and the
copy of an AUTO calibration fails. -/
def failCalibration (c : Calibration) (s : State) : State :=
  let s := enterIdle { s with pe := { s.pe with cal := none, calibrated := false } }
  let s := offerReport (.cal none) (raiseFault .calFail s)
  match c.copy with
  | none => s
  | some id =>
    if (copyOf s id).any fun k => k.state == .rendering || k.state == .rendered then
      offerDone id.tag (endUnprinted id .failed s)
    else s

/-- A calibration succeeds (R154). -/
def succeedCalibration (s1 s2 : Int) (gap : SensorLevel) (s : State) : State :=
  let s := endCondition .calFail { s with pe := { s.pe with
    pitch := (s2 - s1).toNat, sense := Sense.ofLevel gap, calibrated := true, lastCapture := some s2,
    tops := [s2 + Config.soff], cal := none } }
  enterIdle (offerReport (.cal (some s.pe.pitch)) s)

/-! ## The label start (R156, R157) -/

/-- PE's next copy, where the label start condition holds for it (R156). -/
def startableCopy (s : State) : Option CopyId :=
  if s.pe.engine = .idle ∧ s.pe.presented = none ∧ s.pe.pause.isEmpty then
    match nextPrintCopy s with
    | some id =>
      let bound := (copyOf s id).any fun c => c.bound
      if renderReady s id ∧ (s.lp.on = true → s.ss.settings.mode = .trigger → bound = true) then some id else none
    | none => none
  else none

/-- A label start (R157). -/
def startLabel (id : CopyId) (s : State) : State :=
  match s.pe.tops with
  | [] => s
  | n :: tops =>
    let s := headLabelStart (setCopyState id .printing s)
    let tops := if s.pe.stock = .cont then tops ++ [n + s.pe.pitch] else tops
    let l : LabelContext :=
      { copy := some id, top := n, lines := min (copyLength s id) (s.pe.pitch - 8), y := 0, phase := .print,
        pitch := s.pe.pitch, peel := 0, arrived := false, band := none }
    let s := { s with pe := { s.pe with tops := tops, label := some l } }
    if n < s.pe.position then
      { s with pe := { s.pe with engine := .backfeeding, stepTime := lineTime s } }
    else decideBoundary { s with pe := { s.pe with engine := .printing } }

/-- The label start condition is tested (R156): the label starts, or an AUTO calibration is made for the copy first. -/
def testLabelStart (s : State) : State :=
  match startableCopy s with
  | none => s
  | some id =>
    if s.pe.calibrated then startLabel id s
    else if (faultOf s .calFail).active then s
    else if s.pe.stock = .cont then startLabel id (contCalibrate s)
    else startCalibration .auto (some id) s

/-! ## The pause set's effect (R168), the sensor's read (R166), removal (R164) -/

/-- PE acts on the removal of the last pause reason (R168). -/
def resume (s : State) : State :=
  match s.pe.engine with
  | .halted =>
    match s.pe.label with
    | some l => if l.phase = .feedOut then startFeedOut l s else decideBoundary s
    | none => s
  | .idle => testLabelStart s
  | .calibrating | .backfeeding | .printing | .feedingOut | .holding => s

/-- PE acts if the event that began in `before` has removed the last pause reason (R168). -/
def resumeIfEmptied (before s : State) : State := if pauseEmptied before s then resume s else s

/-- A reason leaves the pause set, and PE acts if it was the last (R167, R168). -/
def removeReason (r : PauseReason) (s : State) : State := resumeIfEmptied s (dropReason r s)

/-- MEDIA-OUT, where it is active, clears if the sensor then reads the label level of the sense (R166). PE's act on the
pause set is left to the caller. With MEDIA set to CONT since MEDIA-OUT was raised, the sensor is read here all the same
(DESIGN CHOICE, log entry 58). -/
def readSensorForMediaOut (level : SensorLevel) (s : State) : State :=
  if (faultOf s .mediaOut).active then
    let s := { s with pe := { s.pe with sensor := level } }
    if level ≠ s.pe.sense.gapLevel then dropReason .media (clearFlags .mediaOut s) else s
  else s

/-- Removal of the presented label (R164): the engine goes from HOLDING to IDLE, and the label start condition is
tested. -/
def removePresented (s : State) : State :=
  let s := { s with pe := { s.pe with presented := none } }
  testLabelStart (if s.pe.engine = .holding then enterIdle s else s)

/-- The presented label becomes waste (R164). -/
def spoilPresented (s : State) : State :=
  { s with pe := { s.pe with presented := s.pe.presented.map fun p => { p with waste := true } } }

/-- A copy in PRESENTED becomes WASTED, and its label waste (R82, R181). -/
def wastePresented (id : CopyId) (s : State) : State := spoilPresented (endCopy id .wasted s)

/-- One copy is withdrawn by CAN, or by binding to a PURGE entry, according to its state (R82, R181). -/
def withdrawCopy (id : CopyId) (s : State) : State :=
  match (copyOf s id).map Copy.state with
  | some .waiting => endUnprinted id .voided s
  | some .rendering => endUnprinted id .voided s
  | some .rendered => endUnprinted id .voided s
  | some .printing => withdraw id s
  | some .presented => wastePresented id s
  | some .applying => s
  | some (.terminal _) => s
  | none => s

/-! ## The FEED move (R169) -/

/-- A FEED move ends (R169): the engine returns to IDLE, and the label start condition is tested. -/
def endFeedMove (s : State) : State := testLabelStart (enterIdle { s with pe := { s.pe with feedMove := none } })

/-- A FEED move begins (R169): N leaves the top list, and a move whose target is at or behind the media ends at once. -/
def startFeedMove (s : State) : State :=
  match s.pe.tops with
  | [] => s
  | n :: tops =>
    let tops := if s.pe.stock = .cont then tops ++ [n + s.pe.pitch] else tops
    let s := stopIdleTimer { s with pe := { s.pe with
      engine := .feedingOut, tops := tops, feedMove := some n, stepTime := lineTime s } }
    if reached s (moveTarget s n) then endFeedMove s else s

end Sys2Proof.Machine
end

