-- ==== Sys2Proof/Machine/Line.lean ====
section
/-! DEFINITION. The line port and parcel tracker (Chapter 10): the binding cursor, binding, purging, apply points, the
pulse outputs, and the port turned ON and OFF. -/

namespace Sys2Proof.Machine

/-! ## The binding cursor (R172, R173, R180) -/

/-- A copy may be bound: it is neither terminal nor APPLYING (R180). -/
def Copy.bindable (c : Copy) : Bool := !c.state.isTerminal && c.state != .applying

/-- The copy available for binding, with its place in print order (R180). -/
def availableCopy (s : State) : Option (Nat × CopyId) :=
  let order := printOrder s
  match (order.drop s.lp.cursor).findIdx? fun p => p.2.bindable with
  | some i => order[s.lp.cursor + i]?.map fun p => (s.lp.cursor + i, p.1)
  | none => none

/-- The place just before the earliest bindable copy, or the end of print order (R172, R173). -/
def cursorStart (s : State) : Nat :=
  let order := printOrder s
  (order.findIdx? fun p => p.2.bindable).getD order.length

/-! ## The parcel list (R178 to R182) -/

/-- The first entry that `p` holds of replaced by what `f` makes of it, or removed. -/
def changeFirst (p : Parcel → Bool) (f : Parcel → Option Parcel) : List Parcel → List Parcel
  | [] => []
  | e :: es =>
    if p e then
      match f e with
      | some e' => e' :: es
      | none => es
    else e :: changeFirst p f es

/-- The parcel list changed by `f`. -/
def mapParcels (f : List Parcel → List Parcel) (s : State) : State :=
  { s with lp := { s.lp with parcels := f s.lp.parcels } }

/-- An OPEN entry. -/
def Parcel.isOpen (e : Parcel) : Bool := e.state == .open

/-- Binding a LABEL entry (R180): the oldest OPEN entry becomes BOUND and names the copy, which becomes bound. -/
def bindLabel (id : CopyId) (s : State) : State :=
  setBound id true
    (mapParcels (changeFirst Parcel.isOpen fun e => some { e with state := .bound, copy := some id }) s)

/-- Binding a PURGE entry (R181): the oldest OPEN entry is removed and the copy withdrawn. -/
def bindPurge (id : CopyId) (s : State) : State :=
  offerDone id.tag (withdrawCopy id (mapParcels (changeFirst Parcel.isOpen fun _ => none) s))

/-- One binding (R180, R181): the oldest OPEN entry takes the available copy, and the cursor moves past it; absent
where no entry is OPEN or no copy available. -/
def bindOne (s : State) : Option State :=
  match s.lp.parcels.find? Parcel.isOpen, availableCopy s with
  | some e, some (i, id) =>
    let s := { s with lp := { s.lp with cursor := i + 1 } }
    some (match e.kind with
      | .label => bindLabel id s
      | .purge => bindPurge id s)
  | _, _ => none

/-- LP binds until no entry is OPEN or no copy is available (R180); `fuel` bounds the number of OPEN entries. -/
def bindAll : Nat → State → State
  | 0, s => s
  | fuel + 1, s =>
    match bindOne s with
    | some s' => bindAll fuel s'
    | none => s

/-- LP binds in an event, and PE tests the label start condition (R156, R180, R181). -/
def bindEvent (s : State) : State := testLabelStart (bindAll s.lp.parcels.length s)

/-! ## Pulses (R186) -/

/-- One pulse requested, at most 65535 owed (R186). -/
def PulseOutput.request (p : PulseOutput) : PulseOutput := { p with owed := min 65535 (p.owed + 1) }

/-- An APPLY pulse requested. -/
def requestApply (s : State) : State := { s with lp := { s.lp with apply := s.lp.apply.request } }

/-- A MISS pulse requested. -/
def requestMiss (s : State) : State := { s with lp := { s.lp with miss := s.lp.miss.request } }

/-! ## Apply points (R175, R184) -/

/-- A conveyor position has reached a target (R175). -/
def conveyorReached (p a : BitVec 32) : Bool := decide ((p - a).toNat < 2 ^ 31)

/-- An entry whose apply point is still to be handled (R184). -/
def Parcel.awaitsApply (e : Parcel) : Bool := e.kind == .label && e.state != .applying

/-- An apply point handled without APPLY (R184): a MISS pulse is owed and the entry is removed. -/
def missEntry (s : State) : State := requestMiss (mapParcels (changeFirst Parcel.awaitsApply fun _ => none) s)

/-- The apply point of a presented good label (R184, first row): APPLY is owed and the apply wait begins. -/
def applyEntry (id : CopyId) (s : State) : State :=
  let s := mapParcels (changeFirst Parcel.awaitsApply fun e => some { e with state := .applying }) s
  let s := requestApply (setCopyState id .applying s)
  { s with lp := { s.lp with applyWait := some { copy := id, timer := false } } }

/-- The apply point of the first entry awaiting it, which is `e`, is handled (R184). -/
def handleEntry (e : Parcel) (s : State) : State :=
  match e.state, e.copy with
  | .bound, some id =>
    match (copyOf s id).map Copy.state with
    | some .presented => applyEntry id s
    | some .printing => raiseFault .late (addMark id (fun m => { m with late := true }) (setBound id false (missEntry s)))
    | some .waiting => raiseFault .late (offerDone id.tag (endUnprinted id .missedUnprinted (missEntry s)))
    | some .rendering => raiseFault .late (offerDone id.tag (endUnprinted id .missedUnprinted (missEntry s)))
    | some .rendered => raiseFault .late (offerDone id.tag (endUnprinted id .missedUnprinted (missEntry s)))
    | some .applying => raiseFault .late (missEntry s)
    | some (.terminal _) => raiseFault .late (missEntry s)
    | none => raiseFault .late (missEntry s)
  | _, _ => raiseFault .late (missEntry s)

/-- The apply points reached are handled in list order, up to the first not reached (R184); `fuel` bounds the number of
entries. -/
def handleApplyPoints : Nat → State → State
  | 0, s => s
  | fuel + 1, s =>
    match s.lp.parcels.find? Parcel.awaitsApply with
    | some e => if conveyorReached s.lp.conveyor e.apply then handleApplyPoints fuel (handleEntry e s) else s
    | none => s

/-! ## The taking of a trigger (R179) -/

/-- The entry a trigger makes (R178, R179). -/
def newParcel (s : State) (w : ConflictWindow) : Parcel :=
  { seq := s.lp.seq, kind := w.kind, trigger := w.position,
    apply := w.position + BitVec.ofNat 32 s.ss.settings.applyd, copy := none, state := .open }

/-- A trigger is taken at the expiry of its window (R179). -/
def takeTrigger (w : ConflictWindow) (s : State) : State :=
  if s.lp.parcels.length < 8 then
    let e := newParcel s w
    let s := bindEvent { s with lp := { s.lp with parcels := s.lp.parcels ++ [e], seq := s.lp.seq + 1 } }
    if e.kind = .label ∧ s.lp.parcels.any (fun x => x.seq == e.seq) ∧ conveyorReached s.lp.conveyor e.apply then
      testLabelStart (handleApplyPoints s.lp.parcels.length s)
    else s
  else raiseFault .lineOverrun (requestMiss s)

/-! ## The port (R172, R173, R190) -/

/-- Every bound copy returned to unbound (R173). -/
def unbindAll (s : State) : State :=
  { s with jq := { s.jq with
    jobs := s.jq.jobs.map fun j => { j with copies := j.copies.map fun c => { c with bound := false } } } }

/-- The port becomes OFF (R173): waiting trigger, entries, bindings and pulses are dropped, the apply wait is kept, with
its timer started where its pulse was still owed. The pause reason LINE is left to the caller. -/
def portOff (s : State) : State :=
  let s := unbindAll s
  { s with lp := { s.lp with
    on := false, window := none, parcels := [], cursor := cursorStart s
    applyWait := s.lp.applyWait.map fun w => { w with timer := true }
    apply := { owed := 0, high := false }, miss := { owed := 0, high := false } } }

/-- The port becomes ON (R172). -/
def portOn (s : State) : State :=
  let s := { s with lp := { s.lp with
    on := true, cursor := cursorStart s, apply := { owed := 0, high := false }, miss := { owed := 0, high := false } } }
  if s.lp.hold then addReason .line s else s

/-! ## The apply wait (R187, R188) -/

/-- The APPLYING entry removed, if it is still in the list. -/
def removeApplying (s : State) : State := mapParcels (changeFirst (fun e => e.state == .applying) fun _ => none) s

/-- The copy of the apply wait takes its result: the APPLYING entry is removed and the apply wait ends (R187, R188). -/
def endApplyWait (id : CopyId) (r : CopyResult) (s : State) : State :=
  let s := removeApplying (endCopy id r s)
  { s with lp := { s.lp with applyWait := none } }

/-- An APPLY pulse still owed for the apply wait is withdrawn (R187). -/
def withdrawPulse (w : ApplyWait) (s : State) : State :=
  if w.timer then s else { s with lp := { s.lp with apply := { s.lp.apply with owed := s.lp.apply.owed - 1 } } }

end Sys2Proof.Machine
end

