-- ==== Sys2Proof/Machine/Link.lean ====
section
/-! DEFINITION. The job link's receive side and parser (1.1 to 1.5), and the abort and reload that several commands
share (R85, R86, R203, R204). -/

namespace Sys2Proof.Machine

/-- What a command's meaning answers. -/
abbrev Result := Host.Outcome State Fault Refusal

/-- An event that the part has only while it is powered and `p` holds; otherwise the state is unchanged (log entries 1
and 30). A reloaded geometry takes its effect in it (R204). -/
def inEvent (p : Bool) (f : State → State) (s : State) : Result :=
  .next (if s.powered && p then f (takeGeometry s) else s)

/-! ## The receive buffer (R3, R5, R17) -/

/-- Positions a complete record occupies: its characters and its LF; the LF of a damaged record is not stored (log
entry 16). -/
def Record.positions (r : Record) : Nat := if r.damaged then r.chars.length else r.chars.length + 1

/-- Positions in use. -/
def bufferUsed (jl : JobLink) : Nat := (jl.records.map Record.positions).sum + jl.receiving.length

/-- Positions free. -/
def bufferFree (jl : JobLink) : Nat := Config.bufferSize - bufferUsed jl

/-- CTS after a character is stored (R3). -/
def ctsAfterStore (jl : JobLink) : JobLink := if bufferFree jl ≤ 256 then { jl with cts := false } else jl

/-- CTS after a record is removed (R3). -/
def ctsAfterRemove (jl : JobLink) : JobLink := if 1536 ≤ bufferFree jl then { jl with cts := true } else jl

/-- The record being received ends and takes its place behind the complete records (R3, R5, R17). -/
def completeRecord (jl : JobLink) : JobLink :=
  { jl with
    records := jl.records ++
      [{ chars := jl.receiving, damaged := jl.receivingDamaged, overLong := jl.receivingOverLong }]
    receiving := [], receivingDamaged := false, receivingOverLong := false }

/-- A received character (R3, R5, R17); `good` says that its stop bit was found. -/
def receiveCharacter (c : Byte) (good : Bool) (jl : JobLink) : JobLink :=
  if jl.receivingDamaged then if good ∧ c = 10 then completeRecord jl else jl
  else if !good ∨ Config.bufferSize ≤ bufferUsed jl then { jl with receivingDamaged := true }
  else if c = 13 then jl
  else if c = 10 then if jl.receiving = [] then jl else ctsAfterStore (completeRecord jl)
  else if jl.receivingOverLong then jl
  else
    let t := jl.receiving ++ [c]
    ctsAfterStore { jl with receiving := t, receivingOverLong := decide (512 ≤ t.length) }

/-! ## Taking records (R9 to R11, R16) -/

/-- The parser may take a record (R16). -/
def parserReady (s : State) : Bool :=
  s.powered && decide (s.jl.reports.length < Config.reportSlots) && s.jl.waiting.isEmpty && s.jl.rateSwitch.isNone
    && s.ss.start == .running

/-- The record at the front of the receive buffer, when the parser may take it. -/
def frontRecord (s : State) : Option Record := if parserReady s then s.jl.records.head? else none

/-- The event in which the parser takes the front record: the record leaves the buffer (R3), and a reloaded geometry
takes its effect (R204). -/
def removeRecord (s : State) : State :=
  { takeGeometry s with jl := ctsAfterRemove { s.jl with records := s.jl.records.tail } }

/-- What stands behind the space of the front record, when the parser may take it and it is a sound record of the given
keyword (R11, checks 1 to 3). -/
def frontRest (k : Keyword) (s : State) : Option (Option Text) :=
  match frontRecord s with
  | some r =>
    if r.damaged then none
    else match headOf r with
      | .known k' rest => if k' = k then some rest else none
      | .refused _ => none
  | none => none

/-- The context set. -/
def setContext (c : Context) (s : State) : State := { s with jl := { s.jl with context := c } }

/-- The open context returns to NONE and its operation is abandoned (R9, R30, R72). -/
def abandonContext (s : State) : State :=
  let s' := setContext .none s
  match s.jl.context with
  | .none => s'
  | .job => { s' with jq := { s'.jq with assembly := none } }
  | .object => { s' with os := abandonLoad s'.os }
  | .format => { s' with os := abandonLoad s'.os }

/-- A keyword is admitted in a context (R10). -/
def admitted (k : Keyword) (c : Context) : Bool :=
  match k with
  | .stat | .pause | .go | .can | .clr | .line | .abort => true
  | .job | .obj | .fmt | .del | .ctr | .set | .save | .cal | .reset => c == .none
  | .dat | .eoj => c == .job
  | .blk | .eob => c == .object
  | .txt | .bar | .box | .img | .fend => c == .format

/-- The context a keyword closes (R9). -/
def Keyword.closes : Keyword → Option Context
  | .eoj => some .job
  | .eob => some .object
  | .fend => some .format
  | .obj | .blk | .del | .fmt | .txt | .bar | .box | .img | .ctr | .job | .dat | .can | .abort | .set | .save
  | .reset | .cal | .pause | .go | .line | .clr | .stat => none

/-- A record refused with an ERR report that carries its keyword (R6, R11). -/
def refuse (code : ErrCode) (k : Keyword) (s : State) : State := reply (.err code (some k.text)) s

/-- A record that is the closing record of the open context, refused by JL, still closes it (R9, log entry 43); an ABORT
refused by JL leaves it open (log entry 50). -/
def closeIfCloser (k : Keyword) (s : State) : State :=
  if k.closes = some s.jl.context then abandonContext s else s

/-- A record of an admitted keyword whose parameters do not match its form (R11, check 5). -/
def refuseForm (code : ErrCode) (k : Keyword) (s : State) : State := refuse code k (closeIfCloser k s)

/-- A record of keyword `k` taken by its form, with its owner's meaning (R11, R12). The state is unchanged where the
parser cannot take such a record now (log entry 1). -/
def onRecord {α : Type} (k : Keyword) (form : List Param → FormCheck α) (owner : α → State → State) (s : State) :
    State :=
  match frontRest k s with
  | none => s
  | some rest =>
    let s := removeRecord s
    if admitted k s.jl.context then
      match readParams rest with
      | none => refuseForm .syntaxErr k s
      | some ps =>
        match form ps with
        | .ok v => owner v s
        | .range => refuseForm .range k s
        | .bad => refuseForm .syntaxErr k s
    else refuse .sequence k s

/-! ## Abort (R85, R86, R105, R161) -/

/-- The references of every job released, and every slot freed (R85 step 2). -/
def discardJobs (s : State) : State :=
  { s with os := s.jq.jobs.foldl releaseJob s.os, jq := { s.jq with jobs := [] } }

/-- The abort's effect on PE's records (R86, R154, R164): the label in progress and a calibration lose their copy, and a
presented label becomes waste with no copy. -/
def dropEngineCopies (s : State) : State :=
  { s with pe := { s.pe with
    label := s.pe.label.map fun l => { l with copy := none }
    cal := s.pe.cal.map fun c => { c with copy := none }
    presented := s.pe.presented.map fun _ => { copy := none, waste := true } } }

/-- The abort's effect on LP (R86, R187): the parcel list is emptied without MISS, the cursor goes to the start of print
order, and the apply wait ends. -/
def dropParcels (s : State) : State :=
  { s with lp := { s.lp with parcels := [], cursor := 0, applyWait := none } }

/-- The abort of R85 and R86, without a report. -/
def performAbort (s : State) : State :=
  let s := dropParcels (dropEngineCopies (discardJobs s))
  let s := freeBandsWhere (fun b => b.state == .filling || b.state == .ready) (endRender s)
  stopLabel s

/-! ## Loading the settings (R201, R203, R204) -/

/-- SS judges the image and fills the settings record and the counters (R201, R203 step 1). -/
def fillSettings (s : State) : State :=
  match loadedImage s.ss with
  | some (x, cb) => { s with ss := { s.ss with settings := x }, cb := cb }
  | none =>
    { s with ss := { s.ss with settings := defaultSettings }, cb := Vector.replicate 8 defaultCounter }

/-- SETTINGS-LOST raised with its reported state already SET (R199, R203 step 3). -/
def raiseSettingsLost (s : State) : State :=
  setFault .settingsLost { active := true, latched := true, reported := true } s

/-- Steps 1 to 3 of R203, but for RATE and PE's geometry: the image is judged, its values are handed to their owners,
and a bad image raises SETTINGS-LOST. -/
def reloadSettings (s : State) : State :=
  let bad := (loadedImage s.ss).isNone
  let s := fillSettings s
  let s := { s with stu := s.stu.load s.ss.settings.energy }
  if bad then raiseSettingsLost s else s

/-- The report of a load (R201). -/
def rdyReport (before : State) : Report := .rdy (loadedImage before.ss).isSome

/-- The reload of a soft reset (R204): the load, a rate switch where the rate differs, RDY, and the notices that the
reloaded routes make owed (R198, log entry 21). A reloaded MEDIA or PITCH waits for the first event afterwards that
finds the engine IDLE once RDY has entered the queue (`takeGeometry`). -/
def reloadAfterReset (s : State) : State :=
  let r := rdyReport s
  let s := reloadSettings { s with ss := { s.ss with start := .resetRdy } }
  offerNotices (offerReport r (requestRate s.ss.settings.rate s))

end Sys2Proof.Machine
end

