-- ==== Sys2Proof/Machine/EngineCmds.lean ====
section
/-! DEFINITION. The events of the print engine and the panel keys (Chapter 9): BACKFEED_COMPLETION, LINE_COMPLETION,
MEDIA_STEP, CALIBRATION_SUCCESS, FEED_OUT_COMPLETION, FEED_MOVE_COMPLETION, FEED_KEY, PAUSE_KEY. -/

namespace Sys2Proof.Machine

/-! ## The label's moves -/

/-- The backfeed completes (R158): the media stands at Pk, and the boundary before line 0 is decided. -/
def completeBackfeed (s : State) : State :=
  match s.pe.label with
  | none => s
  | some l => decideBoundary { s with pe := { s.pe with position := l.top, engine := .printing, stepTime := 0 } }

/-- BACKFEED_COMPLETION (R158). -/
def execBackfeedCompletion (s : State) : Result := inEvent (s.pe.engine == .backfeeding) completeBackfeed s

/-- The band whose last printed line is now complete is freed (R101, R104, R105, R160 step 4): every band the copy holds
after line L′ − 1, the band in print after its 64th line or when the label was stopped. -/
def releasePrinted (l : LabelContext) (s : State) : State :=
  if l.y + 1 = l.lines then freeLabelBands l (freePrintingBand s)
  else if lastOfBand l.y l.lines ∨ labelStopped s l then freePrintingBand s
  else s

/-- Line y of the label is behind the media (R160 step 5). -/
def advanceLine (s : State) : State :=
  { s with pe := { s.pe with label := s.pe.label.map fun l => { l with y := l.y + 1 } } }

/-- The line completion (R160). A guard that trips in it leaves the engine HALTED (R165, log entry 34). -/
def completeLine (sensor : SensorLevel) (l : LabelContext) (s : State) : State :=
  let p := guardedStep sensor { s with hi := { s.hi with line := none }, pe := { s.pe with stepTime := 0 } }
  let s := advanceLine (releasePrinted l p.1)
  if p.2 then s else decideBoundary s

/-- LINE_COMPLETION (R160): the line's strobe has completed. -/
def execLineCompletion (sensor : SensorLevel) (s : State) : Result :=
  inEvent (lineInProgress s && !strobing s)
    (fun s => match s.pe.label with
      | some l => completeLine sensor l s
      | none => s) s

/-! ## Media steps (R151, R154, R155, R162, R165, R169) -/

/-- A calibration's step, with its edge and its judgement (R154, R155). -/
def calibrationStep (sensor : SensorLevel) (c : Calibration) (s : State) : State :=
  let edge := stepShowsEdge sensor s
  let s := stepMedia sensor s
  let c : Calibration :=
    { c with
      steps := c.steps + 1
      edges := if edge then c.edges ++ [{ position := s.pe.position, level := sensor }] else c.edges }
  match c.judge with
  | .failed => testLabelStart (failCalibration c s)
  | .goOn => { s with pe := { s.pe with cal := some c } }
  | .found _ _ _ => { s with pe := { s.pe with cal := some c } }

/-- A calibration has found the stock and fed 96 steps more (R154). -/
def calibrationArrived (s : State) (c : Calibration) : Bool :=
  match c.judge with
  | .found _ b _ => decide (b + Config.soff ≤ s.pe.position)
  | .failed => false
  | .goOn => false

/-- A step of a feed-out (R162): its completion is taken in this event only where the step made the target known at or
behind the media (log entry 18). -/
def feedOutStep (sensor : SensorLevel) (l : LabelContext) (s : State) : State :=
  let known := (feedTarget s l).isSome
  let p := guardedStep sensor s
  match p.1.pe.label with
  | some l' => if p.2 = false ∧ known = false ∧ reached p.1 (feedTarget p.1 l') then completeFeedOut l' p.1 else p.1
  | none => p.1

/-- A step of a FEED move (R169). A move that the guard stops has ended (R156, R165). -/
def feedMoveStep (sensor : SensorLevel) (n : Int) (s : State) : State :=
  let known := (moveTarget s n).isSome
  let p := guardedStep sensor s
  if p.2 then testLabelStart p.1
  else if known = false ∧ reached p.1 (moveTarget p.1 n) then endFeedMove p.1
  else p.1

/-- A media step of a calibration, feed-out or FEED move that is still under way (R151). -/
def moveStep (sensor : SensorLevel) (s : State) : State :=
  match s.pe.engine with
  | .calibrating =>
    match s.pe.cal with
    | some c => if calibrationArrived s c then s else calibrationStep sensor c s
    | none => s
  | .feedingOut =>
    match s.pe.label, s.pe.feedMove with
    | some l, _ => if l.arrived ∨ reached s (feedTarget s l) then s else feedOutStep sensor l s
    | none, some n => if reached s (moveTarget s n) then s else feedMoveStep sensor n s
    | none, none => s
  | .idle | .backfeeding | .printing | .halted | .holding => s

/-- MEDIA_STEP (R151). -/
def execMediaStep (sensor : SensorLevel) (s : State) : Result := inEvent (s.pe.engine != .idle) (moveStep sensor) s

/-- CALIBRATION_SUCCESS (R154): the calibration's 96 steps beyond s2 are fed. -/
def execCalibrationSuccess (s : State) : Result :=
  inEvent (s.pe.engine == .calibrating)
    (fun s => match s.pe.cal with
      | some c =>
        if calibrationArrived s c then
          match c.judge with
          | .found a b g => testLabelStart (succeedCalibration a b g s)
          | .failed => s
          | .goOn => s
        else s
      | none => s) s

/-- FEED_OUT_COMPLETION (R162): the media stands at the label's target. -/
def execFeedOutCompletion (s : State) : Result :=
  inEvent (s.pe.engine == .feedingOut)
    (fun s => match s.pe.label with
      | some l => if l.arrived = false ∧ reached s (feedTarget s l) then completeFeedOut l s else s
      | none => s) s

/-- FEED_MOVE_COMPLETION (R169): the media stands at the move's target. -/
def execFeedMoveCompletion (s : State) : Result :=
  inEvent (s.pe.engine == .feedingOut && s.pe.label.isNone)
    (fun s => match s.pe.feedMove with
      | some n => if reached s (moveTarget s n) then endFeedMove s else s
      | none => s) s

/-! ## The panel keys (R167, R169) -/

/-- Start-up is over, so that the keys act (R16). -/
def started (s : State) : Bool := s.ss.start != .loading && s.ss.start != .startRdy

/-- The first part of a FEED press (R166, R169): MEDIA-OUT clears when the sensor reads the label level, and PE acts on
the pause set. -/
def feedFirstPart (sensor : SensorLevel) (s : State) : State :=
  resumeIfEmptied s (offerNotices (readSensorForMediaOut sensor s))

/-- The second part of a FEED press (R169). -/
def feedSecondPart (s : State) : State :=
  if s.pe.presented = none ∧ s.pe.engine = .idle ∧ s.pe.pause.media = false then
    if s.pe.calibrated then startFeedMove s
    else if calibrationAllowed s.pe.pause then
      if s.pe.stock = .cont then testLabelStart (contCalibrate s) else startCalibration .panel none s
    else s
  else s

/-- FEED_KEY (R169). -/
def execFeedKey (sensor : SensorLevel) (s : State) : Result :=
  inEvent (started s) (fun s => feedSecondPart (feedFirstPart sensor s)) s

/-- PAUSE_KEY (R167): PANEL is added when it is absent and removed when it is present. -/
def execPauseKey (s : State) : Result :=
  inEvent (started s) (fun s => if s.pe.pause.panel then removeReason .panel s else addReason .panel s) s

end Sys2Proof.Machine
end

