-- ==== Sys2Proof/Machine/FormatCmds.lean ====
section
/-! DEFINITION. The format compiler's records FMT, TXT, BAR, BOX, IMG and FEND (Chapter 3) and the counter record CTR
(Chapter 4). -/

namespace Sys2Proof.Machine

/-! ## Opening (R38) -/

/-- The compiler takes FMT (R31, R38). -/
def takeFmt (f : FmtForm) (s : State) : State :=
  let w := f.width.getD 832
  if f.length < 8 ∨ 2400 < f.length ∨ w < 8 ∨ 832 < w then refuse .range .fmt s
  else match freeEntryIndex s.os with
    | none => refuse .dirFull .fmt s
    | some i =>
      let os := setEntry i (some (newEntry f.name .format 0)) s.os
      setContext .format
        { s with os := { os with defn := some { length := f.length.toNat, width := w.toNat, fields := [] } } }

/-- FMT (R38). -/
def execFmt (s : State) : Result := .next (onRecord .fmt formFmt takeFmt s)

/-! ## Fields (R39 to R42) -/

/-- The compiled bytes that a format, as it then stands, appends from a position of its object (R39, R40; log entry
8). -/
def compiledBytes (d : Format) (start n : Nat) : List Byte :=
  (List.range n).map fun j => Config.compiledByte d (start + j)

/-- The characters of a literal source. -/
def literalLength : FieldBody → Nat
  | .txt _ (.literal t) _ _ => t.length
  | .bar _ (.literal t) _ _ _ _ _ _ => t.length
  | .txt _ (.item _) _ _ | .txt _ (.ctr _) _ _ => 0
  | .bar _ (.item _) _ _ _ _ _ _ | .bar _ (.ctr _) _ _ _ _ _ _ => 0
  | .box _ _ _ | .img _ => 0

/-- The compiled length of a field (R39). -/
def compiledSize (f : Field) : Nat := 24 + literalLength f.body

/-- A field names an object that the named-object list holds with the other kind (R41). -/
def conflicts (d : Format) (f : Field) : Bool :=
  match f.names with
  | some o => (namedObjects d.fields).any fun p => p.name == o.name && p.kind != o.kind
  | none => false

/-- A value inside a range, as a natural number. -/
def inRange (lo hi : Nat) (v : Int) : Option Nat := if (lo : Int) ≤ v ∧ v ≤ hi then some v.toNat else none

/-- The rotation of a field record (R42). -/
def rotationOf (r : Option Int) : Option Rotation :=
  match r with
  | none => some .r0
  | some v => if v = 0 then some .r0 else if v = 90 then some .r90 else if v = 180 then some .r180
    else if v = 270 then some .r270 else none

/-- A field built from its place and its body, where its origin lies on the label (R42). -/
def placeField (d : Format) (p : PlaceForm) (body : Option FieldBody) : Option Field :=
  match inRange 0 (d.width - 1) p.x, inRange 0 (d.length - 1) p.y, rotationOf p.rot, body with
  | some x, some y, some rot, some b => some { x := x, y := y, rot := rot, mode := p.mode, body := b }
  | _, _, _, _ => none

/-- The source of a field, in its range (R46). -/
def sourceOf : SourceForm → Option Source
  | .literal t => if 1 ≤ t.length ∧ t.length ≤ 96 then some (.literal t) else none
  | .item n => (inRange 1 16 n).map .item
  | .ctr n => (inRange 0 7 n).map .ctr

/-- The compiler takes a field record (R39): checks 1 to 4, and the field accepted. -/
def takeField (k : Keyword) (build : Format → Option Field) (s : State) : State :=
  match s.os.defn, loadingEntry s.os with
  | some d, some (i, e) =>
    if 40 ≤ d.fields.length then refuse .range k s
    else match build d with
      | none => refuse .range k s
      | some f =>
        if conflicts d f then refuse .range k s
        else
          let d' := { d with fields := d.fields ++ [f] }
          match appendBytes i e (compiledBytes d' e.received (compiledSize f)) s.os with
          | none => refuse .storeFull k (abandonContext s)
          | some os => { s with os := { os with defn := some d' } }
  | _, _ => s

/-- The field a TXT record defines (R48). -/
def buildTxt (f : TxtForm) (d : Format) : Option Field :=
  placeField d f.place (match sourceOf f.source, inRange 1 8 (f.mx.getD 1), inRange 1 8 (f.my.getD 1) with
    | some src, some mx, some my => some (.txt f.font src mx my)
    | _, _, _ => none)

/-- TXT (R48). -/
def execTxt (s : State) : Result := .next (onRecord .txt formTxt (fun f => takeField .txt (buildTxt f)) s)

/-- WIDE and RED fitted to the module width (R50). -/
def fitBetween (lo hi v : Nat) : Nat := max lo (min hi v)

/-- The field a BAR record defines (R50). -/
def buildBar (f : BarForm) (d : Format) : Option Field :=
  placeField d f.place
    (match sourceOf f.source, inRange 1 10 (f.module.getD 2), inRange 8 1200 (f.height.getD 80),
        inRange 0 9 (f.reduction.getD 0) with
    | some src, some m, some h, some r =>
      match f.wide with
      | none => some (.bar f.symbology src m (fitBetween (2 * m) (3 * m) (5 * m / 2)) h (min r (m - 1)) f.check f.hr)
      | some w =>
        (inRange 2 30 w).map fun w =>
          .bar f.symbology src m (fitBetween (2 * m) (3 * m) w) h (min r (m - 1)) f.check f.hr
    | _, _, _, _ => none)

/-- BAR (R50). -/
def execBar (s : State) : Result := .next (onRecord .bar formBar (fun f => takeField .bar (buildBar f)) s)

/-- The field a BOX record defines (R52): its occupied extents are checked against the format. -/
def buildBox (f : BoxForm) (d : Format) : Option Field :=
  placeField d f.place
    (match rotationOf f.place.rot with
      | some rot =>
        let turned := rot = .r90 ∨ rot = .r270
        let wMax := if turned then d.length else d.width
        let hMax := if turned then d.width else d.length
        match inRange 1 wMax f.width, inRange 1 hMax f.height, inRange 1 2400 (f.thickness.getD 1) with
        | some u, some v, some t => some (.box u v t)
        | _, _, _ => none
      | none => none)

/-- BOX (R52). -/
def execBox (s : State) : Result := .next (onRecord .box formBox (fun f => takeField .box (buildBox f)) s)

/-- The field an IMG record defines (R54). -/
def buildImg (f : ImgForm) (d : Format) : Option Field := placeField d f.place (some (.img f.graphic))

/-- IMG (R54). -/
def execImg (s : State) : Result := .next (onRecord .img formImg (fun f => takeField .img (buildImg f)) s)

/-! ## Closing (R40) -/

/-- The compiler takes FEND (R40): the trailer, then the load completes. -/
def takeFend (_ : Unit) (s : State) : State :=
  match s.os.defn, loadingEntry s.os with
  | some d, some (i, e) =>
    match appendBytes i e (compiledBytes d e.received 8) s.os with
    | none => refuse .storeFull .fend (abandonContext s)
    | some os =>
      match ramEntry os i with
      | some e' => setContext .none { s with os := completeLoad i e' e'.received (some d) os }
      | none => setContext .none { s with os := os }
  | _, _ => setContext .none s

/-- FEND (R40). -/
def execFend (s : State) : Result := .next (onRecord .fend formNone takeFend s)

/-! ## CTR (R57, R58) -/

/-- The magnitude of STEP clamped, its sign kept (R58 step 3). -/
def clampStep (low high : Nat) (v : Int) : Int :=
  let m : Int := min 999 (high - low + 1 : Nat)
  if v < 0 then -(min m (-v)) else min m v

/-- The counter record a CTR programs (R58). -/
def programCounter (f : CtrForm) : Counter :=
  let low := clampNat 0 999999999 (f.low.getD 0)
  let high := clampNat low 999999999 (f.high.getD 999999999)
  { value := clampNat low high (f.value.getD low), low := low, high := high,
    step := clampStep low high (f.step.getD 1), mode := f.mode.getD .wrap, cascade := f.next.map Int.toNat,
    digits := clampNat 1 9 (f.digits.getD 9), fill := f.fill.getD .zero, exhausted := false }

/-- CB's checks of a CTR fail (R57). -/
def ctrRefused (f : CtrForm) : Bool :=
  decide (f.number < 0) || decide (7 < f.number)
    || f.next.any (fun j => decide (j ≤ f.number) || decide (7 < j)) || f.step == some 0

/-- CB takes CTR (R57, R58). -/
def takeCtr (f : CtrForm) (s : State) : State :=
  if ctrRefused f then refuse .range .ctr s
  else { s with cb := s.cb.setIfInBounds f.number.toNat (programCounter f) }

/-- CTR (R58). -/
def execCtr (s : State) : Result := .next (onRecord .ctr formCtr takeCtr s)

end Sys2Proof.Machine
end

