-- ==== Sys2Proof/Machine/HeadCmds.lean ====
section
/-! DEFINITION. The events of the strobe timing unit and the head interface (Chapter 8): SAMPLE_COMPLETION,
SETTLE_COMPLETION, IDLE_TIMER_EXPIRY, SHIFT_COMPLETION, STROBE_COMPLETION, CLOSING_COMPLETION. -/

namespace Sys2Proof.Machine

/-! ## Head temperature (R127 to R131, R134) -/

/-- A condition with hysteresis after a valid reading (R129, R130). -/
def hysteresis (begins ends : Int) (holds : Bool) (reading : Int) : Bool :=
  if begins ≤ reading then true else if reading ≤ ends then false else holds

/-- A reading is valid (R127). -/
def validReading (r : Int) : Bool := decide (-20 ≤ r) && decide (r ≤ 120)

/-- The temperature state after a sample, with the buffered width it computes (R127, R129, R130, R134). -/
def StrobeUnit.sampled (reading : Int) (u : StrobeUnit) : StrobeUnit :=
  let u :=
    if validReading reading then
      { u with reading := reading, temp := reading, sensorValid := true, warm := hysteresis 70 65 u.warm reading,
               hot := hysteresis 80 70 u.hot reading }
    else { u with reading := reading, sensorValid := false }
  { u with buffered := computeStrobe u.active u, swap := true }

/-- HEAD-WARM after a valid sample (R129, R145): raised while the condition holds and the kind is not active. -/
def followWarm (s : State) : State :=
  if s.stu.warm then if (faultOf s .headWarm).active then s else raiseFlags .headWarm s
  else endCondition .headWarm s

/-- HEAD-HOT and the reason HOT after a valid sample (R130, R145). -/
def followHot (s : State) : State :=
  if s.stu.hot then if (faultOf s .headHot).active then s else addReason .hot (raiseFlags .headHot s)
  else dropReason .hot (clearFlags .headHot s)

/-- A sample completes (R127 to R131). -/
def completeSample (reading : Int) (s : State) : State :=
  let s' := { s with stu := s.stu.sampled reading }
  let s' :=
    if validReading reading then endCondition .headSensor (followWarm (followHot s')) else raiseFlags .headSensor s'
  resumeIfEmptied s (offerNotices s')

/-- SAMPLE_COMPLETION (R127). -/
def execSampleCompletion (reading : Int) (s : State) : Result := inEvent true (completeSample reading) s

/-! ## Head power (R143, R144) -/

/-- The settle completes (R144): the head is ON, the idle timer starts if the engine is IDLE, and a label that waits for
the head has its boundary before line 0 decided again (R159). -/
def completeSettle (s : State) : State :=
  let s := { s with hi := { s.hi with power := .on } }
  if s.pe.engine = .idle then startIdleTimer s
  else if s.pe.engine = .printing ∧ lineInProgress s = false then decideBoundary s
  else s

/-- SETTLE_COMPLETION (R144). -/
def execSettleCompletion (s : State) : Result := inEvent (s.hi.power == .settling) completeSettle s

/-- IDLE_TIMER_EXPIRY (R143): the head becomes OFF. -/
def execIdleTimerExpiry (s : State) : Result :=
  inEvent s.hi.idleTimer.isSome (fun s => { s with hi := { s.hi with power := .off, idleTimer := none } }) s

/-! ## Shifts and strobes (R135 to R141, R147) -/

/-- The mask that a line's next shift shifts. -/
def LineStrobe.nextMask (l : LineStrobe) : Option Dots := l.masks[l.shifted]?

/-- A mask shift ends (R140): an owed compare is made, and the mask now shifted is read back by the next shift. -/
def completeShift (readback : Dots) (s : State) : State :=
  match s.hi.line with
  | none => s
  | some l =>
    match l.nextMask with
    | none => s
    | some m =>
      let s := compareReadback readback s
      { s with hi := { s.hi with
        line := some { l with shifted := l.shifted + 1 }, lastMask := m, owed := s.hi.verdictDue } }

/-- SHIFT_COMPLETION (R140). -/
def execShiftCompletion (readback : Dots) (s : State) : Result := inEvent (strobing s) (completeShift readback) s

/-- The line just strobed is the last line strobed for its label (R147). -/
def lastLineStrobed (s : State) : Bool :=
  match s.pe.label with
  | some l => labelStopped s l || l.y + 1 == l.lines
  | none => true

/-- A line's strobe ends (R135, R137): the history moves, a head that a soft reset found strobing turns OFF (R143), and
the closing shift follows the last line strobed (R147). -/
def completeStrobe (s : State) : State :=
  match s.hi.line with
  | none => s
  | some l =>
    if l.strobed ∨ l.shifted < l.masks.length then s
    else
      let s := { s with hi := { s.hi with
        p2 := s.hi.p1, p1 := l.dots, line := some { l with strobed := true }
        power := if s.hi.offAfterStrobe then .off else s.hi.power
        offAfterStrobe := false } }
      if lastLineStrobed s then beginClosing s else s

/-- STROBE_COMPLETION (R137). -/
def execStrobeCompletion (s : State) : Result := inEvent (strobing s) completeStrobe s

/-- The closing shift ends (R140, R141): its compare is made, the defect flag becomes the label's verdict, and a label
that awaited it is presented (R162). -/
def completeClosing (readback : Dots) (s : State) : State :=
  let s := compareReadback readback s
  let s := { s with hi := { s.hi with
    closing := false, lastMask := 0, owed := false, verdict := some s.hi.defect } }
  match s.pe.label with
  | some l => if l.arrived then present l s else s
  | none => s

/-- CLOSING_COMPLETION (R141). -/
def execClosingCompletion (readback : Dots) (s : State) : Result := inEvent s.hi.closing (completeClosing readback) s

end Sys2Proof.Machine
end

