-- ==== Sys2Proof/Machine/JobCmds.lean ====
section
/-! DEFINITION. The job queue's records JOB, DAT, EOJ, CAN and ABORT (Chapter 5). -/

namespace Sys2Proof.Machine

/-! ## Assembling (R69, R70) -/

/-- JQ takes JOB (R69). -/
def takeJob (f : JobForm) (s : State) : State :=
  let n := f.copies.getD 1
  if f.tag < 1 ∨ 65535 < f.tag then refuse .range .job s
  else if n < 1 ∨ 99 < n then refuse .range .job s
  else if (jobOf s f.tag.toNat).isSome then refuse .dupTag .job s
  else
    let a : Assembly :=
      { tag := f.tag.toNat, format := f.format, copies := n.toNat, items := Vector.replicate 16 none }
    setContext .job { s with jq := { s.jq with assembly := some a } }

/-- JOB (R69). -/
def execJob (s : State) : Result := .next (onRecord .job formJob takeJob s)

/-- JQ takes DAT (R70). -/
def takeDat (f : Int × Text) (s : State) : State :=
  if f.1 < 1 ∨ 16 < f.1 then refuse .range .dat s
  else if 96 < f.2.length then refuse .range .dat s
  else
    { s with jq := { s.jq with assembly := s.jq.assembly.map fun a =>
      { a with items := a.items.setIfInBounds (f.1.toNat - 1) (some f.2) } } }

/-- DAT (R70). -/
def execDat (s : State) : Result := .next (onRecord .dat formDat takeDat s)

/-! ## Acceptance (R33, R71) -/

/-- The lookups of EOJ's checks 1 and 2 (R71): the format, and each pair of its named-object list with its entry. -/
def lookupJob (os : ObjectStore) (a : Assembly) (formatOf : EntryRef → Option Format) :
    Option (EntryRef × List (NamedObject × EntryRef)) :=
  match lookup os a.format .format with
  | none => none
  | some r =>
    match formatOf r with
    | none => none
    | some f =>
      ((namedObjects f.fields).mapM fun o => (lookup os o.name o.kind).map fun e => (o, e)).map fun l => (r, l)

/-- The lowest-numbered free job slot (R71). -/
def freeJobSlot (jobs : List Job) : Option Nat := (List.range 32).find? fun n => !jobs.any fun j => j.slot == n

/-- The copy records of a job just accepted (R71, R73). -/
def newCopies (n : Nat) : List Copy :=
  (List.range n).map fun i => { number := i + 1, state := .waiting, marks := {}, bound := false }

/-- The job an assembly becomes (R71). -/
def newJob (slot : Nat) (a : Assembly) (r : EntryRef) (l : List (NamedObject × EntryRef)) : Job :=
  { slot := slot, tag := a.tag, format := r, objects := l, items := a.items, copies := newCopies a.copies,
    firstSerial := none, lastSerial := none }

/-- A job accepted (R33, R71): its references are taken and it joins the end of the queue. -/
def acceptJob (j : Job) (s : State) : State :=
  { s with os := j.refs.foldl takeRef s.os, jq := { jobs := s.jq.jobs ++ [j], assembly := none } }

/-- JQ takes EOJ (R71). An accepted job is bound to OPEN entries and may start a label (R156, R180). -/
def takeEoj (_ : Unit) (s : State) : State :=
  match s.jq.assembly with
  | none => setContext .none s
  | some a =>
    match lookupJob s.os a (pinnedFormat s) with
    | none => refuse .noObject .eoj (abandonContext s)
    | some (r, l) =>
      match freeJobSlot s.jq.jobs with
      | none => refuse .queueFull .eoj (abandonContext s)
      | some slot => bindEvent (acceptJob (newJob slot a r l) (setContext .none s))

/-- EOJ (R71). -/
def execEoj (s : State) : Result := .next (onRecord .eoj formNone takeEoj s)

/-! ## Cancelling and aborting (R81 to R86) -/

/-- The copies of a job withdrawn in copy-number order (R82). -/
def withdrawAll (tag : Nat) (copies : List Copy) (s : State) : State :=
  copies.foldl (fun s c => withdrawCopy { tag := tag, number := c.number } s) s

/-- JQ takes CAN (R81, R82, R84). -/
def takeCan (tag : Int) (s : State) : State :=
  if tag < 1 ∨ 65535 < tag then refuse .range .can s
  else match jobOf s tag.toNat with
    | none => refuse .noObject .can s
    | some j => testLabelStart (offerDone j.tag (withdrawAll j.tag j.copies s))

/-- CAN (R82). -/
def execCan (s : State) : Result := .next (onRecord .can formCan takeCan s)

/-- JL and JQ take ABORT (R9, R85). -/
def takeAbort (_ : Unit) (s : State) : State :=
  performAbort (reply (.abt s.jq.jobs.length) (abandonContext s))

/-- ABORT (R85). -/
def execAbort (s : State) : Result := .next (onRecord .abort formNone takeAbort s)

end Sys2Proof.Machine
end

