-- ==== Sys2Proof/WellFormed.lean ====
section
/-! DEFINITION. Which commands have an operand their row admits. -/

namespace Sys2Proof

/-- The inputs whose rising edge is a trigger: PRINT and PURGE (R175, R176). -/
def LineInput.isTrigger : LineInput → Bool
  | .print | .purge => true
  | .hold | .taken => false

/-- The inputs whose falling edge acts through FALLING_EDGE: HOLD's falling edge is a HOLD_EDGE (R175, R177). -/
def LineInput.fallsAlone : LineInput → Bool
  | .print | .purge | .taken => true
  | .hold => false

/-- The pulse outputs: APPLY and MISS (R186). -/
def LineOutput.isPulse : LineOutput → Bool
  | .apply | .miss => true
  | .ready | .waste | .lineFault => false

/-- A command is well formed when its operand is one that the row's rule names. -/
def Instr.wellFormed : Instr → Bool
  | .triggerEdge i => i.isTrigger
  | .fallingEdge i => i.fallsAlone
  | .pulseBegin o => o.isPulse
  | .pulseEnd o => o.isPulse
  | .powerOn | .loadCompletion | .characterReceived _ _ | .hrdyRise | .characterSent | .damagedRecord
  | .unknownRecord | .obj | .blk | .eob | .del | .fmt | .txt | .bar | .box | .img | .fend | .ctr | .job | .dat
  | .eoj | .can | .abort | .set | .save | .writeCompletion | .reset | .cal | .pause | .go | .lineOn | .lineOff
  | .clr _ | .stat | .beginCopy | .fillCompletion | .waitBandAllocation | .settleCompletion | .idleTimerExpiry
  | .backfeedCompletion | .shiftCompletion _ | .strobeCompletion | .closingCompletion _ | .lineCompletion _
  | .mediaStep _ | .calibrationSuccess | .feedOutCompletion | .feedMoveCompletion | .sampleCompletion _
  | .feedKey _ | .pauseKey | .conflictWindowExpiry | .holdEdge _ | .encPulse | .applyWaitExpiry | .taken
  | .hrdyFall | .powerLoss => true

end Sys2Proof
end

