-- ==== Sys2Proof/Machine/LineCmds.lean ====
section
/-! DEFINITION. The commands of the line port (Chapter 10): LINE_ON, LINE_OFF, the edges of its inputs, the conflict
window, ENC_PULSE, the pulses and the apply wait. -/

namespace Sys2Proof.Machine

/-! ## LINE (R172, R173) -/

/-- The word of the LINE record at the front of the buffer, where it is ON or OFF. -/
def lineWord (s : State) : Option Bool :=
  match frontRest .line s with
  | some rest =>
    match readParams rest with
    | some ps => match formLine ps with
      | .ok b => some b
      | .range => none
      | .bad => none
    | none => none
  | none => none

/-- LP takes LINE (R172, R173): LINE ON with the port OFF, or LINE OFF with the port ON; otherwise nothing changes. -/
def takeLine (on : Bool) (s : State) : State :=
  if on = s.lp.on then s
  else if on then portOn s
  else testLabelStart (removeReason .line (portOff s))

/-- LINE_ON (R172). A LINE record without the word ON or OFF is refused (R7) by this command or by LINE_OFF (log entry
15). -/
def execLineOn (s : State) : Result := .next (if lineWord s = some false then s else onRecord .line formLine takeLine s)

/-- LINE_OFF (R173). -/
def execLineOff (s : State) : Result := .next (if lineWord s = some true then s else onRecord .line formLine takeLine s)

/-! ## Input edges (R175 to R177) -/

/-- The filtered level of an input. -/
def LinePort.level (lp : LinePort) : LineInput → Bool
  | .print => lp.print
  | .purge => lp.purge
  | .hold => lp.hold
  | .taken => lp.taken

/-- The filtered level of an input set. -/
def LinePort.withLevel (lp : LinePort) (i : LineInput) (b : Bool) : LinePort :=
  match i with
  | .print => { lp with print := b }
  | .purge => { lp with purge := b }
  | .hold => { lp with hold := b }
  | .taken => { lp with taken := b }

/-- The filtered level of an input set in the state. -/
def setLevel (i : LineInput) (b : Bool) (s : State) : State := { s with lp := s.lp.withLevel i b }

/-- The kind of the entry that an input's trigger makes (R178). -/
def triggerKind : LineInput → Option ParcelKind
  | .print => some .label
  | .purge => some .purge
  | .hold => none
  | .taken => none

/-- A rising edge of a trigger input acts with the port ON (R176): it opens its conflict window, or conflicts with the
other input's waiting trigger. -/
def triggerRises (k : ParcelKind) (s : State) : State :=
  if s.lp.on then
    match s.lp.window with
    | none => { s with lp := { s.lp with window := some { kind := k, position := s.lp.conveyor } } }
    | some w =>
      if w.kind = k then s
      else raiseFault .lineConflict { s with lp := { s.lp with window := none } }
  else s

/-- TRIGGER_EDGE (R175, R176). -/
def execTriggerEdge (input : LineInput) (s : State) : Result :=
  match triggerKind input with
  | none => .fault .illFormed
  | some k => inEvent (!s.lp.level input) (fun s => triggerRises k (setLevel input true s)) s

/-- CONFLICT_WINDOW_EXPIRY (R176, R179): the waiting trigger is taken. -/
def execConflictWindowExpiry (s : State) : Result :=
  inEvent s.lp.window.isSome
    (fun s => match s.lp.window with
      | some w => takeTrigger w { s with lp := { s.lp with window := none } }
      | none => s) s

/-- HOLD's edge acts with the port ON (R177). -/
def holdChanges (rising : Bool) (s : State) : State :=
  if s.lp.on then if rising then addReason .line s else removeReason .line s else s

/-- HOLD_EDGE (R177). -/
def execHoldEdge (rising : Bool) (s : State) : Result :=
  inEvent (s.lp.hold != rising) (fun s => holdChanges rising (setLevel .hold rising s)) s

/-- FALLING_EDGE (R175): the filtered level of PRINT, PURGE or TAKEN falls, and nothing else follows. -/
def execFallingEdge (input : LineInput) (s : State) : Result :=
  if input.fallsAlone then inEvent (s.lp.level input) (setLevel input false) s else .fault .illFormed

/-! ## The encoder and the pulses (R175, R184, R186) -/

/-- The conveyor advances by one count, and the apply points reached are handled (R175, R184). -/
def conveyorStep (s : State) : State :=
  let s := { s with lp := { s.lp with conveyor := s.lp.conveyor + 1 } }
  testLabelStart (handleApplyPoints s.lp.parcels.length s)

/-- ENC_PULSE (R175). -/
def execEncPulse (s : State) : Result := inEvent true conveyorStep s

/-- A pulse output. -/
def LinePort.pulse (lp : LinePort) : LineOutput → Option PulseOutput
  | .apply => some lp.apply
  | .miss => some lp.miss
  | .ready => none
  | .waste => none
  | .lineFault => none

/-- A pulse output replaced. -/
def LinePort.withPulse (lp : LinePort) (o : LineOutput) (p : PulseOutput) : LinePort :=
  match o with
  | .apply => { lp with apply := p }
  | .miss => { lp with miss := p }
  | .ready => lp
  | .waste => lp
  | .lineFault => lp

/-- The timer of the apply wait starts when the APPLY pulse made for it begins (R187): the last one owed. -/
def startApplyTimer (o : LineOutput) (lp : LinePort) : LinePort :=
  if o = .apply ∧ lp.apply.owed = 0 then { lp with applyWait := lp.applyWait.map fun w => { w with timer := true } }
  else lp

/-- PULSE_BEGIN (R186): an output with a pulse owed goes high, and its count falls by 1. -/
def execPulseBegin (output : LineOutput) (s : State) : Result :=
  match s.lp.pulse output with
  | none => .fault .illFormed
  | some p =>
    inEvent (s.lp.on && !p.high && decide (0 < p.owed))
      (fun s => { s with lp := startApplyTimer output (s.lp.withPulse output { owed := p.owed - 1, high := true }) }) s

/-- PULSE_END (R186): the output goes low. -/
def execPulseEnd (output : LineOutput) (s : State) : Result :=
  match s.lp.pulse output with
  | none => .fault .illFormed
  | some p => inEvent p.high (fun s => { s with lp := s.lp.withPulse output { p with high := false } }) s

/-! ## The apply wait and TAKEN (R187, R188) -/

/-- The apply wait expires (R187). -/
def expireApplyWait (w : ApplyWait) (s : State) : State :=
  offerDone w.copy.tag (endApplyWait w.copy .wasted (spoilPresented (raiseFault .applyTimeout s)))

/-- APPLY_WAIT_EXPIRY (R187): the timer runs. -/
def execApplyWaitExpiry (s : State) : Result :=
  inEvent (s.lp.applyWait.any fun w => w.timer)
    (fun s => match s.lp.applyWait with
      | some w => expireApplyWait w s
      | none => s) s

/-- A presented label is taken with no apply wait (R188): a good one spoils, and is removed like any other. -/
def takenPresented (p : Presented) (s : State) : State :=
  match p.waste, p.copy with
  | false, some id => removePresented (offerDone id.tag (wastePresented id s))
  | false, none => removePresented s
  | true, _ => removePresented s

/-- A rising edge of TAKEN (R188). -/
def takenRises (s : State) : State :=
  match s.lp.applyWait with
  | some w => removePresented (offerDone w.copy.tag (endApplyWait w.copy .applied (withdrawPulse w s)))
  | none =>
    match s.pe.presented with
    | some p => takenPresented p s
    | none => raiseFault .lineSequence s

/-- TAKEN (R188): the edge acts in both port states, that of an input high at power-on included (log entry 53). -/
def execTaken (s : State) : Result := inEvent (!s.lp.taken) (fun s => takenRises (setLevel .taken true s)) s

end Sys2Proof.Machine
end

