-- ==== Sys2Proof/Machine/PowerCmds.lean ====
section
/-! DEFINITION. The commands of the power supply and of the job link's characters (Chapters 1 and 12): POWER_ON,
LOAD_COMPLETION, POWER_LOSS, CHARACTER_RECEIVED, CHARACTER_SENT, HRDY_RISE, HRDY_FALL. -/

namespace Sys2Proof.Machine

/-- A write in progress is cut short by the loss of power (R201): the EEPROM holds a mixture of old and new bytes. -/
def cutWrite (s : State) : State :=
  if s.ss.writing then
    let new := s.ss.image.getD s.ss.eeprom
    { s with ss := { s.ss with
      writing := false
      torn := true
      eeprom := (List.range 256).map fun i =>
        if Config.tornKeepsOld s.fresh i then s.ss.eeprom.getD i 0xFF else new.getD i 0xFF } }
  else s

/-- Every block in its power-on state (R203); the EEPROM, the levels of HRDY and of the media sensor, and the waiting
commands are not the part's to change. -/
def powerUp (s : State) : State :=
  { State.reset with
    jl := { State.reset.jl with hrdy := s.jl.hrdy }
    pe := { State.reset.pe with sensor := s.pe.sensor }
    ss := { State.reset.ss with eeprom := s.ss.eeprom, torn := s.ss.torn }
    fresh := s.fresh + 1
    pending := s.pending }

/-- POWER_ON (R203). A part that has power loses it first (log entry 29). -/
def execPowerOn (s : State) : Result := .next (powerUp (if s.powered then cutWrite s else s))

/-- POWER_LOSS (R201). -/
def execPowerLoss (s : State) : Result := .next (if s.powered then { cutWrite s with powered := false } else s)

/-- LOAD_COMPLETION (R203), steps 1 to 6. The loaded MEDIA and PITCH come into use at once. -/
def completeLoading (s : State) : State :=
  let r := rdyReport s
  let s := takeGeometry (reloadSettings { s with ss := { s.ss with start := .startRdy } })
  let s := { s with jl := ctsAfterRemove { s.jl with rate := s.ss.settings.rate } }
  offerNotices (offerReport r s)

/-- LOAD_COMPLETION (R203). -/
def execLoadCompletion (s : State) : Result := inEvent (s.ss.start == .loading) completeLoading s

/-- CHARACTER_RECEIVED (R3, R5, R17). The receiver is off until the settings are loaded (R1). -/
def execCharacterReceived (c : Byte) (stopBit : Bool) (s : State) : Result :=
  inEvent (linkOn s) (fun s => { s with jl := receiveCharacter c stopBit s.jl }) s

/-- A character of the head report has been sent (R4): after its last one the report leaves, and the next character
begins when it may. -/
def characterDone (s : State) : State :=
  let s := { s with jl := { s.jl with sending := false, sent := s.jl.sent + 1 } }
  match s.jl.reports.head? with
  | some r => beginCharacter (if r.text.length ≤ s.jl.sent then leaveReport s else s)
  | none => s

/-- CHARACTER_SENT (R4). -/
def execCharacterSent (s : State) : Result := inEvent s.jl.sending characterDone s

/-- HRDY_RISE (R4). The input's level is the host's, with or without power (log entry 30). -/
def execHrdyRise (s : State) : Result :=
  let s := { s with jl := { s.jl with hrdy := true } }
  .next (if s.powered then beginCharacter (takeGeometry s) else s)

/-- HRDY_FALL (R4): a character in transmission completes, and none is begun. -/
def execHrdyFall (s : State) : Result :=
  .next { (if s.powered then takeGeometry s else s) with jl := { s.jl with hrdy := false } }

end Sys2Proof.Machine
end

