-- ==== Sys2Proof/Machine/RecordCmds.lean ====
section
/-! DEFINITION. The records the parser refuses itself (DAMAGED_RECORD, UNKNOWN_RECORD) and the object store's records
OBJ, BLK, EOB and DEL (Chapters 1, 2 and 13). -/

namespace Sys2Proof.Machine

/-! ## Damaged and unknown records (R6, R11, R18) -/

/-- The parser takes a damaged record (R18). -/
def takeDamaged (s : State) : State := raiseFault .linkError (reply (.err .link none) (abandonContext (removeRecord s)))

/-- DAMAGED_RECORD (R18). -/
def execDamagedRecord (s : State) : Result :=
  .next (match frontRecord s with
    | some r => if r.damaged then takeDamaged s else s
    | none => s)

/-- The parser refuses a record at check 2 or 3 of R11; a refused closing record still closes its context (R9, log entry
43). -/
def takeUnknown (kw : Option Text) (s : State) : State :=
  let s := removeRecord s
  let s := match kw.bind keywordOf with
    | some k => closeIfCloser k s
    | none => s
  reply (.err .syntaxErr kw) s

/-- UNKNOWN_RECORD (R5, R6). -/
def execUnknownRecord (s : State) : Result :=
  .next (match frontRecord s with
    | some r =>
      if r.damaged then s
      else match headOf r with
        | .refused kw => takeUnknown kw s
        | .known _ _ => s
    | none => s)

/-! ## Loading (R26 to R30) -/

/-- OS takes OBJ (R26). -/
def takeObj (f : ObjForm) (s : State) : State :=
  if f.length < 1 ∨ 131072 < f.length then refuse .range .obj s
  else match freeEntryIndex s.os with
    | none => refuse .dirFull .obj s
    | some i =>
      setContext .object { s with os := setEntry i (some (newEntry f.name f.kind f.length.toNat)) s.os }

/-- OBJ (R26). -/
def execObj (s : State) : Result := .next (onRecord .obj formObj takeObj s)

/-- OS takes BLK (R27). -/
def takeBlk (bytes : List Byte) (s : State) : State :=
  match loadingEntry s.os with
  | none => s
  | some (i, e) =>
    if e.length < e.received + bytes.length then refuse .length .blk (abandonContext s)
    else match appendBytes i e bytes s.os with
      | none => refuse .storeFull .blk (abandonContext s)
      | some os => { s with os := os }

/-- BLK (R27). -/
def execBlk (s : State) : Result := .next (onRecord .blk formBlk takeBlk s)

/-! ## The content checks of R208 -/

/-- The glyph entry of a code is good (R208). -/
def goodGlyph (s : State) (n length c : Nat) : Bool :=
  if hasGlyph s n c then
    let adv := (objectByte s n (glyphEntry s n c)).toNat
    let wg := (objectByte s n (glyphEntry s n c + 1)).toNat
    let off := objectNumber s n (glyphEntry s n c + 2) 4
    decide (1 ≤ adv) && decide (wg ≤ adv)
      && (wg == 0 || decide (off + (objectByte s n 2).toNat * ceilDiv wg 8 ≤ length))
  else true

/-- The content of a FONT in RAM entry `n` is good (R206, R208). -/
def goodFont (s : State) (n length : Nat) : Bool :=
  let h := (objectByte s n 2).toNat
  let f := (objectByte s n 3).toNat
  let g := (objectByte s n 4).toNat
  let d := (objectByte s n 5).toNat
  decide (6 ≤ length) && objectByte s n 0 == 0x46 && objectByte s n 1 == 0x4E
    && decide (1 ≤ h) && decide (h ≤ 128)
    && decide (32 ≤ f) && decide (f ≤ g) && decide (g ≤ 126)
    && decide (6 + 6 * (g - f + 1) ≤ length)
    && decide (f ≤ d) && decide (d ≤ g) && hasGlyph s n d
    && (List.range (g - f + 1)).all fun i => goodGlyph s n length (f + i)

/-- The content of a GRAPHIC in RAM entry `n` is good (R207, R208). -/
def goodGraphic (s : State) (n length : Nat) : Bool :=
  let wi := objectNumber s n 2 2
  let hi := objectNumber s n 4 2
  decide (6 ≤ length) && objectByte s n 0 == 0x47 && objectByte s n 1 == 0x52
    && decide (1 ≤ wi) && decide (1 ≤ hi) && length == 6 + hi * ceilDiv wi 8

/-- The content of the LOADING entry is good for its kind (R208). -/
def goodContent (s : State) (n : Nat) (e : Entry) : Bool :=
  match e.kind with
  | .font => goodFont s n e.length
  | .graphic => goodGraphic s n e.length
  | .format => false

/-- OS takes EOB (R28, R29). -/
def takeEob (_ : Unit) (s : State) : State :=
  match loadingEntry s.os with
  | none => setContext .none s
  | some (i, e) =>
    if e.received ≠ e.length then refuse .length .eob (abandonContext s)
    else if goodContent s i e then setContext .none { s with os := completeLoad i e e.length none s.os }
    else refuse .syntaxErr .eob (abandonContext s)

/-- EOB (R28). -/
def execEob (s : State) : Result := .next (onRecord .eob formNone takeEob s)

/-! ## Deleting (R32) -/

/-- OS takes DEL (R32). -/
def takeDel (name : Text) (s : State) : State :=
  match liveEntry s.os name with
  | some (i, e) => { s with os := retireEntry i e s.os }
  | none => if (romNamed name).isSome then refuse .readOnly .del s else refuse .noObject .del s

/-- DEL (R32). -/
def execDel (s : State) : Result := .next (onRecord .del formDel takeDel s)

end Sys2Proof.Machine
end

