-- ==== Sys2Proof/Machine/RenderCmds.lean ====
section
/-! DEFINITION. The render engine's events BEGIN_COPY, FILL_COMPLETION and WAIT_BAND_ALLOCATION (Chapter 6). -/

namespace Sys2Proof.Machine

/-- A copy fails in RE (R93): it is FAILED, its job may finish, and PE's next copy is tested (R156). -/
def failValidation (id : CopyId) (s : State) : State := testLabelStart (offerDone id.tag (endCopy id .failed s))

/-- The serial a copy hands to its job (R62, R77): the value of the lowest-numbered counter it read. -/
def recordSerial (tag : Nat) (read : List (Nat × Counter)) (s : State) : State :=
  match read.head? with
  | none => s
  | some (_, c) =>
    mapJob tag
      (fun j => { j with firstSerial := some (j.firstSerial.getD c.value), lastSerial := some c.value }) s

/-- RE validates a copy (R92 to R94): counters are served, the fields are laid out, and band 0 is allocated, or the copy
fails. -/
def validateCopy (j : Job) (id : CopyId) (s : State) : State :=
  match pinnedFormat s j.format with
  | none => failValidation id s
  | some fmt =>
    match serveCounters fmt.fields s.cb with
    | none => failValidation id s
    | some (read, cb) =>
      let s := recordSerial id.tag read { s with cb := cb }
      match layCopy s j id fmt read with
      | none => failValidation id s
      | some c => allocateBand c s

/-- RE begins the earliest WAITING copy (R92): it becomes RENDERING and is validated at once. -/
def beginCopy (s : State) : State :=
  match nextRenderCopy s with
  | none => s
  | some id =>
    match jobOf s id.tag with
    | none => s
    | some j => validateCopy j id (setCopyState id .rendering s)

/-- BEGIN_COPY (R92). -/
def execBeginCopy (s : State) : Result :=
  inEvent (s.re.cursor == .idle && (nextFreeBand s).isSome && (nextRenderCopy s).isSome) beginCopy s

/-- The copy of an ended render becomes RENDERED, unless its label has started (R97). -/
def renderEnded (id : CopyId) (s : State) : State :=
  endRender (mapCopy id (fun c => if c.state = .rendering then { c with state := .rendered } else c) s)

/-- A STARVED label of the copy goes on when the fill completes (R102). -/
def endStarvation (id : CopyId) (s : State) : State :=
  if s.pe.engine = .halted ∧ s.pe.pause.isEmpty ∧ s.pe.label.any (fun l => l.copy == some id && l.phase == .print)
  then decideBoundary s else s

/-- The fill of band `b` completes (R95 to R97). -/
def completeFill (c : RenderContext) (b : Nat) (s : State) : State :=
  let band := bandOf s b
  let lines := composeBand s c (band.index.getD 0) (band.used.getD 0)
  let s := setBand b { band with state := .ready, lines := lines } s
  let s := if c.bands ≤ c.nextIndex then renderEnded c.copy s else allocateBand c s
  testLabelStart (endStarvation c.copy s)

/-- FILL_COMPLETION (R95). -/
def execFillCompletion (s : State) : Result :=
  inEvent (s.re.cursor == .filling)
    (fun s => match s.re.context with
      | some c => match c.filling with
        | some b => completeFill c b s
        | none => s
      | none => s) s

/-- WAIT_BAND_ALLOCATION (R95): a band has become FREE for the copy that waits for one. -/
def execWaitBandAllocation (s : State) : Result :=
  inEvent (s.re.cursor == .waitBand && (nextFreeBand s).isSome)
    (fun s => match s.re.context with
      | some c => allocateBand c s
      | none => s) s

end Sys2Proof.Machine
end

