-- ==== Sys2Proof/Machine/SystemCmds.lean ====
section
/-! DEFINITION. Settings, start-up, faults and the pause records (Chapters 9, 11, 12): SET, SAVE, WRITE_COMPLETION,
RESET, CAL, PAUSE, GO, CLR, STAT. -/

namespace Sys2Proof.Machine

/-! ## SET (R200) -/

/-- A kind whose route newly includes HOST has its reported state set to CLEAR (R196). -/
def refreshReported (before : State) (k : FaultKind) (s : State) : State :=
  if (routeOf s k).toHost ∧ (routeOf before k).toHost = false then setFault k { faultOf s k with reported := false } s
  else s

/-- The idle timer restarted by a change of IDLE while it runs (R143). -/
def restartIdleTimer (idle : Nat) (s : State) : State :=
  { s with hi := { s.hi with idleTimer := s.hi.idleTimer.map fun _ => idle } }

/-- What the owners do with a settings record SS has taken (R200), in the SET event. -/
def handOver (before : State) (s : State) : State :=
  let x := s.ss.settings
  let s := if x.idle = before.ss.settings.idle then s else restartIdleTimer x.idle s
  let s := takeGeometry s
  let s := requestRate x.rate s
  let s := offerNotices (FaultKind.all.foldl (fun s k => refreshReported before k s) s)
  if x.start = before.ss.settings.start then s else testLabelStart s

/-- SS takes SET (R200). -/
def takeSet (items : List SetItem) (s : State) : State :=
  if setBusy s items then refuse .busy .set s
  else handOver s { s with ss := { s.ss with settings := writeItems items s.ss.settings } }

/-- SET (R200). -/
def execSet (s : State) : Result := .next (onRecord .set formSet takeSet s)

/-! ## SAVE and its completion (R202) -/

/-- SS takes SAVE (R202). -/
def takeSave (_ : Unit) (s : State) : State :=
  if s.ss.writing then refuse .busy .save s
  else { s with ss := { s.ss with image := some (formImage s.ss.settings s.cb), writing := true } }

/-- SAVE (R202). -/
def execSave (s : State) : Result := .next (onRecord .save formNone takeSave s)

/-- The write ends (R202): the EEPROM holds the image; a reload that waited for it is taken (R204). -/
def completeWrite (s : State) : State :=
  let s := { s with ss := { s.ss with writing := false, torn := false, eeprom := s.ss.image.getD s.ss.eeprom } }
  if s.ss.start = .resetWait then reloadAfterReset s else s

/-- WRITE_COMPLETION (R202). -/
def execWriteCompletion (s : State) : Result := inEvent s.ss.writing completeWrite s

/-! ## RESET (R204) -/

/-- Every fault's flags cleared and its reported state CLEAR, with no notice (R199), and every pause reason but PANEL
removed (R171). -/
def clearAllFaults (s : State) : State :=
  { s with fm := Vector.replicate 15 clearFault, pe := { s.pe with pause := { panel := s.pe.pause.panel } } }

/-- A label that stood at its feed-out's target for a verdict has none to wait for after a soft reset (R141), so that its
presentation follows at once (R162), as waste with no copy (R86, R87). -/
def presentArrived (s : State) : State :=
  match s.pe.label with
  | some l => if l.arrived ∧ verdictAwaited s = false then present l s else s
  | none => s

/-- SS takes RESET (R204). -/
def takeReset (_ : Unit) (s : State) : State :=
  let s' := presentArrived (clearAllFaults (portOff (performAbort (headReset s))))
  let s' := resumeIfEmptied s s'
  if s'.ss.writing then { s' with ss := { s'.ss with start := .resetWait } } else reloadAfterReset s'

/-- RESET (R204). -/
def execReset (s : State) : Result := .next (onRecord .reset formNone takeReset s)

/-! ## CAL, PAUSE and GO (R153, R167) -/

/-- PE takes CAL (R153). -/
def takeCal (_ : Unit) (s : State) : State :=
  if s.pe.engine = .idle ∧ s.pe.presented = none ∧ calibrationAllowed s.pe.pause then
    if s.pe.stock = .cont then testLabelStart (contCalibrate s) else startCalibration .host none s
  else refuse .busy .cal s

/-- CAL (R153). -/
def execCal (s : State) : Result := .next (onRecord .cal formNone takeCal s)

/-- PAUSE (R167): HOST joins the pause set. -/
def execPause (s : State) : Result := .next (onRecord .pause formNone (fun _ => addReason .host) s)

/-- GO (R167, R168): HOST leaves the pause set. -/
def execGo (s : State) : Result := .next (onRecord .go formNone (fun _ => removeReason .host) s)

/-! ## CLR (R195) and STAT (R193) -/

/-- HEAD-FAULT cleared by CLR (R142, R195). -/
def clearHeadFault (s : State) : State :=
  if (faultOf s .headFault).latched then
    let s := dropReason .headFault (clearFlags .headFault s)
    { s with hi := { s.hi with defectCount := 0 } }
  else s

/-- FM takes CLR (R195), with the level the sensor then reads. -/
def takeClr (sensor : SensorLevel) (s : State) : State :=
  resumeIfEmptied s (offerNotices (clearHeadFault (readSensorForMediaOut sensor s)))

/-- CLR (R195). -/
def execClr (sensor : SensorLevel) (s : State) : Result :=
  .next (onRecord .clr formNone (fun _ => takeClr sensor) s)

/-- The values of an STS reply (R194). -/
def stsValues (s : State) : StsValues :=
  { engine := s.pe.engine, pause := s.pe.pause, jobs := s.jq.jobs.length, readyBands := readyBands s,
    presented := s.pe.presented, reading := s.stu.reading, speed := effectiveSpeed s, pitch := s.pe.pitch,
    calibrated := s.pe.calibrated, portOn := s.lp.on, parcels := s.lp.parcels.length, faults := latchedFaults s }

/-- The kinds that STAT clears (R193 step 2). -/
def clearByStat (s : State) : State :=
  FaultKind.all.foldl (fun s k => if clearedByStat s k then clearFlags k s else s) s

/-- FM takes STAT (R193). -/
def takeStat (_ : Unit) (s : State) : State := offerNotices (clearByStat (reply (.sts (stsValues s)) s))

/-- STAT (R193). -/
def execStat (s : State) : Result := .next (onRecord .stat formNone takeStat s)

end Sys2Proof.Machine
end

