-- ==== Sys2Proof/Machine/Dispatch.lean ====
section
/-! DEFINITION. The dispatch: each command's meaning, one arm per constructor. -/

namespace Sys2Proof.Machine

/-- The effect of a command on everything but the queue of waiting commands. -/
def exec (i : Instr) (s : State) : Host.Outcome State Fault Refusal :=
  match i with
  | .powerOn => Sys2Proof.Machine.execPowerOn s
  | .loadCompletion => Sys2Proof.Machine.execLoadCompletion s
  | .characterReceived c stopBit => Sys2Proof.Machine.execCharacterReceived c stopBit s
  | .hrdyRise => Sys2Proof.Machine.execHrdyRise s
  | .characterSent => Sys2Proof.Machine.execCharacterSent s
  | .damagedRecord => Sys2Proof.Machine.execDamagedRecord s
  | .unknownRecord => Sys2Proof.Machine.execUnknownRecord s
  | .obj => Sys2Proof.Machine.execObj s
  | .blk => Sys2Proof.Machine.execBlk s
  | .eob => Sys2Proof.Machine.execEob s
  | .del => Sys2Proof.Machine.execDel s
  | .fmt => Sys2Proof.Machine.execFmt s
  | .txt => Sys2Proof.Machine.execTxt s
  | .bar => Sys2Proof.Machine.execBar s
  | .box => Sys2Proof.Machine.execBox s
  | .img => Sys2Proof.Machine.execImg s
  | .fend => Sys2Proof.Machine.execFend s
  | .ctr => Sys2Proof.Machine.execCtr s
  | .job => Sys2Proof.Machine.execJob s
  | .dat => Sys2Proof.Machine.execDat s
  | .eoj => Sys2Proof.Machine.execEoj s
  | .can => Sys2Proof.Machine.execCan s
  | .abort => Sys2Proof.Machine.execAbort s
  | .set => Sys2Proof.Machine.execSet s
  | .save => Sys2Proof.Machine.execSave s
  | .writeCompletion => Sys2Proof.Machine.execWriteCompletion s
  | .reset => Sys2Proof.Machine.execReset s
  | .cal => Sys2Proof.Machine.execCal s
  | .pause => Sys2Proof.Machine.execPause s
  | .go => Sys2Proof.Machine.execGo s
  | .lineOn => Sys2Proof.Machine.execLineOn s
  | .lineOff => Sys2Proof.Machine.execLineOff s
  | .clr sensor => Sys2Proof.Machine.execClr sensor s
  | .stat => Sys2Proof.Machine.execStat s
  | .beginCopy => Sys2Proof.Machine.execBeginCopy s
  | .fillCompletion => Sys2Proof.Machine.execFillCompletion s
  | .waitBandAllocation => Sys2Proof.Machine.execWaitBandAllocation s
  | .settleCompletion => Sys2Proof.Machine.execSettleCompletion s
  | .idleTimerExpiry => Sys2Proof.Machine.execIdleTimerExpiry s
  | .backfeedCompletion => Sys2Proof.Machine.execBackfeedCompletion s
  | .shiftCompletion readback => Sys2Proof.Machine.execShiftCompletion readback s
  | .strobeCompletion => Sys2Proof.Machine.execStrobeCompletion s
  | .closingCompletion readback => Sys2Proof.Machine.execClosingCompletion readback s
  | .lineCompletion sensor => Sys2Proof.Machine.execLineCompletion sensor s
  | .mediaStep sensor => Sys2Proof.Machine.execMediaStep sensor s
  | .calibrationSuccess => Sys2Proof.Machine.execCalibrationSuccess s
  | .feedOutCompletion => Sys2Proof.Machine.execFeedOutCompletion s
  | .feedMoveCompletion => Sys2Proof.Machine.execFeedMoveCompletion s
  | .sampleCompletion reading => Sys2Proof.Machine.execSampleCompletion reading s
  | .feedKey sensor => Sys2Proof.Machine.execFeedKey sensor s
  | .pauseKey => Sys2Proof.Machine.execPauseKey s
  | .triggerEdge input => Sys2Proof.Machine.execTriggerEdge input s
  | .conflictWindowExpiry => Sys2Proof.Machine.execConflictWindowExpiry s
  | .holdEdge rising => Sys2Proof.Machine.execHoldEdge rising s
  | .encPulse => Sys2Proof.Machine.execEncPulse s
  | .pulseBegin output => Sys2Proof.Machine.execPulseBegin output s
  | .pulseEnd output => Sys2Proof.Machine.execPulseEnd output s
  | .applyWaitExpiry => Sys2Proof.Machine.execApplyWaitExpiry s
  | .taken => Sys2Proof.Machine.execTaken s
  | .hrdyFall => Sys2Proof.Machine.execHrdyFall s
  | .fallingEdge input => Sys2Proof.Machine.execFallingEdge input s
  | .powerLoss => Sys2Proof.Machine.execPowerLoss s

end Sys2Proof.Machine
end

