-- ==== Sys2Proof/Machine/Step.lean ====
section
/-! DEFINITION. The step: the command at the front of the queue of waiting commands is taken. -/

namespace Sys2Proof.Machine

/-- The state with the queue's front command taken off it. -/
def State.withPending (s : State) (q : List Instr) : State := { s with pending := q }

/-- One step: the front command of the queue runs with the queue's rest. On an empty queue the part idles (log entry
2). -/
def step (s : State) : Host.Outcome State Fault Refusal :=
  match s.pending with
  | [] => .next s
  | i :: rest => exec i (s.withPending rest)

/-- The state with the command that a word of the table spells put at the front of the queue; a word that spells none
leaves the state unchanged. -/
def State.withFetchWord (s : State) (nbits w : Nat) : State :=
  match Sys2Proof.decodeTableWord nbits w with
  | some i => s.withPending (i :: s.pending)
  | none => s

end Sys2Proof.Machine
end

