-- ==== Sys2Proof/Safety.lean ====
section
/-! DEFINITION. The terms the claims are stated in: which record the parser takes, a well-formed chain, and the
properties of a state that every command keeps. -/

namespace Sys2Proof.Machine

/-! ## Records the parser takes (R11) -/

/-- The parser can take the front record now: it is a sound record of keyword `k`, admitted in the open context, whose
parameters its form reads as `v` (R11, checks 1 to 5; R16). -/
def Takes {α : Type} (k : Keyword) (form : List Param → FormCheck α) (v : α) (s : State) : Prop :=
  ∃ rest ps, frontRest k s = some rest ∧ admitted k s.jl.context = true ∧ readParams rest = some ps ∧ form ps = .ok v

/-- The commands that take a record of a keyword: one, but for LINE and for CLR, whose operand is the sensor level. -/
def commandsOf : Keyword → List Instr
  | .obj => [.obj]
  | .blk => [.blk]
  | .eob => [.eob]
  | .del => [.del]
  | .fmt => [.fmt]
  | .txt => [.txt]
  | .bar => [.bar]
  | .box => [.box]
  | .img => [.img]
  | .fend => [.fend]
  | .ctr => [.ctr]
  | .job => [.job]
  | .dat => [.dat]
  | .eoj => [.eoj]
  | .can => [.can]
  | .abort => [.abort]
  | .set => [.set]
  | .save => [.save]
  | .reset => [.reset]
  | .cal => [.cal]
  | .pause => [.pause]
  | .go => [.go]
  | .line => [.lineOn, .lineOff]
  | .clr => [.clr .low, .clr .high]
  | .stat => [.stat]

/-- What the form of a keyword's record makes of its parameters: read, RANGE or SYNTAX (R7). -/
def formResult : Keyword → List Param → FormCheck Unit
  | .obj, ps => (formObj ps).map fun _ => ()
  | .blk, ps => (formBlk ps).map fun _ => ()
  | .del, ps => (formDel ps).map fun _ => ()
  | .fmt, ps => (formFmt ps).map fun _ => ()
  | .txt, ps => (formTxt ps).map fun _ => ()
  | .bar, ps => (formBar ps).map fun _ => ()
  | .box, ps => (formBox ps).map fun _ => ()
  | .img, ps => (formImg ps).map fun _ => ()
  | .ctr, ps => (formCtr ps).map fun _ => ()
  | .job, ps => (formJob ps).map fun _ => ()
  | .dat, ps => (formDat ps).map fun _ => ()
  | .can, ps => (formCan ps).map fun _ => ()
  | .set, ps => (formSet ps).map fun _ => ()
  | .line, ps => (formLine ps).map fun _ => ()
  | .eob, ps | .fend, ps | .eoj, ps | .abort, ps | .save, ps | .reset, ps | .cal, ps | .pause, ps | .go, ps | .clr, ps
  | .stat, ps => formNone ps

/-- The commands that take a record from the receive buffer. -/
def takesRecord : Instr → Bool
  | .damagedRecord | .unknownRecord | .obj | .blk | .eob | .del | .fmt | .txt | .bar | .box | .img | .fend | .ctr
  | .job | .dat | .eoj | .can | .abort | .set | .save | .reset | .cal | .pause | .go | .lineOn | .lineOff | .clr _
  | .stat => true
  | .powerOn | .loadCompletion | .characterReceived _ _ | .hrdyRise | .characterSent | .writeCompletion | .beginCopy
  | .fillCompletion | .waitBandAllocation | .settleCompletion | .idleTimerExpiry | .backfeedCompletion
  | .shiftCompletion _ | .strobeCompletion | .closingCompletion _ | .lineCompletion _ | .mediaStep _
  | .calibrationSuccess | .feedOutCompletion | .feedMoveCompletion | .sampleCompletion _ | .feedKey _ | .pauseKey
  | .triggerEdge _ | .conflictWindowExpiry | .holdEdge _ | .encPulse | .pulseBegin _ | .pulseEnd _
  | .applyWaitExpiry | .taken | .hrdyFall | .fallingEdge _ | .powerLoss => false

/-! ## The values of a field record (R42, R46) -/

/-- The origin lies on the label, and ROT is one of the four rotations (R42). -/
def PlaceForm.onLabel (p : PlaceForm) (d : Format) : Prop :=
  0 ≤ p.x ∧ p.x ≤ (d.width : Int) - 1 ∧ 0 ≤ p.y ∧ p.y ≤ (d.length : Int) - 1
    ∧ (p.rot = none ∨ p.rot = some 0 ∨ p.rot = some 90 ∨ p.rot = some 180 ∨ p.rot = some 270)

/-- The field lies where the record says, turned and drawn as it says (R42). -/
def PlaceForm.places (p : PlaceForm) (x : Field) : Prop :=
  (x.x : Int) = p.x ∧ (x.y : Int) = p.y ∧ x.mode = p.mode
    ∧ x.rot = (if p.rot = some 90 then .r90 else if p.rot = some 180 then .r180 else if p.rot = some 270 then .r270
      else .r0)

/-- The source is one that R46 allows: 1 to 96 characters, an item 1 to 16, or a counter 0 to 7. -/
def SourceForm.sound : SourceForm → Prop
  | .literal t => 1 ≤ t.length ∧ t.length ≤ 96
  | .item n => 1 ≤ n ∧ n ≤ 16
  | .ctr n => 0 ≤ n ∧ n ≤ 7

/-- The field's source is the one written. -/
def SourceForm.gives : SourceForm → Source → Prop
  | .literal t, .literal u => u = t
  | .item n, .item m => (m : Int) = n
  | .ctr n, .ctr m => (m : Int) = n
  | .literal _, .item _ | .literal _, .ctr _ | .item _, .literal _ | .item _, .ctr _ | .ctr _, .literal _
  | .ctr _, .item _ => False

/-! ## A forward step of the media (R150 to R152) -/

/-- The engine's registers after one forward step that ends with a sensor level (R150, R151): the position and the
furthest position move, and a calibrated engine on sensed stock takes an edge beyond the furthest position, a gap start
or a capture. A capture that R152 finds violating adds 1 to the count, and a conforming one sets it to 0; one that
brings the count to 7 is not such a step. -/
def Stepped (level : SensorLevel) (pe pe' : PrintEngine) : Prop :=
  let p := pe.position + 1
  let m : PrintEngine := { pe with position := p, furthest := max pe.furthest p, sensor := level }
  let tops := if pe.tops.length < 4 ∧ p + 96 ∉ pe.tops then pe.tops ++ [p + 96] else pe.tops
  if pe.furthest < p ∧ level ≠ pe.sensor ∧ pe.stock ≠ .cont ∧ pe.calibrated = true then
    if level = pe.sense.gapLevel then pe' = { m with lastGapStart := some p }
    else ∃ n, pe' = { m with lastCapture := some p, violations := n, tops := tops }
      ∧ ((∃ g c, pe.lastGapStart = some g ∧ pe.lastCapture = some c ∧ c < g ∧ g - c ≤ p - g)
          ∧ n = pe.violations + 1 ∧ n < 7
        ∨ (∃ g c, pe.lastGapStart = some g ∧ pe.lastCapture = some c ∧ c < g ∧ p - g < g - c) ∧ n = 0
        ∨ (∀ g c, pe.lastGapStart = some g → pe.lastCapture = some c → g ≤ c) ∧ n = pe.violations)
  else pe' = m

/-! ## Reading a C128 symbol (R110) -/

/-- The values of digits taken in pairs, a last digit alone left out. -/
def digitPairs : Text → List Nat
  | a :: b :: t => (10 * (a.toNat - 48) + (b.toNat - 48)) :: digitPairs t
  | _ => []

/-- The text that data and switch symbols spell, read in set C or in set B; none where a value has no meaning there. -/
def c128Reads : (inC : Bool) → List Nat → Option Text
  | _, [] => some []
  | false, v :: vs =>
    if v = 99 then c128Reads true vs
    else if v ≤ 94 then (c128Reads false vs).map (BitVec.ofNat 8 (v + 32) :: ·)
    else none
  | true, v :: vs =>
    if v = 100 then c128Reads false vs
    else if v ≤ 99 then
      (c128Reads true vs).map fun t => BitVec.ofNat 8 (48 + v / 10) :: BitVec.ofNat 8 (48 + v % 10) :: t
    else none

/-! ## Chains (R19) -/

/-- The blocks `B` are the chain that begins at `first` and ends with END. -/
def IsChain (chain : Vector Link 256) : Option Nat → List Nat → Prop
  | none, [] => True
  | some b, [c] => b = c ∧ chain[b]? = some .last
  | some b, c :: d :: B => b = c ∧ chain[b]? = some (.next d) ∧ IsChain chain (some d) (d :: B)
  | none, _ :: _ => False
  | some _, [] => False

/-! ## Properties that commands keep -/

/-- At most one RAM entry of any name is LIVE (R24). -/
def liveNamesOnce (os : ObjectStore) : Prop :=
  ∀ i j e f, ramEntry os i = some e → ramEntry os j = some f → e.state = .live → f.state = .live → e.name = f.name →
    i = j

/-- Counter `n`'s record holds what R56 allows, its exhausted flag set only where a HOLD step can have set it (R59,
R60). -/
def legalCounter (n : Nat) (c : Counter) : Prop :=
  c.low ≤ c.high ∧ c.high ≤ 999999999 ∧ c.low ≤ c.value ∧ c.value ≤ c.high ∧ c.step ≠ 0 ∧ c.step.natAbs ≤ 999
    ∧ c.step.natAbs ≤ c.high - c.low + 1 ∧ (∀ j, c.cascade = some j → n < j ∧ j ≤ 7) ∧ 1 ≤ c.digits ∧ c.digits ≤ 9
    ∧ (c.exhausted = true → c.mode = .hold ∧ c.value = if 0 < c.step then c.high else c.low)

/-- Every counter record holds what R56 allows. -/
def legalCounters (cb : Vector Counter 8) : Prop := ∀ n c, cb[n]? = some c → legalCounter n c

/-- An energy set holds what SET can store (R125). -/
def legalEnergy (e : Energy) : Prop :=
  50 ≤ e.speed ∧ e.speed ≤ 300 ∧ e.speed % 25 = 0 ∧ -16 ≤ e.dark ∧ e.dark ≤ 15 ∧ 200 ≤ e.basew ∧ e.basew ≤ 2000
    ∧ 24 ≤ e.ha ∧ e.ha ≤ 56 ∧ 4 ≤ e.hb ∧ e.hb ≤ 60 - e.ha ∧ 208 ≤ e.split ∧ e.split ≤ 832

/-- A settings record holds what SET can store (R200). -/
def legalSettings (x : Settings) : Prop :=
  x.rate ∈ rates ∧ legalEnergy x.energy ∧ 10 ≤ x.idle ∧ x.idle ≤ 600 ∧ 8 ≤ x.pitch ∧ x.pitch ≤ 2400 ∧ x.peel ≤ 240
    ∧ x.start ≤ 16 ∧ 1 ≤ x.applyd ∧ x.applyd ≤ 65535

/-- No kind has two notices on the waiting list (R198). -/
def oneNoticeEach (s : State) : Prop := ∀ k, s.jl.waiting.countP (isNoticeOf k) ≤ 1

/-- The active flag of a kind is set only together with its latched flag, and except for a condition warning only
with it clear when both are (R191). -/
def flagsCoherent (s : State) : Prop :=
  ∀ k : FaultKind, ((faultOf s k).active = true → (faultOf s k).latched = true)
    ∧ (k.group ≠ .condition → (faultOf s k).active = (faultOf s k).latched)

/-- The pause reasons HOT, MEDIA and HEADFAULT are present exactly while their STOP kinds are active (R167, R192). -/
def stopsPause (s : State) : Prop :=
  s.pe.pause.hot = (faultOf s .headHot).active ∧ s.pe.pause.media = (faultOf s .mediaOut).active
    ∧ s.pe.pause.headFault = (faultOf s .headFault).active

end Sys2Proof.Machine
end

