-- ==== Sys2Proof/Certificates/Slice0/Obligations.lean ====
section
/-! DEFINITION. The statements for the provers, by the chapters of the manual. -/

open Sys2Proof Sys2Proof.Machine

/-! ## The machine -/

/-- A step takes the command at the front of the queue and is `exec` of it on the state with the queue's rest; on an
empty queue the part idles (log entry 2). -/
def Obligations.StepTakesFrontCommand : Prop :=
  ∀ (c : Instr) (q : List Instr) (s : State),
    step (s.withPending (c :: q)) = exec c (s.withPending q)
      ∧ step (s.withPending []) = .next (s.withPending [])

/-- No command changes the queue of waiting commands, and none but POWER_ON changes the model's count of power-ons. -/
def Obligations.CommandsLeaveQueueAlone : Prop :=
  ∀ (i : Instr) (s t : State), exec i s = .next t → t.pending = s.pending ∧ (i ≠ .powerOn → t.fresh = s.fresh)

/-- Every command whose operand its row admits answers a next state in every state, and an ill-formed one faults (log
entry 37). -/
def Obligations.WellFormedCommandsRunOn : Prop :=
  ∀ (i : Instr) (s : State),
    (i.wellFormed = true → ∃ t, exec i s = .next t) ∧ (i.wellFormed = false → exec i s = .fault .illFormed)

/-- Without power the part changes nothing: only HRDY's level, which is the host's, and POWER_ON act (log entry 30). -/
def Obligations.UnpoweredPartIsInert : Prop :=
  ∀ (i : Instr) (s : State), s.powered = false → i.wellFormed = true → i ≠ .powerOn → i ≠ .hrdyRise → i ≠ .hrdyFall →
    exec i s = .next s

/-! ## The job link (Chapter 1) -/

/-- CHARACTER_RECEIVED (R3, R5): with the settings loaded, a free position and no damage, a CR is dropped, an LF ends
the record being received or is dropped where nothing was received, and any other character is stored up to the 512th;
CTS falls when 256 or fewer positions are left free. As in every event, a geometry that a soft reset reloaded takes
its effect if the reset is over and the engine is IDLE (`takeGeometry`, R204, log entry 24). -/
def Obligations.ReceivedCharacterStored : Prop :=
  ∀ (c : Byte) (s : State), s.powered = true → s.ss.start ≠ .loading → s.jl.receivingDamaged = false →
    bufferUsed s.jl < 2048 →
    let cts := if 2048 - (bufferUsed s.jl + 1) ≤ 256 then false else s.jl.cts
    let s0 := takeGeometry s
    (c = 13 → exec (.characterReceived c true) s = .next s0)
    ∧ (c = 10 → s.jl.receiving = [] → exec (.characterReceived c true) s = .next s0)
    ∧ (c = 10 → s.jl.receiving ≠ [] → exec (.characterReceived c true) s = .next
        { s0 with jl := { s.jl with
          records := s.jl.records ++
            [{ chars := s.jl.receiving, damaged := false, overLong := s.jl.receivingOverLong }]
          receiving := [], receivingOverLong := false, cts := cts } })
    ∧ (c ≠ 10 → c ≠ 13 → s.jl.receivingOverLong = false → exec (.characterReceived c true) s = .next
        { s0 with jl := { s.jl with
          receiving := s.jl.receiving ++ [c], receivingOverLong := decide (512 ≤ s.jl.receiving.length + 1),
          cts := cts } })
    ∧ (c ≠ 10 → c ≠ 13 → s.jl.receivingOverLong = true → exec (.characterReceived c true) s = .next s0)

/-- CHARACTER_RECEIVED (R17): a character without its stop bit, or one that finds all 2048 positions in use, a CR or an
LF included (the model's reading, log entry 16), damages the record being received and is not stored; a damaged record
takes no further character, and the next sound LF, which takes no position and leaves CTS (log entry 16), puts it behind
the records completed before it, be it empty or not (log entry 17). -/
def Obligations.LinkErrorDamagesRecord : Prop :=
  ∀ (c : Byte) (good : Bool) (s : State), s.powered = true → s.ss.start ≠ .loading →
    let s0 := takeGeometry s
    (s.jl.receivingDamaged = false → (good = false ∨ 2048 ≤ bufferUsed s.jl) →
      exec (.characterReceived c good) s = .next { s0 with jl := { s.jl with receivingDamaged := true } })
    ∧ (s.jl.receivingDamaged = true → (good = false ∨ c ≠ 10) → exec (.characterReceived c good) s = .next s0)
    ∧ (s.jl.receivingDamaged = true → good = true → c = 10 → exec (.characterReceived c good) s = .next
        { s0 with jl := { s.jl with
          records := s.jl.records ++
            [{ chars := s.jl.receiving, damaged := true, overLong := s.jl.receivingOverLong }]
          receiving := [], receivingDamaged := false, receivingOverLong := false } })

/-- HRDY_RISE, HRDY_FALL and CHARACTER_SENT (R2, R4, R15, R80, R198): with HRDY high the next character of the head
report begins; with HRDY low none begins and one in transmission completes; the head report leaves with its last
character, a rate switch ends when the last noted report has left, and the oldest waiting report takes the position
freed: a DONE then frees its job's slot, an RDY ends the start, and the kind of an FLT notice is tested again. -/
def Obligations.TransmitterFollowsHrdy : Prop :=
  (∀ s : State, s.powered = true → s.ss.start ≠ .loading → s.jl.reports ≠ [] → s.jl.rateSwitch = none →
    exec .hrdyRise s = .next { takeGeometry s with jl := { s.jl with hrdy := true, sending := true } })
  ∧ (∀ s : State, exec .hrdyFall s = .next
      { (if s.powered then takeGeometry s else s) with jl := { s.jl with hrdy := false } })
  ∧ (∀ (s : State) (r : Report) (rs : List Report), s.powered = true → s.ss.start ≠ .loading → s.jl.sending = true →
      s.jl.reports = r :: rs → s.jl.rateSwitch = none →
      let s0 := takeGeometry s
      (s.jl.sent + 1 < r.text.length → exec .characterSent s = .next
        { s0 with jl := { s.jl with sent := s.jl.sent + 1, sending := s.jl.hrdy } })
      ∧ (s.jl.sent + 1 = r.text.length → s.jl.waiting = [] → exec .characterSent s = .next
          { s0 with jl := { s.jl with reports := rs, sent := 0, sending := s.jl.hrdy && !rs.isEmpty } })
      ∧ (∀ w ws, s.jl.sent + 1 = r.text.length → s.jl.waiting = w :: ws → rs.length < 16 →
          let s1 : State := { s0 with jl := { s.jl with
            reports := rs ++ [w], waiting := ws, sent := 0, sending := s.jl.hrdy } }
          exec .characterSent s = .next (match w with
            | .done tag _ _ _ _ _ _ => match jobOf s tag with
              | some j => { s1 with
                  os := releaseJob s.os j
                  jq := { s.jq with jobs := withoutJob tag s.jq.jobs }
                  lp := { s.lp with cursor := cursorWithout s.jq.jobs tag s.lp.cursor } }
              | none => s1
            | .flt k _ => offerNotice k s1
            | .rdy _ => { s1 with ss := { s.ss with start := .running } }
            | .err _ _ | .sts _ | .abt _ | .cal _ => s1)))
  ∧ (∀ (s : State) (r : Report) (rs : List Report) (w : RateSwitch), s.powered = true → s.ss.start ≠ .loading →
      s.jl.sending = true → s.jl.reports = r :: rs → s.jl.rateSwitch = some w → w.noted = 1 → s.jl.waiting = [] →
      s.jl.sent + 1 = r.text.length → exec .characterSent s = .next
        { takeGeometry s with jl := { s.jl with
          reports := rs, sent := 0, rate := w.rate, rateSwitch := none, sending := s.jl.hrdy && !rs.isEmpty } })

/-- DAMAGED_RECORD (R18): the damaged record is removed, the open context is abandoned, ERR LINK without a keyword
enters the report queue, and LINK-ERROR is raised; the context is then NONE. -/
def Obligations.DamagedRecordTaken : Prop :=
  ∀ (s : State) (r : Record), frontRecord s = some r → r.damaged = true →
    exec .damagedRecord s = .next
        (raiseFault .linkError (enterReport (.err .link none) (abandonContext (removeRecord s))))
      ∧ (abandonContext (removeRecord s)).jl.context = .none
      ∧ (removeRecord s).jl.records = s.jl.records.tail

/-- UNKNOWN_RECORD (R5, R6, R11): a sound record that fails check 2 or 3 is refused with SYNTAX and applied to nothing;
the report carries the keyword, which is what stands before the first space (the model's reading, log entry 14), where it
is 2 to 5 capitals. Such a record that is the closing record of the open context also closes it (log entry 43); any
other, an ABORT included (log entry 50), leaves the context open. A record these checks pass is not this command's. -/
def Obligations.MalformedRecordRefused : Prop :=
  ∀ (s : State) (r : Record), frontRecord s = some r → r.damaged = false →
    (∀ kw, headOf r = .refused kw → (∀ k, kw.bind keywordOf = some k → k.closes ≠ some s.jl.context) →
      exec .unknownRecord s = .next (enterReport (.err .syntaxErr kw) (removeRecord s)))
    ∧ (∀ kw, headOf r = .refused kw → (∀ k, kw = some k → k = r.chars.takeWhile (· != 32) ∧ keywordShaped k = true)
        ∧ (kw = none → keywordShaped (r.chars.takeWhile (· != 32)) = false))
    ∧ (∀ kw k, headOf r = .refused (some kw) → keywordOf kw = some k → k.closes = some s.jl.context →
      exec .unknownRecord s = .next
        (enterReport (.err .syntaxErr (some kw)) (abandonContext (removeRecord s))))
    ∧ (∀ k rest, headOf r = .known k rest → exec .unknownRecord s = .next s)

/-- A record of a known keyword that fails check 4 of R11 is refused with SEQUENCE, its context untouched and its
parameters not read (log entry 12); one that fails check 5 is refused with SYNTAX or RANGE, closing the context it would
have closed, an ABORT closing none (log entry 50); nothing else happens (R7, R9, R10, R11). A LINE record that asks for
neither state is refused by either of its commands (log entry 15). What check 5 makes of parameters: a name of more than 8
characters, an unknown word and a hex run of more than 480 digits are RANGE; a hex run that is odd, and a parameter of
another kind, are SYNTAX; a key that the record does not accept is RANGE, and more keys than its form has are SYNTAX,
which outranks RANGE (log entry 13). -/
def Obligations.KnownRecordRefusals : Prop :=
  (∀ (k : Keyword) (c : Instr) (s : State) (rest : Option Text), c ∈ commandsOf k → frontRest k s = some rest →
    let s1 := if k.closes = some s.jl.context then abandonContext (removeRecord s) else removeRecord s
    (admitted k s.jl.context = false →
      exec c s = .next (enterReport (.err .sequence (some k.text)) (removeRecord s)))
    ∧ (admitted k s.jl.context = true → readParams rest = none →
      exec c s = .next (enterReport (.err .syntaxErr (some k.text)) s1))
    ∧ (∀ ps, admitted k s.jl.context = true → readParams rest = some ps → formResult k ps = .bad →
      exec c s = .next (enterReport (.err .syntaxErr (some k.text)) s1))
    ∧ (∀ ps, admitted k s.jl.context = true → readParams rest = some ps → formResult k ps = .range →
      exec c s = .next (enterReport (.err .range (some k.text)) s1)))
  ∧ (∀ t : Text, (t.all isNameChar = true → asName (.bare t) = if t.length ≤ 8 then .ok t else .range)
      ∧ (t.all isNameChar = false → asName (.bare t) = .bad))
  ∧ (∀ t : Text, (t.all isHex = true → t.length % 2 = 0 → 480 < t.length → asHex (.bare t) = .range)
      ∧ (t.all isHex = false ∨ t.length % 2 = 1 → asHex (.bare t) = .bad))
  ∧ (∀ (α : Type) (allowed : List (Text × α)) (t : Text), isWord t = true → (∀ p ∈ allowed, p.1 ≠ t) →
      asWord allowed (.bare t) = .range)
  ∧ (∀ t u : Text, asInt (.quoted t) = .bad ∧ asName (.quoted t) = .bad ∧ asHex (.quoted t) = .bad
      ∧ asQuoted (.bare t) = .bad ∧ asInt (.keyval t u) = .bad ∧ asName (.keyval t u) = .bad)
  ∧ (∀ (α : Type) (accepted : List Text) (ks : List Param) (kvs : List (Text × Text))
      (f : List (Text × Text) → FormCheck α), keyvals ks = some kvs →
      (accepted.length < kvs.length → withKeys accepted ks f = .bad)
      ∧ (kvs.length ≤ accepted.length → f (kvs.filter fun p => accepted.contains p.1) = .bad →
        withKeys accepted ks f = .bad)
      ∧ (kvs.length ≤ accepted.length → f (kvs.filter fun p => accepted.contains p.1) ≠ .bad →
        (∃ p ∈ kvs, p.1 ∉ accepted) → withKeys accepted ks f = .range))

/-- The parser takes a record only with power, a free report position, an empty waiting list, no rate switch pending,
and no start-up or soft reset in progress (R16; that it takes none without power is log entry 30): otherwise every record
stays in the buffer, and every command that takes one finds none to take and changes nothing (log entry 1). -/
def Obligations.StalledParserTakesNothing : Prop :=
  ∀ (i : Instr) (s : State), takesRecord i = true →
    (s.powered = false ∨ 16 ≤ s.jl.reports.length ∨ s.jl.waiting ≠ [] ∨ s.jl.rateSwitch ≠ none
      ∨ s.ss.start ≠ .running) →
    exec i s = .next s

/-- The report queue never holds more than its 16 reports (R14), whatever the command. -/
def Obligations.ReportQueueStaysBounded : Prop :=
  ∀ (i : Instr) (s t : State), s.jl.reports.length ≤ 16 → exec i s = .next t → t.jl.reports.length ≤ 16

/-- At most one FLT notice of each kind waits at any time (R198), whatever the command. -/
def Obligations.OneNoticeOfAKindWaits : Prop :=
  ∀ (i : Instr) (s t : State), oneNoticeEach s → exec i s = .next t → oneNoticeEach t

/-! ## The object store (Chapters 2 and 13) -/

/-- OBJ and FMT (R26, R31, R38): with the length, and a given width, in range and a RAM entry free, the lowest-numbered
free entry becomes LOADING with nothing received and no block, the context opens, and FMT forms the definition state; a
value out of range is refused with RANGE, and a full directory with DIR-FULL. -/
def Obligations.LoadsOpenAnEntry : Prop :=
  (∀ (s : State) (f : ObjForm), Takes .obj formObj f s →
    (1 ≤ f.length → f.length ≤ 131072 → ∀ i, freeEntryIndex s.os = some i →
      exec .obj s = .next { removeRecord s with
        jl := { (removeRecord s).jl with context := .object }
        os := { s.os with ram := s.os.ram.setIfInBounds i (some
          { name := f.name, kind := f.kind, generation := 0, state := .loading, firstBlock := none,
            length := f.length.toNat, received := 0, refs := 0, format := none }) } })
    ∧ (1 ≤ f.length → f.length ≤ 131072 → freeEntryIndex s.os = none →
      exec .obj s = .next (enterReport (.err .dirFull (some (Sys2Proof.txt "OBJ"))) (removeRecord s)))
    ∧ (f.length < 1 ∨ 131072 < f.length →
      exec .obj s = .next (enterReport (.err .range (some (Sys2Proof.txt "OBJ"))) (removeRecord s))))
  ∧ (∀ (s : State) (f : FmtForm), Takes .fmt formFmt f s →
    (8 ≤ f.length → f.length ≤ 2400 → (∀ w, f.width = some w → 8 ≤ w ∧ w ≤ 832) →
      (∀ i, freeEntryIndex s.os = some i →
        exec .fmt s = .next { removeRecord s with
          jl := { (removeRecord s).jl with context := .format }
          os := { s.os with
            ram := s.os.ram.setIfInBounds i (some
              { name := f.name, kind := .format, generation := 0, state := .loading, firstBlock := none, length := 0,
                received := 0, refs := 0, format := none })
            defn := some { length := f.length.toNat, width := (f.width.getD 832).toNat, fields := [] } } })
      ∧ (freeEntryIndex s.os = none →
        exec .fmt s = .next (enterReport (.err .dirFull (some (Sys2Proof.txt "FMT"))) (removeRecord s))))
    ∧ (f.length < 8 ∨ 2400 < f.length ∨ (∃ w, f.width = some w ∧ (w < 8 ∨ 832 < w)) →
      exec .fmt s = .next (enterReport (.err .range (some (Sys2Proof.txt "FMT"))) (removeRecord s))))

/-- BLK (R19, R20, R27): where the bytes fit the declared length, they stand at positions r to r + n − 1 of the object,
in one block more, the lowest FREE one, where they pass the blocks held; every other byte of the store, every other
entry and the rest of the part stay. -/
def Obligations.BlkAppendsBytes : Prop :=
  ∀ (s : State) (bytes : List Byte) (i : Nat) (e : Entry) (B : List Nat), Takes .blk formBlk bytes s →
    loadingEntry s.os = some (i, e) → IsChain s.os.chain e.firstBlock B → B.Nodup → Memory.wf s.os.blocks = true →
    e.received ≤ 1024 * B.length → e.received + bytes.length ≤ e.length →
    (e.received + bytes.length ≤ 1024 * B.length ∨ lowestFree s.os ≠ none) →
    ∃ (os : ObjectStore) (B' : List Nat), exec .blk s = .next { removeRecord s with os := os }
      ∧ (if e.received + bytes.length ≤ 1024 * B.length then B' = B
        else ∃ b, lowestFree s.os = some b ∧ B' = B ++ [b])
      ∧ IsChain os.chain B'.head? B' ∧ B'.Nodup
      ∧ ramEntry os i = some { e with
          firstBlock := B'.head?, received := e.received + bytes.length
          length := if e.kind = .format then e.received + bytes.length else e.length }
      ∧ (∀ j, j ≠ i → ramEntry os j = ramEntry s.os j) ∧ os.romRefs = s.os.romRefs ∧ os.defn = s.os.defn
      ∧ (∀ j v, bytes[j]? = some v → Memory.read os.blocks (byteAddress B' (e.received + j)) = some v)
      ∧ (∀ a, (∀ j, j < bytes.length → a ≠ byteAddress B' (e.received + j)) →
        Memory.read os.blocks a = Memory.read s.os.blocks a)

/-- BLK and EOB that fail a check (R27, R28, R30): the load is abandoned, so that its entry and its blocks are free, and
the context returns to NONE, with one ERR reply: LENGTH, STORE-FULL, or SYNTAX for bad content. -/
def Obligations.FailedLoadsAbandoned : Prop :=
  (∀ (s : State) (bytes : List Byte) (i : Nat) (e : Entry), Takes .blk formBlk bytes s →
    loadingEntry s.os = some (i, e) →
    (e.length < e.received + bytes.length →
      exec .blk s = .next (enterReport (.err .length (some (Sys2Proof.txt "BLK"))) (abandonContext (removeRecord s))))
    ∧ (e.received + bytes.length ≤ e.length → 1024 * (entryBlocks s.os e).length < e.received + bytes.length →
      lowestFree s.os = none →
      exec .blk s = .next
        (enterReport (.err .storeFull (some (Sys2Proof.txt "BLK"))) (abandonContext (removeRecord s)))))
  ∧ (∀ (s : State) (i : Nat) (e : Entry), Takes .eob formNone () s → loadingEntry s.os = some (i, e) →
    (e.received ≠ e.length →
      exec .eob s = .next (enterReport (.err .length (some (Sys2Proof.txt "EOB"))) (abandonContext (removeRecord s))))
    ∧ (e.received = e.length → goodContent s i e = false →
      exec .eob s = .next
        (enterReport (.err .syntaxErr (some (Sys2Proof.txt "EOB"))) (abandonContext (removeRecord s)))))
  ∧ (∀ (s : State) (i : Nat) (e : Entry), s.jl.context = .object ∨ s.jl.context = .format →
    loadingEntry s.os = some (i, e) →
    (abandonContext s).jl.context = .none ∧ (abandonContext s).os.defn = none ∧ ramEntry (abandonContext s).os i = none
      ∧ (∀ b, b ∈ entryBlocks s.os e → b < 256 → (abandonContext s).os.chain[b]? = some .free)
      ∧ (∀ j, j ≠ i → ramEntry (abandonContext s).os j = ramEntry s.os j))

/-- EOB (R25, R28, R29): a complete load of good content becomes LIVE with its generation, one more than that of the
LIVE entry of its name and 1 after 255 or where there is none; that entry retires while references hold it and is
otherwise freed with its blocks; every other entry stays, and the context is NONE. -/
def Obligations.EobCompletesLoad : Prop :=
  ∀ (s : State) (i : Nat) (e : Entry), Takes .eob formNone () s → loadingEntry s.os = some (i, e) →
    e.received = e.length → goodContent s i e = true →
    ∃ os, exec .eob s = .next { removeRecord s with
        jl := { (removeRecord s).jl with context := .none }, os := os }
      ∧ (liveEntry s.os e.name = none →
        ramEntry os i = some { e with state := .live, generation := 1, format := none }
          ∧ (∀ j, j ≠ i → ramEntry os j = ramEntry s.os j) ∧ os.chain = s.os.chain)
      ∧ (∀ j p, liveEntry s.os e.name = some (j, p) →
        ramEntry os i = some
            { e with state := .live, generation := if p.generation = 255 then 1 else p.generation + 1, format := none }
          ∧ (0 < p.refs → ramEntry os j = some { p with state := .retired } ∧ os.chain = s.os.chain)
          ∧ (p.refs = 0 → ramEntry os j = none
            ∧ ∀ b, b ∈ entryBlocks s.os p → b < 256 → os.chain[b]? = some .free)
          ∧ ∀ k, k ≠ i → k ≠ j → ramEntry os k = ramEntry s.os k)
      ∧ os.blocks = s.os.blocks ∧ os.romRefs = s.os.romRefs ∧ os.defn = none

/-- DEL (R32): the LIVE RAM entry of the name retires while references hold it, else it is freed with its blocks; with
no such entry a ROM font's name is refused with READONLY and any other with NO-OBJECT. -/
def Obligations.DelRemovesName : Prop :=
  ∀ (s : State) (name : Text), Takes .del formDel name s →
    (∀ i e, liveEntry s.os name = some (i, e) → 0 < e.refs →
      exec .del s = .next { removeRecord s with
        os := { s.os with ram := s.os.ram.setIfInBounds i (some { e with state := .retired }) } })
    ∧ (∀ i e, liveEntry s.os name = some (i, e) → e.refs = 0 →
      exec .del s = .next { removeRecord s with
        os := { s.os with
          ram := s.os.ram.setIfInBounds i none
          chain := (entryBlocks s.os e).foldl (fun c b => c.setIfInBounds b .free) s.os.chain } })
    ∧ (liveEntry s.os name = none → (∃ f, romNamed name = some f) →
      exec .del s = .next (enterReport (.err .readOnly (some (Sys2Proof.txt "DEL"))) (removeRecord s)))
    ∧ (liveEntry s.os name = none → romNamed name = none →
      exec .del s = .next (enterReport (.err .noObject (some (Sys2Proof.txt "DEL"))) (removeRecord s)))

/-! ## Formats and fields (Chapter 3) -/

/-- TXT, BAR, BOX and IMG (R39, R41): a field whose values are in range and whose object does not conflict with the
named-object list joins the open format, its 24 bytes and one for each literal character appended to the entry, whose
received count and, being a format's (R21), length grow by them; with a block wanted and none FREE the load is abandoned
with STORE-FULL; a 41st field, a value out of range and a conflict are each refused with RANGE, and leave the definition
as it was. -/
def Obligations.FieldRecordsAppend : Prop :=
  ∀ (s : State) (c : Instr) (k : Keyword) (build : Format → Option Field) (d : Format) (i : Nat) (e : Entry),
    ((∃ f, c = .txt ∧ k = .txt ∧ build = buildTxt f ∧ Takes .txt formTxt f s)
      ∨ (∃ f, c = .bar ∧ k = .bar ∧ build = buildBar f ∧ Takes .bar formBar f s)
      ∨ (∃ f, c = .box ∧ k = .box ∧ build = buildBox f ∧ Takes .box formBox f s)
      ∨ (∃ f, c = .img ∧ k = .img ∧ build = buildImg f ∧ Takes .img formImg f s)) →
    s.os.defn = some d → loadingEntry s.os = some (i, e) →
    (∀ f, d.fields.length < 40 → build d = some f → conflicts d f = false →
      let d' : Format := { d with fields := d.fields ++ [f] }
      let n := 24 + literalLength f.body
      (e.received + n ≤ 1024 * (entryBlocks s.os e).length ∨ lowestFree s.os ≠ none →
        ∃ os e', appendBytes i e (compiledBytes d' e.received n) s.os = some os
          ∧ exec c s = .next { removeRecord s with os := { os with defn := some d' } }
          ∧ ramEntry os i = some e' ∧ e'.received = e.received + n
          ∧ e'.length = (if e.kind = .format then e.received + n else e.length)
          ∧ e'.name = e.name ∧ e'.kind = e.kind ∧ e'.state = e.state ∧ e'.refs = e.refs
          ∧ (∀ j, j ≠ i → ramEntry os j = ramEntry s.os j))
      ∧ (1024 * (entryBlocks s.os e).length < e.received + n → lowestFree s.os = none →
        exec c s = .next (enterReport (.err .storeFull (some k.text)) (abandonContext (removeRecord s)))))
    ∧ (40 ≤ d.fields.length ∨ build d = none ∨ (∃ f, build d = some f ∧ conflicts d f = true) →
      exec c s = .next (enterReport (.err .range (some k.text)) (removeRecord s)))

/-- The values a field record may carry (R42, R46, R48, R50, R52, R54): TXT, BAR, BOX and IMG each define a field exactly
when every value lies in its range, and the field then carries those values, WIDE fitted to 2 to 3 modules and RED to
less than one. -/
def Obligations.FieldValuesChecked : Prop :=
  ∀ d : Format, 0 < d.width → 0 < d.length →
    (∀ f : TxtForm,
      let mx := f.mx.getD 1
      let my := f.my.getD 1
      ((buildTxt f d).isSome = true ↔
        f.place.onLabel d ∧ f.source.sound ∧ 1 ≤ mx ∧ mx ≤ 8 ∧ 1 ≤ my ∧ my ≤ 8)
      ∧ ∀ x, buildTxt f d = some x → f.place.places x
        ∧ ∃ src, f.source.gives src ∧ x.body = .txt f.font src mx.toNat my.toNat)
    ∧ (∀ f : BarForm,
      let m := f.module.getD 2
      let h := f.height.getD 80
      let r := f.reduction.getD 0
      ((buildBar f d).isSome = true ↔
        f.place.onLabel d ∧ f.source.sound ∧ 1 ≤ m ∧ m ≤ 10 ∧ 8 ≤ h ∧ h ≤ 1200 ∧ 0 ≤ r ∧ r ≤ 9
          ∧ ∀ w, f.wide = some w → 2 ≤ w ∧ w ≤ 30)
      ∧ ∀ x, buildBar f d = some x → f.place.places x
        ∧ ∃ src, f.source.gives src
          ∧ x.body = .bar f.symbology src m.toNat (max (2 * m) (min (3 * m) (f.wide.getD (5 * m / 2)))).toNat h.toNat
              (min r (m - 1)).toNat f.check f.hr)
    ∧ (∀ f : BoxForm,
      let turned := f.place.rot = some 90 ∨ f.place.rot = some 270
      let t := f.thickness.getD 1
      ((buildBox f d).isSome = true ↔
        f.place.onLabel d ∧ 1 ≤ f.width ∧ f.width ≤ (if turned then d.length else d.width)
          ∧ 1 ≤ f.height ∧ f.height ≤ (if turned then d.width else d.length) ∧ 1 ≤ t ∧ t ≤ 2400)
      ∧ ∀ x, buildBox f d = some x → f.place.places x ∧ x.body = .box f.width.toNat f.height.toNat t.toNat)
    ∧ (∀ f : ImgForm,
      ((buildImg f d).isSome = true ↔ f.place.onLabel d)
      ∧ ∀ x, buildImg f d = some x → f.place.places x ∧ x.body = .img f.graphic)

/-- FEND (R25, R29, R40): the 8-byte trailer is appended and the format becomes LIVE with its label length, width and
fields as its content, its generation one more than that of the LIVE entry of its name and 1 after 255 or where there is
none; that entry retires while references hold it and is otherwise freed; the context returns to NONE; with no block FREE
for the trailer the load is abandoned with STORE-FULL. -/
def Obligations.FendCompletesFormat : Prop :=
  ∀ (s : State) (d : Format) (i : Nat) (e : Entry), Takes .fend formNone () s → s.os.defn = some d →
    loadingEntry s.os = some (i, e) →
    (e.received + 8 ≤ 1024 * (entryBlocks s.os e).length ∨ lowestFree s.os ≠ none →
      ∃ os e', exec .fend s = .next { removeRecord s with
          jl := { (removeRecord s).jl with context := .none }, os := os }
        ∧ ramEntry os i = some e' ∧ e'.state = .live ∧ e'.length = e.received + 8
        ∧ e'.name = e.name ∧ e'.kind = e.kind ∧ e'.refs = e.refs ∧ e'.format = some d ∧ os.defn = none
        ∧ os.romRefs = s.os.romRefs
        ∧ (liveEntry s.os e.name = none → e'.generation = 1 ∧ ∀ j, j ≠ i → ramEntry os j = ramEntry s.os j)
        ∧ (∀ j p, liveEntry s.os e.name = some (j, p) →
          e'.generation = (if p.generation = 255 then 1 else p.generation + 1)
            ∧ ramEntry os j = (if 0 < p.refs then some { p with state := .retired } else none)
            ∧ ∀ k, k ≠ i → k ≠ j → ramEntry os k = ramEntry s.os k))
    ∧ (1024 * (entryBlocks s.os e).length < e.received + 8 → lowestFree s.os = none →
      exec .fend s = .next
        (enterReport (.err .storeFull (some (Sys2Proof.txt "FEND"))) (abandonContext (removeRecord s))))

/-- The block store's contents keep their canonical form, addresses strictly rising, whatever the command (R19). -/
def Obligations.BlockStoreStaysCanonical : Prop :=
  ∀ (i : Instr) (s t : State), Memory.wf s.os.blocks = true → exec i s = .next t → Memory.wf t.os.blocks = true

/-- At most one RAM entry of any name is LIVE (R24), whatever the command. -/
def Obligations.LiveNamesStayUnique : Prop :=
  ∀ (i : Instr) (s t : State), liveNamesOnce s.os → exec i s = .next t → liveNamesOnce t.os

/-- The properties that the statements say every command keeps hold of the part right after power-on; the directory then
holds the three ROM fonts, LIVE with generation 1, unreferenced and unshadowed, and no RAM entry (R23, R37). -/
def Obligations.KeptPropertiesHoldAtReset : Prop :=
  Memory.wf State.reset.os.blocks = true ∧ liveNamesOnce State.reset.os ∧ legalCounters State.reset.cb
    ∧ legalSettings State.reset.ss.settings ∧ State.reset.jl.reports.length ≤ 16 ∧ oneNoticeEach State.reset
    ∧ flagsCoherent State.reset ∧ stopsPause State.reset ∧ State.reset.pending = []
    ∧ (∀ f : RomFont, directoryEntry State.reset.os (.rom f) = some
        { name := f.name, kind := .font, origin := .rom, generation := 1, state := .live, firstBlock := none,
          length := Config.romLength f, refs := 0 }
      ∧ shadowed State.reset.os f = false)
    ∧ ∀ i, directoryEntry State.reset.os (.ram i) = none

/-! ## Serial counters (Chapter 4) -/

/-- CTR (R57, R58): a CTR that passes CB's checks sets every field of its counter, omitted keys at their defaults and
numeric values clamped in the order of R58, and touches no other counter; one that fails a check is refused with RANGE. -/
def Obligations.CtrProgramsCounter : Prop :=
  ∀ (s : State) (f : CtrForm), Takes .ctr formCtr f s →
    (0 ≤ f.number → f.number ≤ 7 → (∀ j, f.next = some j → f.number < j ∧ j ≤ 7) → f.step ≠ some 0 →
      ∃ c : Counter, exec .ctr s = .next { removeRecord s with cb := s.cb.setIfInBounds f.number.toNat c }
        ∧ (c.low : Int) = max 0 (min 999999999 (f.low.getD 0))
        ∧ (c.high : Int) = max (c.low : Int) (min 999999999 (f.high.getD 999999999))
        ∧ (c.step.natAbs : Int) = min (min 999 ((c.high : Int) - c.low + 1)) ((f.step.getD 1).natAbs)
        ∧ (c.step < 0 ↔ f.step.getD 1 < 0)
        ∧ (c.value : Int) = max (c.low : Int) (min (c.high : Int) (f.value.getD c.low))
        ∧ (c.digits : Int) = max 1 (min 9 (f.digits.getD 9))
        ∧ c.mode = f.mode.getD .wrap ∧ c.fill = f.fill.getD .zero ∧ c.exhausted = false
        ∧ (f.next = none → c.cascade = none) ∧ (∀ j : Nat, f.next = some (j : Int) → c.cascade = some j))
    ∧ (f.number < 0 ∨ 7 < f.number ∨ (∃ j, f.next = some j ∧ (j ≤ f.number ∨ 7 < j)) ∨ f.step = some 0 →
      exec .ctr s = .next (enterReport (.err .range (some (Sys2Proof.txt "CTR"))) (removeRecord s)))

/-- A WRAP step (R59): a sum above the high limit goes on from the low one, a sum below the low limit from the high one,
and each of these wraps; any other sum is the new value. The new value lies within the limits, the exhausted flag stays,
a step of the full range comes back to the same value with a wrap, and a wrap makes the cascade target, if there is one,
take one step. -/
def Obligations.WrapStepFollowsTable : Prop :=
  ∀ c : Counter, c.mode = .wrap → c.low ≤ c.value → c.value ≤ c.high → c.step ≠ 0 →
    c.step.natAbs ≤ c.high - c.low + 1 →
    let v : Int := c.value + c.step
    let r := stepCounter c
    (v > c.high → (r.1.value : Int) = c.low + (v - c.high - 1) ∧ r.2 = true)
    ∧ (v < c.low → (r.1.value : Int) = c.high - (c.low - v - 1) ∧ r.2 = true)
    ∧ (c.low ≤ v → v ≤ c.high → (r.1.value : Int) = v ∧ r.2 = false)
    ∧ c.low ≤ r.1.value ∧ r.1.value ≤ c.high ∧ r.1 = { c with value := r.1.value }
    ∧ (c.step.natAbs = c.high - c.low + 1 → r.1.value = c.value ∧ r.2 = true)
    ∧ (∀ (fuel i : Nat) (cb : Vector Counter 8), cb[i]? = some c →
      stepCascade (fuel + 1) i cb = match r.2, c.cascade with
        | true, some j => stepCascade fuel j (cb.setIfInBounds i r.1)
        | _, _ => cb.setIfInBounds i r.1)

/-- A HOLD step (R60): a sum within the limits is the new value; a sum beyond a limit gives that limit and sets the
exhausted flag; an exhausted counter keeps its value and its flag; no HOLD step wraps, so none cascades. -/
def Obligations.HoldStepStopsAtLimit : Prop :=
  ∀ c : Counter, c.mode = .hold → c.low ≤ c.value → c.value ≤ c.high →
    let v : Int := c.value + c.step
    (stepCounter c).2 = false
    ∧ (c.exhausted = true → (stepCounter c).1 = c)
    ∧ (c.exhausted = false → v > c.high → (stepCounter c).1 = { c with value := c.high, exhausted := true })
    ∧ (c.exhausted = false → v < c.low → (stepCounter c).1 = { c with value := c.low, exhausted := true })
    ∧ (c.exhausted = false → c.low ≤ v → v ≤ c.high → (stepCounter c).1 = { c with value := v.toNat })

/-- The counters keep to R56 and the settings to their ranges (R200), whatever the command. -/
def Obligations.CountersAndSettingsStayLegal : Prop :=
  ∀ (i : Instr) (s t : State), legalCounters s.cb → legalSettings s.ss.settings → exec i s = .next t →
    legalCounters t.cb ∧ legalSettings t.ss.settings

/-! ## The job queue (Chapter 5) -/

/-- JOB and DAT (R69, R70): a JOB in range whose tag no job in a slot carries opens the assembly with 16 absent items and
one copy where COPIES is omitted; a DAT in range sets its item of the open assembly; any other is refused with RANGE or
DUP-TAG and changes nothing. -/
def Obligations.JobAssembled : Prop :=
  (∀ (s : State) (f : JobForm), Takes .job formJob f s →
    (1 ≤ f.tag → f.tag ≤ 65535 → 1 ≤ f.copies.getD 1 → f.copies.getD 1 ≤ 99 → jobOf s f.tag.toNat = none →
      let a : Assembly :=
        { tag := f.tag.toNat, format := f.format, copies := (f.copies.getD 1).toNat, items := Vector.replicate 16 none }
      exec .job s = .next { removeRecord s with
        jl := { (removeRecord s).jl with context := .job }, jq := { s.jq with assembly := some a } })
    ∧ (f.tag < 1 ∨ 65535 < f.tag ∨ f.copies.getD 1 < 1 ∨ 99 < f.copies.getD 1 →
      exec .job s = .next (enterReport (.err .range (some (Sys2Proof.txt "JOB"))) (removeRecord s)))
    ∧ (1 ≤ f.tag → f.tag ≤ 65535 → 1 ≤ f.copies.getD 1 → f.copies.getD 1 ≤ 99 →
      (∃ j, jobOf s f.tag.toNat = some j) →
      exec .job s = .next (enterReport (.err .dupTag (some (Sys2Proof.txt "JOB"))) (removeRecord s))))
  ∧ (∀ (s : State) (n : Int) (text : Text) (a : Assembly), Takes .dat formDat (n, text) s → s.jq.assembly = some a →
    (1 ≤ n → n ≤ 16 → text.length ≤ 96 →
      exec .dat s = .next { removeRecord s with
        jq := { s.jq with assembly := some { a with items := a.items.setIfInBounds (n.toNat - 1) (some text) } } })
    ∧ (n < 1 ∨ 16 < n ∨ 96 < text.length →
      exec .dat s = .next (enterReport (.err .range (some (Sys2Proof.txt "DAT"))) (removeRecord s))))

/-- EOJ (R33, R71): with the format and every pair of its named-object list found and a slot free, the job joins the end
of the queue in the lowest-numbered free slot, all its copies WAITING, unbound and without marks, each entry found gains
one reference for each time the job holds it, and the assembly ends; stated where no parcel entry is OPEN and the engine
is not IDLE, so that neither a binding nor a label start follows. A name not found is refused with NO-OBJECT, and 32 slots
in use with QUEUE-FULL; each ends the assembly. -/
def Obligations.EojAcceptsJob : Prop :=
  ∀ (s : State) (a : Assembly), Takes .eoj formNone () s → s.jq.assembly = some a →
    (∀ (r : EntryRef) (f : Format) (l : List (NamedObject × EntryRef)), lookup s.os a.format .format = some r →
      pinnedFormat s r = some f →
      (namedObjects f.fields).mapM (fun o => (lookup s.os o.name o.kind).map fun e => (o, e)) = some l →
      (∀ slot, freeJobSlot s.jq.jobs = some slot → (∀ e ∈ s.lp.parcels, e.state ≠ .open) → s.pe.engine ≠ .idle →
        ∃ (os : ObjectStore) (j : Job), exec .eoj s = .next { removeRecord s with
              jl := { (removeRecord s).jl with context := .none }
              os := os
              jq := { jobs := s.jq.jobs ++ [j], assembly := none } }
          ∧ slot < 32 ∧ (∀ x ∈ s.jq.jobs, x.slot ≠ slot) ∧ (∀ m, m < slot → ∃ x ∈ s.jq.jobs, x.slot = m)
          ∧ j.slot = slot ∧ j.tag = a.tag ∧ j.format = r ∧ j.objects = l ∧ j.items = a.items
          ∧ j.firstSerial = none ∧ j.lastSerial = none ∧ j.copies.length = a.copies
          ∧ (∀ (n : Nat) (c : Copy), j.copies[n]? = some c →
            c = { number := n + 1, state := .waiting, marks := {}, bound := false })
          ∧ (∀ x, refCount os x = refCount s.os x + (r :: l.map (·.2)).count x)
          ∧ os.chain = s.os.chain ∧ os.blocks = s.os.blocks ∧ os.defn = s.os.defn)
      ∧ ((∀ m, m < 32 → ∃ x ∈ s.jq.jobs, x.slot = m) →
        exec .eoj s = .next
          (enterReport (.err .queueFull (some (Sys2Proof.txt "EOJ"))) (abandonContext (removeRecord s)))))
    ∧ (lookup s.os a.format .format = none
        ∨ (∃ r f o, lookup s.os a.format .format = some r ∧ pinnedFormat s r = some f ∧ o ∈ namedObjects f.fields
          ∧ lookup s.os o.name o.kind = none) →
      exec .eoj s = .next
        (enterReport (.err .noObject (some (Sys2Proof.txt "EOJ"))) (abandonContext (removeRecord s))))

/-- CAN (R79 to R84, R103, R104). Of a QUEUED job every copy becomes VOIDED, so the job is FINISHED in the event, its
DONE report enters the report queue, and its slot is freed; stated for a job whose copies hold no band, binding or
calibration, with the engine not IDLE. A tag out of range is refused with RANGE and one no job carries with NO-OBJECT. Of
any job the copies are withdrawn one after the other in copy-number order, by the state each is in: an unprinted copy is
VOIDED with its bands freed and its render ended, one in PRINTING gains WITHDRAWN with its unprinted bands freed (stated
while its line's strobe is in progress, so that no boundary is decided in the event), a PRESENTED one is WASTED and its
label waste, and one APPLYING, terminal or already withdrawn stays. -/
def Obligations.CanVoidsQueuedJob : Prop :=
  (∀ (s : State) (j : Job), Takes .can formCan (j.tag : Int) s → 1 ≤ j.tag → j.tag ≤ 65535 → j ∈ s.jq.jobs →
    (s.jq.jobs.map (·.tag)).Nodup → (∀ c ∈ j.copies, c.state = .waiting ∧ c.bound = false) →
    (∀ p ∈ s.lp.parcels, ∀ id, p.copy = some id → id.tag ≠ j.tag) →
    (∀ b ∈ s.br.bands, ∀ id, b.owner = some id → id.tag ≠ j.tag) →
    (∀ c, s.re.context = some c → c.copy.tag ≠ j.tag) → (∀ c id, s.pe.cal = some c → c.copy = some id → id.tag ≠ j.tag) →
    s.pe.engine ≠ .idle →
    ∃ (cursor : Nat) (sending : Bool), exec .can s = .next { removeRecord s with
        os := releaseJob s.os j
        jq := { s.jq with jobs := s.jq.jobs.filter fun x => x.tag != j.tag }
        lp := { s.lp with cursor := cursor }
        jl := { (removeRecord s).jl with
          sending := sending
          reports := s.jl.reports ++ [Report.done j.tag 0 0 0 j.copies.length 0
            (match j.firstSerial, j.lastSerial with
              | some a, some b => some (a, b)
              | _, _ => none)] } })
  ∧ (∀ (s : State) (tag : Int), Takes .can formCan tag s →
    (tag < 1 ∨ 65535 < tag →
      exec .can s = .next (enterReport (.err .range (some (Sys2Proof.txt "CAN"))) (removeRecord s)))
    ∧ (1 ≤ tag → tag ≤ 65535 → jobOf s tag.toNat = none →
      exec .can s = .next (enterReport (.err .noObject (some (Sys2Proof.txt "CAN"))) (removeRecord s)))
    ∧ (∀ j, 1 ≤ tag → tag ≤ 65535 → jobOf s tag.toNat = some j →
      exec .can s = .next (testLabelStart (offerDone j.tag
        (j.copies.foldl (fun s c => withdrawCopy { tag := j.tag, number := c.number } s) (removeRecord s))))))
  ∧ (∀ (s : State) (id : CopyId) (c : Copy), copyOf s id = some c →
    let t := withdrawCopy id s
    let unprinted (b : Nat) : Band :=
      if (bandOf s b).owner = some id ∧ ((bandOf s b).state = .filling ∨ (bandOf s b).state = .ready) then
        { bandOf s b with state := .free, owner := none, index := none, used := none }
      else bandOf s b
    let forsaken : List Parcel := s.lp.parcels.map fun p =>
      if p.copy = some id ∧ p.state = .bound then { p with state := .forsaken } else p
    (c.state = .waiting ∨ c.state = .rendering ∨ c.state = .rendered →
      copyOf t id = some { c with state := .terminal .voided, bound := false } ∧ (∀ b, bandOf t b = unprinted b)
        ∧ t.re = (if underRender id s then { cursor := .idle, context := none } else s.re)
        ∧ t.lp = { s.lp with parcels := forsaken } ∧ t.os = s.os ∧ t.jl = s.jl ∧ t.hi = s.hi ∧ t.fm = s.fm)
    ∧ (c.state = .printing → c.marks.withdrawn = false → strobing s = true →
      copyOf t id = some { c with marks := { c.marks with withdrawn := true } } ∧ (∀ b, bandOf t b = unprinted b)
        ∧ t.re = (if underRender id s then { cursor := .idle, context := none } else s.re)
        ∧ t.lp = s.lp ∧ t.pe = s.pe ∧ t.os = s.os ∧ t.jl = s.jl ∧ t.hi = s.hi ∧ t.fm = s.fm)
    ∧ (c.state = .presented →
      copyOf t id = some { c with state := .terminal .wasted, bound := false }
        ∧ t.pe.presented = (s.pe.presented.map fun p => { p with waste := true })
        ∧ t.lp = { s.lp with parcels := forsaken } ∧ t.br = s.br ∧ t.re = s.re ∧ t.os = s.os ∧ t.jl = s.jl
        ∧ t.hi = s.hi ∧ t.fm = s.fm)
    ∧ (c.state = .applying ∨ (∃ r, c.state = .terminal r) ∨ c.state = .printing ∧ c.marks.withdrawn = true → t = s))

/-- ABORT (R9, R34, R85, R86, R105): ABT with the number of jobs in slots enters the report queue, the open context, its
assembly and every job are gone with the references they held, no band is FILLING or READY, nothing renders, no parcel
entry or apply wait is left, no MISS is owed for them, and a presented label is waste with no copy; counters, settings and
the save in progress stay. -/
def Obligations.AbortDiscardsEveryJob : Prop :=
  ∀ s : State, Takes .abort formNone () s →
    ∃ t, exec .abort s = .next t
      ∧ t.jl.reports[s.jl.reports.length]? = some (.abt s.jq.jobs.length)
      ∧ t.jl.context = .none ∧ t.jq.jobs = []
      ∧ t.os = s.jq.jobs.foldl releaseJob (abandonContext (removeRecord s)).os
      ∧ (s.jl.context = .job ∨ s.jq.assembly = none → t.jq.assembly = none)
      ∧ (∀ b ∈ t.br.bands, b.state ≠ .filling ∧ b.state ≠ .ready) ∧ t.br.fill = s.br.fill
      ∧ t.re = { cursor := .idle, context := none }
      ∧ t.lp = { s.lp with parcels := [], cursor := 0, applyWait := none }
      ∧ (s.pe.label = none → t.pe.presented = s.pe.presented.map fun _ => { copy := none, waste := true })
      ∧ (s.pe.label = none → t.pe.pause = s.pe.pause ∧ t.fm = s.fm)
      ∧ t.cb = s.cb ∧ t.ss = s.ss ∧ t.stu.active = s.stu.active

/-- The five counts of the DONE report of a FINISHED job add up to its copy count plus its MISSED-LATE copies (R79). -/
def Obligations.DoneCountsAddUp : Prop :=
  ∀ (j : Job), j.finished = true → ∃ a m w v f serials,
    doneReport j = .done j.tag a m w v f serials
      ∧ a + m + w + v + f = j.copies.length + countResults (· == .missedLate) j.copies
      ∧ (serials = none ↔ j.firstSerial = none ∨ j.lastSerial = none)

/-! ## Rendering and bar codes (Chapters 3, 6 and 7) -/

/-- BEGIN_COPY (R62, R77, R92 to R94): the earliest WAITING copy becomes RENDERING; its counters are read before any
steps, and with every field laid out band 0 is allocated to it as the first FREE band after the fill position,
FILLING; where a counter it refers to is exhausted (R63) the copy becomes FAILED with no band and no counter changed;
where a field cannot be laid out it becomes FAILED with no band, the values read staying consumed (R64, R93), with
their serial recorded. Only a BAR field cannot be laid out: one whose text is unfit for its symbology (R109), whose
human-readable line is wider than its symbol (R119), or whose occupied rectangle reaches past the label (R51, R120).
-/
def Obligations.BeginCopyValidates : Prop :=
  (∀ (s : State) (id : CopyId) (j : Job) (fmt : Format) (b : Nat), s.powered = true → s.re.cursor = .idle →
    nextFreeBand s = some b → nextRenderCopy s = some id → jobOf s id.tag = some j →
    pinnedFormat s j.format = some fmt →
    (∀ read cb c, serveCounters fmt.fields s.cb = some (read, cb) → layCopy s j id fmt read = some c →
      let band : Band :=
        { state := .filling, owner := some id, index := some 0, used := some (min 64 fmt.length),
          lines := (bandOf s b).lines }
      exec .beginCopy s = .next { recordSerial id.tag read (setCopyState id .rendering (takeGeometry s)) with
        cb := cb
        br := { bands := s.br.bands.setIfInBounds b band, fill := b }
        re := { cursor := .filling, context := some { c with nextIndex := 1, filling := some b } } }
      ∧ c.copy = id ∧ c.length = fmt.length ∧ c.width = fmt.width ∧ c.bands = (fmt.length + 63) / 64
      ∧ read.map (·.1) = referredCounters fmt.fields ∧ ∀ p ∈ read, p.2 = counterOf s.cb p.1)
    ∧ (serveCounters fmt.fields s.cb = none → s.pe.engine ≠ .idle → (s.jq.jobs.map (·.tag)).Nodup →
      ∃ t, exec .beginCopy s = .next t ∧ t.cb = s.cb ∧ t.br = s.br ∧ t.re = s.re ∧ t.pe.engine = s.pe.engine
        ∧ (copyOf t id = none ∨ ∃ k, copyOf t id = some k ∧ k.state = .terminal .failed ∧ k.bound = false))
    ∧ (∀ read cb, serveCounters fmt.fields s.cb = some (read, cb) → layCopy s j id fmt read = none →
      s.pe.engine ≠ .idle → (s.jq.jobs.map (·.tag)).Nodup →
      ∃ t, exec .beginCopy s = .next t ∧ t.cb = cb ∧ t.br = s.br ∧ t.re = s.re ∧ t.pe.engine = s.pe.engine
        ∧ (copyOf t id = none ∨ ∃ k, copyOf t id = some k ∧ k.state = .terminal .failed ∧ k.bound = false)
        ∧ ((∃ x ∈ j.copies, x.number ≠ id.number ∧ x.state.isTerminal = false) →
          (∃ k, copyOf t id = some k ∧ k.state = .terminal .failed ∧ k.bound = false) ∧ t.jl = s.jl
          ∧ ∃ x, jobOf t id.tag = some x
            ∧ (∀ p ∈ read.head?, x.firstSerial = some (j.firstSerial.getD p.2.value)
              ∧ x.lastSerial = some p.2.value))))
  ∧ (∀ (s : State) (id : CopyId) (j : Job) (fmt : Format) (read : List (Nat × Counter)),
    (layCopy s j id fmt read = none ↔ ∃ f ∈ fmt.fields, layField s j read fmt.length fmt.width f = none)
    ∧ ∀ f : Field,
      (∀ sym src m w h r check hr, f.body = .bar sym src m w h r check hr →
        let text := sourceText j.items read src
        let u := symbolWidth (barElements sym m w r check text)
        let v := match hr with
          | none => h
          | some name => h + fontHeight s (pinnedObject j name .font)
        (layField s j read fmt.length fmt.width f = none ↔
          fitText sym text = false
            ∨ (∃ name, hr = some name ∧ u < textAdvance s (pinnedObject j name .font) (hrText sym check text))
            ∨ fmt.width < f.x + (occupied f.rot u v).1 ∨ fmt.length < f.y + (occupied f.rot u v).2))
      ∧ ((∀ sym src m w h r check hr, f.body ≠ .bar sym src m w h r check hr) →
        layField s j read fmt.length fmt.width f ≠ none))

/-- FILL_COMPLETION and WAIT_BAND_ALLOCATION (R89, R90, R95 to R97): the filled band becomes READY with its lines
composed; where the copy has further bands the next one is allocated, FILLING, or, with no band FREE, RE waits for one
and allocates it in its own event; after the last band the copy is RENDERED and the render ends; a fill completion
also decides the boundary of a label of the copy that is HALTED with no pause reason, STARVED (R102); stated, for the
fill, with the engine not IDLE. -/
def Obligations.BandsFilledInOrder : Prop :=
  ∀ (s : State) (c : RenderContext), s.powered = true → s.re.context = some c →
    let next (n : Nat) : Band :=
      { state := .filling, owner := some c.copy, index := some c.nextIndex,
        used := some (min 64 (c.length - 64 * c.nextIndex)), lines := (bandOf s n).lines }
    (∀ (b i u : Nat), s.re.cursor = .filling → c.filling = some b → b < 16 →
      (bandOf s b).index = some i → (bandOf s b).used = some u → s.pe.engine ≠ .idle →
      let done : Band := { bandOf s b with state := .ready, lines := composeBand s c i u }
      let answers (t : State) : Prop :=
        (s.pe.engine ≠ .halted → exec .fillCompletion s = .next t)
        ∧ (s.pe.engine = .halted → s.pe.pause.isEmpty = false → exec .fillCompletion s = .next t)
        ∧ (∀ l, s.pe.engine = .halted → s.pe.pause.isEmpty = true → s.pe.label = some l →
          (l.copy = some c.copy → l.phase = .print → exec .fillCompletion s = .next (decideBoundary t))
          ∧ (l.copy ≠ some c.copy → exec .fillCompletion s = .next t))
      (∀ n, c.nextIndex < c.bands →
        (ringOrder s.br.fill).find? (fun x => (bandOf s x).state == .free) = some n → n ≠ b →
        answers { s with
          br := { bands := (s.br.bands.setIfInBounds b done).setIfInBounds n (next n), fill := n }
          re := { cursor := .filling, context := some { c with nextIndex := c.nextIndex + 1, filling := some n } } })
      ∧ (c.nextIndex < c.bands → (∀ n, n < 16 → (bandOf s n).state ≠ .free) →
        answers { s with
          br := { s.br with bands := s.br.bands.setIfInBounds b done }
          re := { cursor := .waitBand, context := some { c with filling := none } } })
      ∧ (c.bands ≤ c.nextIndex →
        ∃ t, answers t
          ∧ t = { mapCopy c.copy (fun k => if k.state = .rendering then { k with state := .rendered } else k) s with
            br := { s.br with bands := s.br.bands.setIfInBounds b done }
            re := { cursor := .idle, context := none } }
          ∧ ∀ k, copyOf s c.copy = some k → k.state = .rendering →
            copyOf t c.copy = some { k with state := .rendered }))
    ∧ (∀ n : Nat, s.re.cursor = .waitBand → nextFreeBand s = some n →
      exec .waitBandAllocation s = .next { takeGeometry s with
        br := { bands := s.br.bands.setIfInBounds n (next n), fill := n }
        re := { cursor := .filling, context := some { c with nextIndex := c.nextIndex + 1, filling := some n } } })
    ∧ (∀ (i u k : Nat) (x : Fin 832), k < 64 → ∃ line, (composeBand s c i u)[k]? = some line
      ∧ line.getLsbD x = (if k < u then labelDot s c x (64 * i + k) else false)
      ∧ (c.width ≤ x → line.getLsbD x = false))

/-- Rotation (R43): a frame dot (u, v) that its field marks lands on the label dot the table gives for the field's
rotation, and no other label dot is in the field's dot set; each lies in the occupied rectangle, whose width and height
are the frame's or these exchanged and whose least corner is the origin; a frame with no width or no height gives an
empty set. -/
def Obligations.RotationPlacesDots : Prop :=
  ∀ (s : State) (f : LaidField),
    let place (u v : Nat) : Nat × Nat :=
      match f.rot with
      | .r0 => (f.x + u, f.y + v)
      | .r90 => (f.x + f.frameV - 1 - v, f.y + u)
      | .r180 => (f.x + f.frameU - 1 - u, f.y + f.frameV - 1 - v)
      | .r270 => (f.x + v, f.y + f.frameU - 1 - u)
    (∀ u v, u < f.frameU → v < f.frameV → inDotSet s f (place u v).1 (place u v).2 = frameMarks s f u v)
    ∧ (∀ x y, inDotSet s f x y = true →
      ∃ u v, u < f.frameU ∧ v < f.frameV ∧ frameMarks s f u v = true ∧ place u v = (x, y))
    ∧ (∀ x y, inDotSet s f x y = true →
      f.x ≤ x ∧ f.y ≤ y
        ∧ (f.rot = .r0 ∨ f.rot = .r180 → x < f.x + f.frameU ∧ y < f.y + f.frameV)
        ∧ (f.rot = .r90 ∨ f.rot = .r270 → x < f.x + f.frameV ∧ y < f.y + f.frameU))
    ∧ (f.frameU = 0 ∨ f.frameV = 0 → ∀ x y, inDotSet s f x y = false)

/-- The symbols and the width of a bar code (R108, R110 to R117): a C128 symbol has 11 modules for the start, for each
data or switch symbol and for the check, and 13 for the stop, every symbol value being 0 to 106; the start is that of
the opening run, the symbols after it spell the text, a run of digits is carried in set C or in set B as R111 to R113
decide, and the check value is the weighted sum of R114 (a digit pair 95 to 98 is log entry 49); an I25 symbol has
four narrow elements, six narrow and four wide ones for each pair of an even number of digits, and one wide and two
narrow ones; its check digit makes the weighted sum of R115 a multiple of 10, and a 0 on the left makes the count of
digits even. -/
def Obligations.BarCodeWidths : Prop :=
  (∀ (m w r : Nat) (check : Bool) (t : Text), fitText .c128 t = true →
    symbolWidth (barElements .c128 m w r check t) = (11 * ((c128Symbols t).2.length + 2) + 13) * m
      ∧ (∀ v ∈ c128Sequence t, v ≤ 106))
  -- the start, the symbols and the check value
  ∧ (∀ t : Text, fitText .c128 t = true →
    let start := (c128Symbols t).1
    let vs := (c128Symbols t).2
    c128Sequence t = start :: vs ++ [(start + ((vs.zipIdx 1).map fun x => x.2 * x.1).sum) % 103, 106]
    ∧ start = (if 4 ≤ t.length ∧ (t.take 4).all isDigit = true then 105 else 104)
    ∧ c128Reads (start == 105) vs = some t
    ∧ (∀ run rest : Text, t = run ++ rest → run.all isDigit = true → (∀ ch ∈ rest.head?, isDigit ch = false) →
      4 ≤ run.length →
      ∃ more, vs = digitPairs (run.take (2 * (run.length / 2)))
          ++ (if run.length % 2 = 1 then 100 :: (run.drop (2 * (run.length / 2))).map (fun ch => ch.toNat - 32)
            else if rest = [] then [] else [100]) ++ more
        ∧ (rest = [] → more = []))
    ∧ (∀ (before : Text) (ch : Byte) (run rest : Text), t = before ++ [ch] ++ run ++ rest → isDigit ch = false →
      run ≠ [] → run.all isDigit = true → (∀ x ∈ rest.head?, isDigit x = false) →
      ∃ more, vs = (c128Symbols (before ++ [ch])).2
          ++ (if 6 ≤ run.length ∨ 4 ≤ run.length ∧ rest = [] then
              (if run.length % 2 = 0 then 99 :: digitPairs run
                else (run.take 1).map (fun x => x.toNat - 32) ++ 99 :: digitPairs (run.drop 1))
              ++ (if rest = [] then [] else [100])
            else run.map fun x => x.toNat - 32) ++ more
        ∧ (rest = [] → more = [])))
  ∧ (∀ (m w r : Nat) (check : Bool) (t : Text), fitText .i25 t = true →
    let ds := i25Digits check t
    ds.length % 2 = 0 ∧ (∀ d ∈ ds, d ≤ 9)
      ∧ symbolWidth (barElements .i25 m w r check t) = 4 * m + ds.length / 2 * (6 * m + 4 * w) + w + 2 * m)
  -- the check digit and the leading 0
  ∧ (∀ (check : Bool) (t : Text), fitText .i25 t = true →
    let data := t.map fun b => b.toNat - 48
    ∃ tail : List Nat, (check = false → tail = [])
      ∧ (check = true → ∃ c, tail = [c] ∧ c ≤ 9
        ∧ ((data.reverse.zipIdx.map fun x => if x.2 % 2 = 0 then 3 * x.1 else x.1).sum + c) % 10 = 0)
      ∧ i25Digits check t = (if (data ++ tail).length % 2 = 1 then [0] else []) ++ data ++ tail)

/-! ## Strobe energy and the print head (Chapter 8) -/

/-- The phases (R133), with the width they divide (R132): A and B take their 64ths rounded down and C the rest, so the
three add up to W; C is positive, and 4 µs at least, which W = 57 with HA = 24 and HB = 36 gives; the width is the formula's, clamped to 50 to 2000 µs, 57 µs at least
over the ranges of the settings, and is held with its phases. -/
def Obligations.PhasesShareWidth : Prop :=
  ∀ (e : Energy) (u : StrobeUnit), legalEnergy e →
    let p := computeStrobe e u
    (p.w : Int) = max 50 (min 2000 ((e.basew : Int) * (32 + e.dark) * (153 - tempC u) / 4096))
      ∧ p.a = p.w * e.ha / 64 ∧ p.b = p.w * e.hb / 64 ∧ p.c = p.w - p.a - p.b
      ∧ p.a + p.b + p.c = p.w ∧ p.w * 4 ≤ p.c * 64 ∧ 4 ≤ p.c ∧ 57 ≤ p.w ∧ p.w ≤ 2000
      ∧ strobePhases { e with ha := 24, hb := 36 } 57 = { w := 57, a := 21, b := 32, c := 4 }

/-- The history classes (R136), and the halves of a split line (R137, R138): each dot of a line that begins is in the
masks of its class, and its class's phases add up to A, A + B or W; a line of more than Nmax dots is shifted as six
masks, the first three holding the dots of groups 1 and 2 alone and the last three those of groups 3 and 4 alone, in
twice the strobe time, empty masks included. -/
def Obligations.MasksFollowHistory : Prop :=
  ∀ (d p1 p2 : Dots) (p : Strobe) (nmax tline : Nat) (x : Nat), x < 832 → p.a + p.b + p.c = p.w →
    let l := newLineStrobe d p1 p2 p nmax tline
    let whole := [maskA d, maskB d p1, maskC d p1 p2]
    let got (n : Nat) : Nat :=
      (if ((l.masks[n]?).getD 0).getLsbD x then p.a else 0) + (if ((l.masks[n + 1]?).getD 0).getLsbD x then p.b else 0)
        + (if ((l.masks[n + 2]?).getD 0).getLsbD x then p.c else 0)
    (maskA d).getLsbD x = d.getLsbD x
    ∧ (maskB d p1).getLsbD x = (d.getLsbD x && !p1.getLsbD x)
    ∧ (maskC d p1 p2).getLsbD x = (d.getLsbD x && !p1.getLsbD x && !p2.getLsbD x)
    ∧ (p1 = 0 → p2 = 0 → maskC d p1 p2 = d)
    ∧ (dotsOn d ≤ nmax → l.masks = whole ∧ l.strobeTime = strobeTimeOf p)
    ∧ (nmax < dotsOn d → l.masks.length = 6 ∧ l.strobeTime = 2 * strobeTimeOf p
      ∧ ∀ n m, whole[n]? = some m → ∃ a b, l.masks[n]? = some a ∧ l.masks[n + 3]? = some b
        ∧ a.getLsbD x = (decide (x < 416) && m.getLsbD x) ∧ b.getLsbD x = (decide (416 ≤ x) && m.getLsbD x))
    ∧ (let total := if nmax < dotsOn d then got 0 + got 3 else got 0
      total = if d.getLsbD x then if p1.getLsbD x then p.a else if p2.getLsbD x then p.a + p.b else p.w else 0)

/-- SHIFT_COMPLETION, STROBE_COMPLETION and CLOSING_COMPLETION (R135, R140, R141, R147): each shift makes the compare
it owes, and the first mismatch of a label, be it found in its closing shift, sets the defect flag and marks the copy,
if it has one, DEFECT; the strobe's end moves the history; the closing shift follows the last line strobed, which is
the line in progress of a stopped label, or, for a label withdrawn or aborted while HALTED, is made in that event (log entry 41); its
end makes the defect flag the label's verdict, and a label that stands at its target for it is presented
(FeedOutPresentsLabel says how). -/
def Obligations.ReadbackAndHistory : Prop :=
  (∀ (s : State) (l : LineStrobe) (m rb : Dots), s.powered = true → s.hi.line = some l → l.strobed = false →
    l.masks[l.shifted]? = some m →
    let s0 := takeGeometry s
    let hi : HeadInterface :=
      { s.hi with line := some { l with shifted := l.shifted + 1 }, lastMask := m, owed := s.hi.verdictDue }
    (s.hi.owed = false ∨ rb = s.hi.lastMask ∨ s.hi.defect = true →
      exec (.shiftCompletion rb) s = .next { s0 with hi := hi })
    ∧ (∀ c id, s.hi.owed = true → rb ≠ s.hi.lastMask → s.hi.defect = false → s.pe.label = some c → c.copy = some id →
      exec (.shiftCompletion rb) s = .next
        { addMark id (fun k => { k with defect := true }) s0 with hi := { hi with defect := true } })
    ∧ (s.hi.owed = true → rb ≠ s.hi.lastMask → s.hi.defect = false → (∀ c, s.pe.label = some c → c.copy = none) →
      exec (.shiftCompletion rb) s = .next { s0 with hi := { hi with defect := true } }))
  ∧ (∀ (s : State) (l : LineStrobe) (c : LabelContext), s.powered = true → s.hi.line = some l → l.strobed = false →
    l.masks.length ≤ l.shifted → s.pe.label = some c →
    let s0 := takeGeometry s
    let hi : HeadInterface := { s.hi with
      p2 := s.hi.p1, p1 := l.dots, line := some { l with strobed := true }
      power := if s.hi.offAfterStrobe then .off else s.hi.power, offAfterStrobe := false }
    (labelStopped s c = false → c.y + 1 ≠ c.lines → exec .strobeCompletion s = .next { s0 with hi := hi })
    ∧ (labelStopped s c = true ∨ c.y + 1 = c.lines → s.hi.verdictDue = true → s.hi.verdict = none →
      exec .strobeCompletion s = .next { s0 with hi := { hi with closing := true } })
    ∧ (labelStopped s c = true ∨ c.y + 1 = c.lines → s.hi.verdictDue = false →
      exec .strobeCompletion s = .next { s0 with hi := hi }))
  ∧ (∀ (s : State) (rb : Dots), s.powered = true → s.hi.closing = true →
    let s0 := takeGeometry s
    let closed (defect : Bool) : HeadInterface := { s.hi with
      closing := false, lastMask := 0, owed := false, defect := defect, verdict := some defect }
    let shown (r : State) : State := match s.pe.label with
      | some c => if c.arrived then present c r else r
      | none => r
    (s.hi.owed = false ∨ rb = s.hi.lastMask ∨ s.hi.defect = true →
      exec (.closingCompletion rb) s = .next (shown { s0 with hi := closed s.hi.defect }))
    ∧ (∀ c id, s.hi.owed = true → rb ≠ s.hi.lastMask → s.hi.defect = false → s.pe.label = some c → c.copy = some id →
      exec (.closingCompletion rb) s = .next
        (shown { addMark id (fun k => { k with defect := true }) s0 with hi := closed true }))
    ∧ (s.hi.owed = true → rb ≠ s.hi.lastMask → s.hi.defect = false → (∀ c, s.pe.label = some c → c.copy = none) →
      exec (.closingCompletion rb) s = .next (shown { s0 with hi := closed true })))
  -- a label stopped while HALTED
  ∧ (∀ (s : State) (l : LabelContext), s.pe.engine = .halted → s.pe.label = some l → l.phase = .print →
    s.hi.line = none → s.hi.verdictDue = true → s.hi.verdict = none →
    (∀ id c, l.copy = some id → copyOf s id = some c → c.state = .printing → c.marks.withdrawn = false →
      let t := withdrawCopy id s
      copyOf t id = some { c with marks := { c.marks with withdrawn := true } }
        ∧ (s.pe.pause.isEmpty = true → t.hi = { s.hi with closing := true } ∧ t.pe.engine = .feedingOut)
        ∧ (s.pe.pause.isEmpty = false →
          t.hi = { s.hi with closing := true, resumed := true } ∧ t.pe.engine = .halted))
    ∧ (Takes .abort formNone () s → ∃ t, exec .abort s = .next t
      ∧ (s.pe.pause.isEmpty = true → t.hi = { s.hi with closing := true } ∧ t.pe.engine = .feedingOut)
      ∧ (s.pe.pause.isEmpty = false →
        t.hi = { s.hi with closing := true, resumed := true } ∧ t.pe.engine = .halted)))

/-- SAMPLE_COMPLETION (R127 to R131, R134): the reading is recorded, the width is computed from it into the buffered
width and a swap is pending; the warm and hot conditions follow a valid reading with their hysteresis, HEAD-WARM and
HEAD-HOT with the reason HOT follow them, and HEAD-SENSOR is active after an invalid reading only; stated where the
engine is neither IDLE nor HALTED, so that nothing resumes, and the reason HOT stands while HEAD-HOT is active. -/
def Obligations.SampleSetsTemperature : Prop :=
  ∀ (s : State) (r : Int), s.powered = true → s.pe.engine ≠ .idle → s.pe.engine ≠ .halted →
    s.pe.pause.hot = (faultOf s .headHot).active →
    ∃ (u : StrobeUnit) (fm : Vector FaultRecord 15) (jl : JobLink) (hot : Bool),
      exec (.sampleCompletion r) s = .next
        { s with stu := u, fm := fm, jl := jl, pe := { s.pe with pause := { s.pe.pause with hot := hot } } }
      ∧ u.reading = r ∧ u.active = s.stu.active ∧ u.width = s.stu.width ∧ u.swap = true
      ∧ u.buffered = computeStrobe s.stu.active u
      ∧ (-20 ≤ r ∧ r ≤ 120 → u.temp = r ∧ u.sensorValid = true
        ∧ u.warm = (decide (70 ≤ r) || (decide (65 < r) && s.stu.warm))
        ∧ u.hot = (decide (80 ≤ r) || (decide (70 < r) && s.stu.hot))
        ∧ fm[FaultKind.headWarm.index].active = u.warm ∧ fm[FaultKind.headHot.index].active = u.hot
        ∧ fm[FaultKind.headSensor.index].active = false ∧ hot = u.hot)
      ∧ (r < -20 ∨ 120 < r → u.temp = s.stu.temp ∧ u.sensorValid = false ∧ u.warm = s.stu.warm ∧ u.hot = s.stu.hot
        ∧ fm[FaultKind.headSensor.index].active = true ∧ fm[FaultKind.headSensor.index].latched = true
        ∧ hot = s.pe.pause.hot)

/-- SETTLE_COMPLETION and IDLE_TIMER_EXPIRY (R143, R144): the settle's end turns the head ON and starts the idle timer
of an IDLE engine, or decides the boundary before line 0 of a label that waits for the head; the timer's expiry turns
the head OFF. -/
def Obligations.HeadPowerFollows : Prop :=
  (∀ s : State, s.powered = true → s.hi.power = .settling →
    (s.pe.engine = .idle → exec .settleCompletion s = .next
      { takeGeometry s with hi := { s.hi with power := .on, idleTimer := some s.ss.settings.idle } })
    ∧ (s.pe.engine = .printing → s.hi.line = none → exec .settleCompletion s = .next
      (decideBoundary { s with hi := { s.hi with power := .on } }))
    ∧ (s.pe.engine ≠ .idle → s.pe.engine ≠ .printing → exec .settleCompletion s = .next
      { s with hi := { s.hi with power := .on } }))
  ∧ (∀ (s : State) (n : Nat), s.powered = true → s.hi.idleTimer = some n →
    exec .idleTimerExpiry s = .next { takeGeometry s with hi := { s.hi with power := .off, idleTimer := none } })

/-! ## Media drive and print engine (Chapter 9) -/

/-- CAL, a calibration's MEDIA_STEP, and CALIBRATION_SUCCESS (R153 to R155). CAL on an IDLE engine begins a
calibration of GAP or MARK stock, completes one of CONT stock at once, ending CAL-FAIL's condition as any success does
(the model's reading, log entry 23) and leaving the idle timer as it is (log entry 56), and is otherwise refused with
BUSY; FEED begins one on an uncalibrated engine (origin PANEL), and so does the label start that GO's removal of the
last reason allows (origin AUTO). Each step is counted and its edge recorded, with the level that the sensor then
reads as its operand (log entry 4); 96 steps after the second capture CALIBRATION_SUCCESS, an event of its own (log
entry 18), makes the pitch, sense and next top the measured ones, offers CAL pitch and leaves the engine IDLE. At the
step at which a failure is known the engine is IDLE and uncalibrated with pitch and sense as before, CAL-FAIL is
raised, CAL FAIL offered, and the copy of an AUTO calibration FAILED; stated where a pause reason holds back the label
that could follow. -/
def Obligations.CalibrationLearnsPitch : Prop :=
  let begun (origin : CalOrigin) (copy : Option CopyId) (s : State) : State := { s with
    hi := { s.hi with idleTimer := none }
    pe := { s.pe with
      engine := .calibrating, calibrated := false, violations := 0, stepTime := 1250, lastCapture := none
      lastGapStart := none, tops := []
      cal := some { origin := origin, copy := copy, steps := 0, edges := [] } } }
  (∀ s : State, Takes .cal formNone () s →
    let s0 := removeRecord s
    (s.pe.engine = .idle → s.pe.presented = none → calibrationAllowed s.pe.pause = true → s0.pe.stock ≠ .cont →
      exec .cal s = .next (begun .host none s0))
    ∧ (s.pe.engine = .idle → s.pe.presented = none → calibrationAllowed s.pe.pause = true → s0.pe.stock = .cont →
      s.pe.pause.isEmpty = false →
      exec .cal s = .next (offerReport (.cal (some s0.pe.contPitch)) (endCondition .calFail { s0 with
        pe := { s0.pe with
          pitch := s0.pe.contPitch, calibrated := true, tops := [s.pe.position], violations := 0 } })))
    ∧ (s.pe.engine ≠ .idle ∨ s.pe.presented ≠ none ∨ calibrationAllowed s.pe.pause = false →
      exec .cal s = .next (enterReport (.err .busy (some (Sys2Proof.txt "CAL"))) s0)))
  ∧ (∀ (s : State) (level : SensorLevel), s.powered = true → (faultOf s .mediaOut).active = false →
    (∀ k, noticeOwed s k = false) → s.ss.start ≠ .loading → s.ss.start ≠ .startRdy → s.pe.engine = .idle →
    s.pe.presented = none → calibrationAllowed s.pe.pause = true → (takeGeometry s).pe.calibrated = false →
    (takeGeometry s).pe.stock ≠ .cont → exec (.feedKey level) s = .next (begun .panel none (takeGeometry s)))
  ∧ (∀ (s : State) (id : CopyId), Takes .go formNone () s → s.pe.engine = .idle → s.pe.presented = none →
    s.pe.pause = { host := true } → nextPrintCopy s = some id → renderReady s id = true →
    (s.lp.on = true → s.ss.settings.mode = .trigger → ∃ c, copyOf s id = some c ∧ c.bound = true) →
    (faultOf s .calFail).active = false →
    let s0 := removeRecord s
    s0.pe.calibrated = false → s0.pe.stock ≠ .cont →
    exec .go s = .next (begun .auto (some id) { s0 with pe := { s0.pe with pause := {} } }))
  ∧ (∀ (s : State) (c : Calibration) (level : SensorLevel), s.powered = true → s.pe.engine = .calibrating →
    s.pe.cal = some c → calibrationArrived s c = false → s.pe.position < 2147483647 →
    let p := s.pe.position + 1
    let edge := s.pe.furthest < p ∧ level ≠ s.pe.sensor ∧ s.pe.stock ≠ .cont
    let c' : Calibration := { c with
      steps := c.steps + 1, edges := if edge then c.edges ++ [{ position := p, level := level }] else c.edges }
    (c'.judge ≠ .failed → exec (.mediaStep level) s = .next { s with pe := { s.pe with
      position := p, furthest := max s.pe.furthest p, sensor := level, cal := some c' } })
    ∧ (c'.judge = .failed → s.pe.pause.isEmpty = false → s.ss.settings.media = s.pe.stock →
      s.ss.settings.pitch = s.pe.contPitch →
      ∃ t, exec (.mediaStep level) s = .next t
        ∧ t.pe = { s.pe with
          position := p, furthest := max s.pe.furthest p, sensor := level, cal := none, calibrated := false
          engine := .idle, stepTime := 0 }
        ∧ (faultOf t .calFail).active = true ∧ (faultOf t .calFail).latched = true
        ∧ (c.copy = none → t.jl = (offerReport (.cal none) (raiseFault .calFail s)).jl ∧ t.jq = s.jq ∧ t.br = s.br)
        ∧ (∀ id j k, c.copy = some id → jobOf s id.tag = some j →
          (∃ x ∈ j.copies, x.number ≠ id.number ∧ x.state.isTerminal = false) → copyOf s id = some k →
          k.state = .rendering ∨ k.state = .rendered →
          copyOf t id = some { k with state := .terminal .failed, bound := false })))
  ∧ (∀ c : Calibration, c.judge = .failed ↔
    (3 ≤ c.edges.length ∧ c.gapLevel = none)
      ∨ (∃ a b, c.captures = some (a, b) ∧ (b - a < 104 ∨ 2400 < b - a))
      ∨ (c.captures = none ∧ 3000 ≤ c.steps))
  ∧ (∀ (s : State) (c : Calibration) (s1 s2 : Int) (g : SensorLevel), s.powered = true → s.pe.engine = .calibrating →
    s.pe.cal = some c → c.judge = .found s1 s2 g → s2 + 96 ≤ s.pe.position → s.pe.pause.isEmpty = false →
    s.ss.settings.media = s.pe.stock → s.ss.settings.pitch = s.pe.contPitch →
    ∃ t, exec .calibrationSuccess s = .next t ∧ 104 ≤ s2 - s1 ∧ s2 - s1 ≤ 2400
      ∧ t.pe = { s.pe with
        pitch := (s2 - s1).toNat, sense := if g = .low then .lowGap else .highGap, calibrated := true
        lastCapture := some s2, tops := [s2 + 96], cal := none, engine := .idle, stepTime := 0 }
      ∧ t.hi = { s.hi with
        idleTimer := if s.hi.power = .on then some s.ss.settings.idle else s.hi.idleTimer }
      ∧ (faultOf t .calFail).active = false ∧ t.jl = (offerReport (.cal (some (s2 - s1).toNat)) s).jl
      ∧ t.jq = s.jq ∧ t.br = s.br ∧ t.lp = s.lp ∧ t.os = s.os)

/-- FEED_KEY, a FEED move's MEDIA_STEP and FEED_MOVE_COMPLETION (R169): with MEDIA-OUT clear, FEED on an IDLE
calibrated engine of GAP or MARK stock removes the next top and begins a FEED move, on any engine that is not IDLE it
does nothing, and during start-up nothing, while in a soft reset it acts on the calibration that stands (R204); at its
target the move ends with the engine IDLE, in an event of its own unless the move begins there (log entry 18); each
step takes its edge (R151; log entry 44), and the gap-lost guard (R165; log entry 25) ends the move with the engine IDLE and uncalibrated,
MEDIA-OUT raised with its reason; stated, for the completion, where a pause reason or a presented label holds back the
label that could follow. -/
def Obligations.FeedKeyMovesMedia : Prop :=
  (∀ (s : State) (level : SensorLevel), s.powered = true → (faultOf s .mediaOut).active = false →
    (∀ k, noticeOwed s k = false) →
    let s0 := takeGeometry s
    (∀ n tops, s.ss.start ≠ .loading → s.ss.start ≠ .startRdy → s.pe.engine = .idle → s.pe.presented = none →
      s.pe.pause.media = false → s0.pe.calibrated = true → s0.pe.stock ≠ .cont → s0.pe.tops = n :: tops → (∀ m, tops.head? = some m →
        s.pe.position < m) →
      exec (.feedKey level) s = .next { s0 with
        hi := { s.hi with idleTimer := none }
        pe := { s0.pe with
          engine := .feedingOut, tops := tops, feedMove := some n, stepTime := 125000 / effectiveSpeed s } })
    ∧ (s.pe.engine ≠ .idle → exec (.feedKey level) s = .next s)
    ∧ (s.ss.start = .loading ∨ s.ss.start = .startRdy → exec (.feedKey level) s = .next s))
  ∧ (∀ (s : State) (n m : Int), s.powered = true → s.pe.engine = .feedingOut → s.pe.label = none →
    s.pe.feedMove = some n → s.pe.stock ≠ .cont → s.pe.tops.head? = some m → m ≤ s.pe.position →
    s.pe.presented ≠ none ∨ s.pe.pause.isEmpty = false →
    s.ss.settings.media = s.pe.stock → s.ss.settings.pitch = s.pe.contPitch →
    exec .feedMoveCompletion s = .next { s with
      pe := { s.pe with engine := .idle, stepTime := 0, feedMove := none }
      hi := { s.hi with idleTimer := if s.hi.power = .on then some s.ss.settings.idle else s.hi.idleTimer } })
  ∧ (∀ (s : State) (n : Int) (level : SensorLevel), s.powered = true → s.pe.engine = .feedingOut → s.pe.label = none →
    s.pe.feedMove = some n → s.pe.stock ≠ .cont → (∀ m, s.pe.tops.head? = some m → s.pe.position < m) →
    s.pe.position < 2147483647 → (∀ k, noticeOwed s k = false) →
    let lost (pe : PrintEngine) : Prop :=
      pe.calibrated = true ∧ pe.tops = [] ∧ n + (3 * s.pe.pitch / 2 : Nat) ≤ s.pe.position + 1
    (∀ pe : PrintEngine, Stepped level s.pe pe → ¬ lost pe → exec (.mediaStep level) s = .next { s with pe := pe })
    ∧ (∀ pe : PrintEngine, Stepped level s.pe pe → lost pe →
      ∃ t, exec (.mediaStep level) s = .next t ∧ t.pe.engine = .idle ∧ t.pe.feedMove = none ∧ t.pe.label = none
        ∧ t.pe.calibrated = false ∧ t.pe.tops = [] ∧ t.pe.lastCapture = none ∧ t.pe.lastGapStart = none
        ∧ t.pe.position = s.pe.position + 1 ∧ t.pe.pitch = s.pe.pitch ∧ t.pe.sense = s.pe.sense
        ∧ t.pe.pause = { s.pe.pause with media := true }
        ∧ t.hi = { s.hi with
          idleTimer := if s.hi.power = .on then some s.ss.settings.idle else s.hi.idleTimer }
        ∧ (faultOf t .mediaOut).active = true ∧ (faultOf t .mediaOut).latched = true
        ∧ t.jl = (raiseFault .mediaOut s).jl ∧ t.jq = s.jq ∧ t.lp = s.lp))

/-- The boundary before line y (R159, R161, R162): the first case of the table that applies decides, whatever reached
the boundary. The line that begins (R134 to R138, R146) is the band's line y strobed with the history of the label,
cleared after a halt, the active width after any swap and the active SPLIT, as MasksFollowHistory says of such a line;
from then on a verdict is due (R141). A feed-out that follows goes to the next top and PEEL more on calibrated sensed
stock, where that top is known, and otherwise to the label's top, its pitch and PEEL more; PEEL is the setting when
the feed-out begins (log entry 45), the step time that of the begin or resume (log entry 52); with the media at or
beyond the target the label, unless it awaits its verdict, is presented in the event (log entry 18). -/
def Obligations.BoundaryTable : Prop :=
  (∀ (s : State) (l : LabelContext), s.pe.label = some l →
    (labelStopped s l = true → s.pe.pause.isEmpty = true → decideBoundary s = startFeedOut l s)
    ∧ (labelStopped s l = true → s.pe.pause.isEmpty = false → decideBoundary s = { s with
        pe := { s.pe with engine := .halted, stepTime := 0 }, hi := { s.hi with resumed := true } })
    ∧ (labelStopped s l = false → l.y = l.lines → decideBoundary s = startFeedOut l (freeLabelBands l s))
    ∧ (labelStopped s l = false → l.y ≠ l.lines →
        s.pe.pause.isEmpty = false ∨ l.copy.bind (fun id => bandForLine s id l.y) = none →
        decideBoundary s = { s with
          pe := { s.pe with engine := .halted, stepTime := 0 }, hi := { s.hi with resumed := true } })
    ∧ (∀ id b, labelStopped s l = false → l.y ≠ l.lines → s.pe.pause.isEmpty = true → l.copy = some id →
        bandForLine s id l.y = some b →
        (l.y = 0 → s.hi.power ≠ .on → decideBoundary s = { s with pe := { s.pe with engine := .printing } })
        ∧ (l.y ≠ 0 ∨ s.hi.power = .on →
          let stu : StrobeUnit := if s.stu.swap then { s.stu with width := s.stu.buffered, swap := false } else s.stu
          let p1 : Dots := if s.hi.resumed then 0 else s.hi.p1
          let p2 : Dots := if s.hi.resumed then 0 else s.hi.p2
          let tline : Nat := 125000 / effectiveSpeed s
          ∃ t x, decideBoundary s = t
            ∧ t = { s with
              br := { s.br with bands := s.br.bands.setIfInBounds b { bandOf s b with state := .printing } }
              pe := { s.pe with engine := .printing, label := some { l with band := some b }, stepTime := tline }
              stu := stu
              hi := { s.hi with p1 := p1, p2 := p2, resumed := false, verdictDue := true, line := some x } }
            ∧ x = newLineStrobe ((bandOf s b).lines.getD (l.y % 64) 0) p1 p2 stu.width stu.active.split tline
            ∧ x.dots = (bandOf s b).lines.getD (l.y % 64) 0 ∧ x.shifted = 0 ∧ x.strobed = false
            ∧ x.phases = stu.width ∧ x.nmax = stu.active.split ∧ x.tline = tline
            ∧ (bandOf t b).state = .printing ∧ (bandOf s b).owner = some id ∧ (bandOf s b).index = some (l.y / 64))))
  ∧ (∀ (s : State) (l : LabelContext),
    let l' : LabelContext :=
      { l with phase := .feedOut, peel := if l.phase = .print then s.ss.settings.peel else l.peel }
    let target : Option Int :=
      if s.pe.calibrated = true ∧ s.pe.stock ≠ .cont then s.pe.tops.head?.map (· + (l'.peel : Int))
      else some (l.top + l.pitch + l'.peel)
    let t : State := { s with pe := { s.pe with
      engine := .feedingOut, label := some l', stepTime := 125000 / effectiveSpeed s } }
    ((∀ n, target = some n → s.pe.position < n) → startFeedOut l s = t)
    ∧ (∀ n, target = some n → n ≤ s.pe.position → s.hi.verdictDue = true → s.hi.verdict = none →
      startFeedOut l s = { t with pe := { t.pe with label := some { l' with arrived := true } } })
    ∧ (∀ n, target = some n → n ≤ s.pe.position → s.hi.verdictDue = false ∨ s.hi.verdict ≠ none →
      (startFeedOut l s).pe.engine = .holding ∧ (startFeedOut l s).pe.label = none
        ∧ ∃ w, (startFeedOut l s).pe.presented = some { copy := l.copy, waste := w }))

/-- A label starts, backfeeds and has its lines completed. The label start (R126, R156, R157), tested last in the
event (log entry 21) by GO, the PAUSE key and HOLD's falling edge where they remove the last reason, by
FILL_COMPLETION, FEED_MOVE_COMPLETION and TAKEN: the next copy becomes PRINTING, its label takes the next top and L',
the pending energy becomes active, and the media goes back to the top or the boundary before line 0 is decided; an
uncalibrated engine on CONT stock calibrates first (log entries 23, 56), and with CAL-FAIL active waits.
BACKFEED_COMPLETION (R158) ends at the label's top, one move with no step of its own (log entry 19). LINE_COMPLETION
(R160) moves the media one step, takes its edge (R151, R152; which captures are checked is log entry 44), raises
SENSE-FLIP at the seventh violation, frees a band whose last printed line it was, and every band of the copy after
line L' − 1, counts the line and decides the boundary, unless the gap-lost guard (R165) trips, the media at its limit
or beyond it (log entry 25): then the engine is HALTED and uncalibrated with MEDIA-OUT and the copy's LOST mark (log
entry 34). Stated where no notice was owed before. -/
def Obligations.LinesAndBackfeedComplete : Prop :=
  -- the label start
  (∀ (s : State) (id : CopyId), s.pe.engine = .idle → s.pe.presented = none → s.pe.pause.isEmpty = true →
    nextPrintCopy s = some id → renderReady s id = true →
    (s.lp.on = true → s.ss.settings.mode = .trigger → ∃ c, copyOf s id = some c ∧ c.bound = true) →
    (∀ n tops, s.pe.calibrated = true → s.pe.tops = n :: tops →
      let s1 : State := { setCopyState id .printing s with
        stu := { s.stu with
          active := s.ss.settings.energy, width := computeStrobe s.ss.settings.energy s.stu
          buffered := computeStrobe s.ss.settings.energy s.stu, swap := false }
        hi := { s.hi with
          p1 := 0, p2 := 0, defect := false, owed := false, verdictDue := false, verdict := none, resumed := false
          idleTimer := none, power := if s.hi.power = .off then .settling else s.hi.power }
        pe := { s.pe with
          tops := if s.pe.stock = .cont then tops ++ [n + s.pe.pitch] else tops
          label := some
            { copy := some id, top := n, lines := min (copyLength s id) (s.pe.pitch - 8), y := 0, phase := .print,
              pitch := s.pe.pitch, peel := 0, arrived := false, band := none } } }
      (n < s.pe.position → testLabelStart s = { s1 with
        pe := { s1.pe with engine := .backfeeding, stepTime := 125000 / effectiveSpeed s1 } })
      ∧ (s.pe.position ≤ n → testLabelStart s = decideBoundary { s1 with pe := { s1.pe with engine := .printing } }))
    ∧ (s.pe.calibrated = false → (faultOf s .calFail).active = true → testLabelStart s = s)
    ∧ (s.pe.calibrated = false → (faultOf s .calFail).active = false → s.pe.stock = .cont →
      testLabelStart s = testLabelStart (offerReport (.cal (some s.pe.contPitch)) (endCondition .calFail { s with
        pe := { s.pe with
          pitch := s.pe.contPitch, calibrated := true, tops := [s.pe.position], violations := 0 } }))))
  ∧ (∀ s : State, Takes .go formNone () s → s.pe.engine = .idle → s.pe.pause = { host := true } →
    exec .go s = .next (testLabelStart { removeRecord s with pe := { (removeRecord s).pe with pause := {} } }))
  ∧ (∀ s : State, s.powered = true → s.ss.start = .running → s.pe.engine = .idle → s.pe.pause = { panel := true } →
    exec .pauseKey s = .next (testLabelStart { takeGeometry s with pe := { (takeGeometry s).pe with pause := {} } }))
  ∧ (∀ s : State, s.powered = true → s.lp.on = true → s.lp.hold = true → s.pe.engine = .idle →
    s.pe.pause = { line := true } →
    exec (.holdEdge false) s = .next (testLabelStart { takeGeometry s with
      lp := { s.lp with hold := false }, pe := { (takeGeometry s).pe with pause := {} } }))
  ∧ (∀ (s : State) (c : RenderContext) (b i u : Nat), s.powered = true → s.re.cursor = .filling →
    s.re.context = some c → c.filling = some b → (bandOf s b).index = some i → (bandOf s b).used = some u →
    c.bands ≤ c.nextIndex → s.pe.engine = .idle →
    let done : Band := { bandOf s b with state := .ready, lines := composeBand s c i u }
    exec .fillCompletion s = .next (testLabelStart
      { mapCopy c.copy (fun k => if k.state = .rendering then { k with state := .rendered } else k) (takeGeometry s) with
        br := { s.br with bands := s.br.bands.setIfInBounds b done }
        re := { cursor := .idle, context := none } }))
  ∧ (∀ (s : State) (n m : Int), s.powered = true → s.pe.engine = .feedingOut → s.pe.label = none →
    s.pe.feedMove = some n → s.pe.stock ≠ .cont → s.pe.tops.head? = some m → m ≤ s.pe.position →
    s.ss.settings.media = s.pe.stock → s.ss.settings.pitch = s.pe.contPitch →
    exec .feedMoveCompletion s = .next (testLabelStart { s with
      pe := { s.pe with engine := .idle, stepTime := 0, feedMove := none }
      hi := { s.hi with idleTimer := if s.hi.power = .on then some s.ss.settings.idle else s.hi.idleTimer } }))
  ∧ (∀ (s : State) (p : Presented), s.powered = true → s.lp.taken = false → s.lp.applyWait = none →
    s.pe.presented = some p → p.waste = true → s.pe.engine = .holding → s.ss.settings.media = s.pe.stock →
    s.ss.settings.pitch = s.pe.contPitch →
    exec .taken s = .next (testLabelStart { s with
      lp := { s.lp with taken := true }
      hi := { s.hi with idleTimer := if s.hi.power = .on then some s.ss.settings.idle else s.hi.idleTimer }
      pe := { s.pe with engine := .idle, stepTime := 0, presented := none } }))
  -- the backfeed
  ∧ (∀ (s : State) (l : LabelContext), s.powered = true → s.pe.engine = .backfeeding → s.pe.label = some l →
    exec .backfeedCompletion s = .next
      (decideBoundary { s with pe := { s.pe with position := l.top, engine := .printing, stepTime := 0 } }))
  -- a line
  ∧ (∀ (s : State) (l : LabelContext) (x : LineStrobe) (level : SensorLevel), s.powered = true →
    s.hi.line = some x → x.strobed = true → s.pe.label = some l → s.pe.position < 2147483647 →
    (∀ k, noticeOwed s k = false) → s.pe.engine = .printing →
    let lost (pe : PrintEngine) : Prop := pe.calibrated = true ∧ pe.stock ≠ .cont ∧ pe.tops = []
      ∧ l.top + (3 * l.pitch / 2 : Nat) ≤ s.pe.position + 1
    (∀ pe : PrintEngine, Stepped level s.pe pe → ¬ lost pe →
      let s1 : State := { s with hi := { s.hi with line := none }, pe := { pe with stepTime := 0 } }
      (l.y % 64 ≠ 63 → l.y + 1 ≠ l.lines → labelStopped s l = false →
        exec (.lineCompletion level) s = .next (decideBoundary
          { s1 with pe := { s1.pe with label := some { l with y := l.y + 1 } } }))
      ∧ (∀ b, l.y % 64 = 63 → l.y + 1 ≠ l.lines → l.band = some b →
        exec (.lineCompletion level) s = .next (decideBoundary
          { freeBand b s1 with pe := { s1.pe with label := some { l with y := l.y + 1, band := none } } }))
      ∧ (∀ id, l.y + 1 = l.lines → l.copy = some id →
        ∃ t, exec (.lineCompletion level) s = .next (decideBoundary t)
          ∧ t.pe = { s1.pe with label := some { l with y := l.y + 1, band := none } } ∧ t.hi = s1.hi ∧ t.jq = s.jq
          ∧ (∀ b, bandOf t b =
            if l.band = some b ∨ (bandOf s b).owner = some id then
              { bandOf s b with state := .free, owner := none, index := none, used := none }
            else bandOf s b)
          ∧ t.re = (if underRender id s then { cursor := .idle, context := none } else s.re)))
    ∧ (∀ pe : PrintEngine, Stepped level s.pe pe → lost pe →
      ∃ t l', exec (.lineCompletion level) s = .next t ∧ t.pe.engine = .halted ∧ t.pe.label = some l' ∧ l'.y = l.y + 1
        ∧ l'.copy = l.copy ∧ t.pe.calibrated = false ∧ t.pe.tops = [] ∧ t.pe.lastCapture = none
        ∧ t.pe.lastGapStart = none ∧ t.pe.position = s.pe.position + 1 ∧ t.pe.pause = { s.pe.pause with media := true }
        ∧ t.hi = { s.hi with line := none, resumed := true }
        ∧ (faultOf t .mediaOut).active = true ∧ (faultOf t .mediaOut).latched = true
        ∧ t.jl = (raiseFault .mediaOut s).jl
        ∧ ∀ id c, l.copy = some id → copyOf s id = some c → c.state = .printing →
          copyOf t id = some { c with marks := { c.marks with lost := true } })
    ∧ (∀ g c : Int, s.pe.furthest < s.pe.position + 1 → level ≠ s.pe.sensor → s.pe.stock ≠ .cont →
      s.pe.calibrated = true → level ≠ s.pe.sense.gapLevel → s.pe.lastGapStart = some g → s.pe.lastCapture = some c →
      c < g → g - c ≤ s.pe.position + 1 - g → 6 ≤ s.pe.violations →
      s.pe.position + 1 < l.top + (3 * l.pitch / 2 : Nat) → l.y % 64 ≠ 63 → l.y + 1 ≠ l.lines →
      labelStopped s l = false →
      exec (.lineCompletion level) s = .next (decideBoundary (raiseFault .senseFlip { s with
        hi := { s.hi with line := none }
        pe := { s.pe with
          position := s.pe.position + 1, furthest := s.pe.position + 1, sensor := level
          sense := if s.pe.sense = .lowGap then .highGap else .lowGap
          violations := 0, lastCapture := none, lastGapStart := none, tops := [], stepTime := 0
          label := some { l with y := l.y + 1 } } }))))

/-- MEDIA_STEP of a feed-out, FEED_OUT_COMPLETION and the CLOSING_COMPLETION of a label that awaits it (R75, R142,
R162, R163): short of its known target the feed-out steps on; each step takes its edge (R151, R152; which captures are checked is log entry 44),
a capture makes the target known where the top list was empty, and the gap-lost guard (R165), which trips at its limit
or beyond it (log entry 25), leaves the engine HALTED in the feed-out, uncalibrated, with MEDIA-OUT and the copy's LOST mark; the completion at the target is an event of its own (log entry
18); there a label that still awaits its verdict stays, to be presented at its closing completion, and another is
presented: the engine HOLDING, a copy without marks PRESENTED, one with marks MISSED-LATE, FAILED or WASTED on a waste
label, and a label without a copy waste. A bound copy that ends makes its entry FORSAKEN (R76). A clean verdict sets
the defect count to 0; a defect verdict, that of a mismatch first found in the closing shift included, adds 1, raises
HEAD-DATA, and at the second in a row HEAD-FAULT with its reason, and leaves what the copy's marks make of the copy
and the label. -/
def Obligations.FeedOutPresentsLabel : Prop :=
  (∀ (s : State) (l : LabelContext) (target : Int), s.powered = true → s.pe.engine = .feedingOut →
    s.pe.label = some l → l.arrived = false → feedTarget s l = some target → s.pe.position < target →
    s.pe.position < 2147483647 → (∀ k, noticeOwed s k = false) → s.pe.tops ≠ [] →
    exec (.mediaStep s.pe.sensor) s = .next { s with pe := { s.pe with
      position := s.pe.position + 1, furthest := max s.pe.furthest (s.pe.position + 1) } })
  -- a step with its edge and the guard
  ∧ (∀ (s : State) (l : LabelContext) (level : SensorLevel), s.powered = true → s.pe.engine = .feedingOut →
    s.pe.label = some l → l.arrived = false → (∀ target, feedTarget s l = some target → s.pe.position < target) →
    s.pe.position < 2147483647 → (∀ k, noticeOwed s k = false) →
    let limit : Int := l.top + (3 * l.pitch / 2 : Nat)
    let lost (pe : PrintEngine) : Prop :=
      pe.calibrated = true ∧ pe.stock ≠ .cont ∧ pe.tops = [] ∧ limit ≤ s.pe.position + 1
    (∀ pe : PrintEngine, Stepped level s.pe pe → ¬ lost pe →
      exec (.mediaStep level) s = .next { s with pe := pe }
      ∧ ∀ n ns, pe.calibrated = true → pe.stock ≠ .cont → pe.tops = n :: ns →
        feedTarget { s with pe := pe } l = some (n + (l.peel : Int)) ∧ (s.pe.tops = [] → n = s.pe.position + 97))
    ∧ (∀ pe : PrintEngine, Stepped level s.pe pe → lost pe →
      ∃ t, exec (.mediaStep level) s = .next t
        ∧ t.pe = { pe with
          engine := .halted, stepTime := 0, calibrated := false, tops := [], lastCapture := none, lastGapStart := none
          pause := { s.pe.pause with media := true } }
        ∧ t.hi = { s.hi with resumed := true } ∧ (faultOf t .mediaOut).active = true
        ∧ (faultOf t .mediaOut).latched = true ∧ t.jl = (raiseFault .mediaOut s).jl ∧ t.lp = s.lp ∧ t.br = s.br
        ∧ ∀ id c, l.copy = some id → copyOf s id = some c → c.state = .printing →
          copyOf t id = some { c with marks := { c.marks with lost := true } })
    ∧ (∀ g c : Int, s.pe.furthest < s.pe.position + 1 → level ≠ s.pe.sensor → s.pe.stock ≠ .cont →
      s.pe.calibrated = true → level ≠ s.pe.sense.gapLevel → s.pe.lastGapStart = some g → s.pe.lastCapture = some c →
      c < g → g - c ≤ s.pe.position + 1 - g → 6 ≤ s.pe.violations → s.pe.position + 1 < limit →
      exec (.mediaStep level) s = .next (raiseFault .senseFlip { s with pe := { s.pe with
        position := s.pe.position + 1, furthest := s.pe.position + 1, sensor := level
        sense := if s.pe.sense = .lowGap then .highGap else .lowGap
        violations := 0, lastCapture := none, lastGapStart := none, tops := [] } })))
  ∧ (∀ (s : State) (l : LabelContext) (target : Int), s.powered = true → s.pe.engine = .feedingOut →
    s.pe.label = some l → l.arrived = false → feedTarget s l = some target → target ≤ s.pe.position →
    (s.hi.verdictDue = false ∨ s.hi.verdict ≠ none → exec .feedOutCompletion s = .next (present l s)) ∧
    (s.hi.verdictDue = true → s.hi.verdict = none → exec .feedOutCompletion s = .next
      { s with pe := { s.pe with label := some { l with arrived := true } } })
    ∧ (s.hi.verdictDue = false ∨ s.hi.verdict = some false → s.hi.verdict ≠ some true →
      (∀ k, noticeOwed s k = false) →
      let forsaken (id : CopyId) : List Parcel := s.lp.parcels.map fun p =>
        if p.copy = some id ∧ p.state = .bound then { p with state := .forsaken } else p
      let s1 (waste : Bool) : State := { s with
        hi := { s.hi with
          verdict := none, verdictDue := false, owed := false
          defectCount := if s.hi.verdict = some false then 0 else s.hi.defectCount }
        pe := { s.pe with
          engine := .holding, label := none, presented := some { copy := l.copy, waste := waste }, stepTime := 0 } }
      (∀ id c, l.copy = some id → copyOf s id = some c → c.marks.isEmpty = true →
        exec .feedOutCompletion s = .next (setCopyState id .presented (s1 false)))
      ∧ (l.copy = none → exec .feedOutCompletion s = .next (s1 true))
      ∧ (∀ id c j, l.copy = some id → copyOf s id = some c → c.marks.isEmpty = false → jobOf s id.tag = some j →
        (∃ x ∈ j.copies, x.number ≠ id.number ∧ x.state.isTerminal = false) →
        (∀ k, s.pe.cal = some k → k.copy ≠ some id) →
        ∃ t, exec .feedOutCompletion s = .next t ∧ t.pe = (s1 true).pe ∧ t.hi = (s1 true).hi
          ∧ copyOf t id = some { c with
            bound := false
            state := .terminal (if c.marks.late then .missedLate else if c.marks.defect then .failed else .wasted) }
          ∧ t.lp = { s.lp with parcels := forsaken id }
          ∧ t.jl = s.jl ∧ t.fm = s.fm ∧ t.os = s.os))
    ∧ (s.hi.verdict = some true →
      let forsaken (id : CopyId) : List Parcel := s.lp.parcels.map fun p =>
        if p.copy = some id ∧ p.state = .bound then { p with state := .forsaken } else p
      ∃ t waste, exec .feedOutCompletion s = .next t ∧ t.pe.engine = .holding ∧ t.pe.label = none
        ∧ t.pe.presented = some { copy := l.copy, waste := waste }
        ∧ (l.copy = none → waste = true)
        ∧ (∀ id c, l.copy = some id → copyOf s id = some c → c.marks.isEmpty = false → waste = true
          ∧ ((∀ k, s.pe.cal = some k → k.copy ≠ some id) →
            (∃ j, jobOf s id.tag = some j ∧ ∃ x ∈ j.copies, x.number ≠ id.number ∧ x.state.isTerminal = false) →
            copyOf t id = some { c with
              bound := false
              state := .terminal (if c.marks.late then .missedLate else if c.marks.defect then .failed else .wasted) }
            ∧ t.lp = { s.lp with parcels := forsaken id }))
        ∧ (∀ id c, l.copy = some id → copyOf s id = some c → c.marks.isEmpty = true →
          waste = false ∧ copyOf t id = some { c with state := .presented } ∧ t.lp = s.lp)
        ∧ t.hi = { s.hi with
          verdict := none, verdictDue := false, owed := false, defectCount := min 2 (s.hi.defectCount + 1) }
        ∧ (faultOf t .headData).active = true ∧ (faultOf t .headData).latched = true
        ∧ (s.hi.defectCount = 1 → (faultOf t .headFault).active = true ∧ (faultOf t .headFault).latched = true
          ∧ t.pe.pause = { s.pe.pause with headFault := true })
        ∧ (s.hi.defectCount ≠ 1 → (faultOf t .headFault).active = (faultOf s .headFault).active
          ∧ (faultOf t .headFault).latched = (faultOf s .headFault).latched ∧ t.pe.pause = s.pe.pause)))
  ∧ (∀ (s : State) (l : LabelContext) (rb : Dots) (id : CopyId) (c : Copy), s.powered = true →
    s.pe.engine = .feedingOut → s.pe.label = some l → l.arrived = true → s.hi.closing = true →
    s.hi.owed = false ∨ rb = s.hi.lastMask → s.hi.defect = false → l.copy = some id → copyOf s id = some c →
    c.marks.isEmpty = true → (∀ k, noticeOwed s k = false) →
    exec (.closingCompletion rb) s = .next { setCopyState id .presented s with
      hi := { s.hi with
        closing := false, lastMask := 0, verdict := none, verdictDue := false, owed := false, defectCount := 0 }
      pe := { s.pe with
        engine := .holding, label := none, presented := some { copy := some id, waste := false }, stepTime := 0 } })
  ∧ (∀ (s : State) (l : LabelContext) (rb : Dots) (id : CopyId) (c : Copy), s.powered = true →
    s.pe.engine = .feedingOut → s.pe.label = some l → l.arrived = true → s.hi.closing = true →
    s.hi.owed = true → rb ≠ s.hi.lastMask → s.hi.defect = false → l.copy = some id → copyOf s id = some c →
    c.state = .printing → (∀ k, s.pe.cal = some k → k.copy ≠ some id) →
    (∃ j, jobOf s id.tag = some j ∧ ∃ x ∈ j.copies, x.number ≠ id.number ∧ x.state.isTerminal = false) →
    let forsaken : List Parcel := s.lp.parcels.map fun p =>
      if p.copy = some id ∧ p.state = .bound then { p with state := .forsaken } else p
    ∃ t, exec (.closingCompletion rb) s = .next t ∧ t.pe.engine = .holding ∧ t.pe.label = none
      ∧ t.pe.presented = some { copy := some id, waste := true }
      ∧ copyOf t id = some { c with
        bound := false, marks := { c.marks with defect := true }
        state := .terminal (if c.marks.late then .missedLate else .failed) }
      ∧ t.lp = { s.lp with parcels := forsaken }
      ∧ t.hi.defectCount = min 2 (s.hi.defectCount + 1) ∧ t.hi.verdict = none ∧ t.hi.closing = false
      ∧ (faultOf t .headData).active = true ∧ (faultOf t .headData).latched = true)

/-- No dot line begins while a pause reason is present (R159, R168), whatever the command: where a command leaves a line
in progress that has shifted no mask and was not in progress before it, the pause set is empty. -/
def Obligations.NoLineBeginsWhilePaused : Prop :=
  ∀ (i : Instr) (s t : State) (l : LineStrobe), exec i s = .next t → t.hi.line = some l → l.shifted = 0 →
    l.strobed = false → s.hi.line ≠ some l → t.pe.pause.isEmpty = true

/-- PAUSE, GO and the PAUSE key (R3, R167, R168): HOST and PANEL join and leave the pause set and no other reason
does; the record leaves the buffer, and CTS rises with 1536 or more positions free; when its last reason leaves by
either, a HALTED label of phase PRINT has its boundary decided, and the feed-out of one of phase FEED-OUT resumes. -/
def Obligations.PauseReasonsFollowRecords : Prop :=
  (∀ s : State, Takes .pause formNone () s → exec .pause s = .next { takeGeometry s with
      jl := { s.jl with
        records := s.jl.records.tail
        cts := if 1536 ≤ bufferFree { s.jl with records := s.jl.records.tail } then true else s.jl.cts }
      pe := { (takeGeometry s).pe with pause := { s.pe.pause with host := true } } })
  ∧ (∀ s : State, Takes .go formNone () s →
    let s1 : State :=
      { removeRecord s with pe := { (removeRecord s).pe with pause := { s.pe.pause with host := false } } }
    (s1.pe.pause.isEmpty = false ∨ s.pe.engine ≠ .idle ∧ s.pe.engine ≠ .halted → exec .go s = .next s1)
    ∧ (∀ l, s.pe.pause.host = true → s1.pe.pause.isEmpty = true → s.pe.engine = .halted → s.pe.label = some l →
      l.phase = .print → exec .go s = .next (decideBoundary s1))
    ∧ (∀ l, s.pe.pause.host = true → s1.pe.pause.isEmpty = true → s.pe.engine = .halted → s.pe.label = some l →
      l.phase = .feedOut → exec .go s = .next (startFeedOut l s1)))
  ∧ (∀ s : State, s.powered = true → s.ss.start ≠ .loading → s.ss.start ≠ .startRdy →
    (s.pe.pause.panel = false → exec .pauseKey s = .next { takeGeometry s with
      pe := { (takeGeometry s).pe with pause := { s.pe.pause with panel := true } } })
    ∧ (s.pe.pause.panel = true → s.pe.engine ≠ .idle → s.pe.engine ≠ .halted → exec .pauseKey s = .next
      { s with pe := { s.pe with pause := { s.pe.pause with panel := false } } })
    ∧ (s.pe.pause.panel = true → s.pe.engine = .halted →
      let s2 : State := { s with pe := { s.pe with pause := { s.pe.pause with panel := false } } }
      (s2.pe.pause.isEmpty = false → exec .pauseKey s = .next s2)
      ∧ (∀ l, s2.pe.pause.isEmpty = true → s.pe.label = some l →
        (l.phase = .print → exec .pauseKey s = .next (decideBoundary s2))
        ∧ (l.phase = .feedOut → exec .pauseKey s = .next (startFeedOut l s2)))))

/-! ## The line port (Chapter 10) -/

/-- LINE_ON and LINE_OFF (R172, R173): the port turned ON places the cursor before the earliest bindable copy, clears
both pulse outputs, and takes HOLD's level as the reason LINE; turned OFF it drops the waiting trigger, the entries,
every binding, the pulses and the reason LINE, and keeps the apply wait with its timer running (log entry 27); a
record that asks for the state the port is in changes nothing; LINE OFF is stated where the engine is neither IDLE nor
HALTED. With the port ON, READY is high while a good label is presented, WASTE while a waste one is, and LINE-FAULT
while a kind routed to the line is active; with it OFF the three are low (R189, R197). -/
def Obligations.PortTurnsOnAndOff : Prop :=
  (∀ s : State, Takes .line formLine true s →
    (s.lp.on = false → exec .lineOn s = .next { removeRecord s with
      lp := { s.lp with
        on := true, cursor := cursorStart s, apply := { owed := 0, high := false }
        miss := { owed := 0, high := false } }
      pe := { (removeRecord s).pe with pause := { s.pe.pause with line := s.lp.hold || s.pe.pause.line } } })
    ∧ (s.lp.on = true → exec .lineOn s = .next (removeRecord s)))
  ∧ (∀ s : State, Takes .line formLine false s →
    (s.lp.on = true → s.pe.engine ≠ .idle → s.pe.engine ≠ .halted → exec .lineOff s = .next { removeRecord s with
      jq := { s.jq with jobs := s.jq.jobs.map fun j =>
        { j with copies := j.copies.map fun c => { c with bound := false } } }
      lp := { s.lp with
        on := false, window := none, parcels := [], cursor := cursorStart s
        applyWait := s.lp.applyWait.map fun w => { w with timer := true }
        apply := { owed := 0, high := false }, miss := { owed := 0, high := false } }
      pe := { s.pe with pause := { s.pe.pause with line := false } } })
    ∧ (s.lp.on = false → exec .lineOff s = .next (removeRecord s)))
  ∧ (∀ s : State,
    (readyOutput s = true ↔ s.lp.on = true ∧ ∃ p, s.pe.presented = some p ∧ p.waste = false)
    ∧ (wasteOutput s = true ↔ s.lp.on = true ∧ ∃ p, s.pe.presented = some p ∧ p.waste = true)
    ∧ (lineFaultOutput s = true ↔ s.lp.on = true
      ∧ ∃ k : FaultKind, (faultOf s k).active = true ∧ (routeOf s k = .line ∨ routeOf s k = .both)))

/-- TRIGGER_EDGE, HOLD_EDGE and FALLING_EDGE (R175 to R177): with the port ON a trigger opens its window, or ends the
other input's waiting trigger with LINE-CONFLICT, and HOLD's edges add and remove the reason LINE; with the port OFF an
edge sets the filtered level and does nothing else, as a falling edge of the other inputs always does; one of an input
that is low already is no event (log entry 26). -/
def Obligations.InputEdgesAct : Prop :=
  (∀ (s : State) (i : LineInput) (k : ParcelKind), s.powered = true → (i = .print ∧ k = .label ∨ i = .purge ∧ k = .purge) →
    s.lp.level i = false →
    let s0 := takeGeometry s
    (s.lp.on = false → exec (.triggerEdge i) s = .next { s0 with lp := s.lp.withLevel i true })
    ∧ (s.lp.on = true → s.lp.window = none → exec (.triggerEdge i) s = .next
      { s0 with lp := { s.lp.withLevel i true with window := some { kind := k, position := s.lp.conveyor } } })
    ∧ (∀ w, s.lp.on = true → s.lp.window = some w → w.kind ≠ k → exec (.triggerEdge i) s = .next
      (raiseFault .lineConflict { s0 with lp := { s.lp.withLevel i true with window := none } })))
  ∧ (∀ s : State, s.powered = true →
    let s0 := takeGeometry s
    (s.lp.on = true → s.lp.hold = false → exec (.holdEdge true) s = .next
      { s0 with lp := { s.lp with hold := true }, pe := { s0.pe with pause := { s.pe.pause with line := true } } })
    ∧ (s.lp.on = true → s.lp.hold = true → s.pe.engine ≠ .idle → s.pe.engine ≠ .halted →
      exec (.holdEdge false) s = .next
        { s with lp := { s.lp with hold := false }, pe := { s.pe with pause := { s.pe.pause with line := false } } })
    ∧ (∀ b, s.lp.on = false → s.lp.hold ≠ b →
      exec (.holdEdge b) s = .next { s0 with lp := { s.lp with hold := b } })
    ∧ (∀ i, i = .print ∨ i = .purge ∨ i = .taken →
      (s.lp.level i = true → exec (.fallingEdge i) s = .next { s0 with lp := s.lp.withLevel i false })
      ∧ (s.lp.level i = false → exec (.fallingEdge i) s = .next s)))

/-- CONFLICT_WINDOW_EXPIRY (R178 to R182): with room in the list and no entry OPEN the trigger's entry takes the next
sequence number; it stays OPEN where no copy is available, a LABEL entry is otherwise BOUND to the available copy, which
the cursor passes, and a PURGE entry leaves the list and withdraws that copy by the state it is in (CanVoidsQueuedJob gives
each state's effect), its job reported where that finishes it; with 8 entries the trigger is dropped, one MISS is owed and
LINE-OVERRUN raised; stated where the apply point is not reached yet and the engine is not IDLE. -/
def Obligations.TriggerMakesEntry : Prop :=
  ∀ (s : State) (w : ConflictWindow), s.powered = true → s.lp.window = some w →
    let e (copy : Option CopyId) (st : ParcelState) : Parcel :=
      { seq := s.lp.seq, kind := w.kind, trigger := w.position,
        apply := w.position + BitVec.ofNat 32 s.ss.settings.applyd, copy := copy, state := st }
    (s.lp.parcels.length < 8 → (∀ x ∈ s.lp.parcels, x.state ≠ .open) → s.pe.engine ≠ .idle →
      conveyorReached s.lp.conveyor (w.position + BitVec.ofNat 32 s.ss.settings.applyd) = false →
      (availableCopy s = none → exec .conflictWindowExpiry s = .next
        { s with lp := { s.lp with
          window := none, parcels := s.lp.parcels ++ [e none .open], seq := s.lp.seq + 1 } })
      ∧ (∀ i id, w.kind = .label → availableCopy s = some (i, id) → exec .conflictWindowExpiry s = .next
        { setBound id true s with lp := { s.lp with
          window := none, parcels := s.lp.parcels ++ [e (some id) .bound], seq := s.lp.seq + 1, cursor := i + 1 } }))
    ∧ (∀ i id, s.lp.parcels.length < 8 → (∀ x ∈ s.lp.parcels, x.state ≠ .open) → s.pe.engine ≠ .idle →
      w.kind = .purge → availableCopy s = some (i, id) → exec .conflictWindowExpiry s = .next
        (offerDone id.tag (withdrawCopy id { s with lp := { s.lp with
          window := none, seq := s.lp.seq + 1, cursor := i + 1 } })))
    ∧ (8 ≤ s.lp.parcels.length → exec .conflictWindowExpiry s = .next
      (raiseFault .lineOverrun { takeGeometry s with lp := { s.lp with
        window := none, miss := { s.lp.miss with owed := min 65535 (s.lp.miss.owed + 1) } } }))

/-- ENC_PULSE (R175, R184): the conveyor advances by one count; where it reaches the apply point of the first entry
that waits for it, an entry BOUND to a PRESENTED copy becomes APPLYING with its copy, one APPLY is owed and the apply
wait begins, its timer not yet running (log entry 27). Any other entry is removed with one MISS owed and LATE raised:
a FORSAKEN or OPEN one with no more, one BOUND to a copy not yet printed with that copy MISSED-UNPRINTED, its bands
freed, and its job's DONE offered before LATE's notice (log entry 21), one BOUND to a copy in PRINTING with that copy
unbound and marked LATE. No other entry acts before its own apply point; stated where the engine is not IDLE. -/
def Obligations.ApplyPointsHandled : Prop :=
  ∀ (s : State), s.powered = true → s.pe.engine ≠ .idle →
    let p := s.lp.conveyor + 1
    (s.lp.parcels.find? (·.awaitsApply) = none ∨
      (∃ e, s.lp.parcels.find? (·.awaitsApply) = some e ∧ conveyorReached p e.apply = false) →
      exec .encPulse s = .next { s with lp := { s.lp with conveyor := p } })
    ∧ (∀ (before : List Parcel) (e : Parcel) (behind : List Parcel), s.lp.parcels = before ++ e :: behind →
      (∀ x ∈ before, x.awaitsApply = false) → e.awaitsApply = true → conveyorReached p e.apply = true →
      (∀ x ∈ behind, conveyorReached p x.apply = false) →
      let missed : State := { s with lp := { s.lp with
        conveyor := p
        parcels := before ++ behind
        miss := { s.lp.miss with owed := min 65535 (s.lp.miss.owed + 1) } } }
      (∀ id c, e.state = .bound → e.copy = some id → copyOf s id = some c → c.state = .presented →
        exec .encPulse s = .next { setCopyState id .applying s with lp := { s.lp with
          conveyor := p
          parcels := before ++ { e with state := .applying } :: behind
          apply := { s.lp.apply with owed := min 65535 (s.lp.apply.owed + 1) }
          applyWait := some { copy := id, timer := false } } })
      ∧ (e.state = .forsaken ∨ e.state = .open → exec .encPulse s = .next (raiseFault .late missed))
      ∧ (∀ id c, e.state = .bound → e.copy = some id → copyOf s id = some c →
        c.state = .waiting ∨ c.state = .rendering ∨ c.state = .rendered →
        ∃ t, exec .encPulse s = .next t
          ∧ t = raiseFault .late (offerDone id.tag (endUnprinted id .missedUnprinted missed))
          ∧ (∀ j, jobOf s id.tag = some j → (∃ x ∈ j.copies, x.number ≠ id.number ∧ x.state.isTerminal = false) →
            copyOf t id = some { c with state := .terminal .missedUnprinted, bound := false }
              ∧ t.jl = (raiseFault .late s).jl
              ∧ ∀ b, bandOf t b =
                if (bandOf s b).owner = some id ∧ ((bandOf s b).state = .filling ∨ (bandOf s b).state = .ready) then
                  { bandOf s b with state := .free, owner := none, index := none, used := none }
                else bandOf s b))
      ∧ (∀ id c, e.state = .bound → e.copy = some id → copyOf s id = some c → c.state = .printing →
        ∃ t, exec .encPulse s = .next t
          ∧ t = raiseFault .late (addMark id (fun m => { m with late := true }) (setBound id false missed))
          ∧ copyOf t id = some { c with bound := false, marks := { c.marks with late := true } }))

/-- PULSE_BEGIN and PULSE_END (R186, R187): with the port ON, an output that is low and owes pulses goes high and owes one
fewer, the apply wait's timer starting with the last APPLY owed (log entry 27); a high output goes low; an output that
owes none begins no pulse. -/
def Obligations.PulsesGiven : Prop :=
  ∀ s : State, s.powered = true →
    let s0 := takeGeometry s
    (s.lp.on = true → s.lp.apply.high = false → 1 < s.lp.apply.owed → exec (.pulseBegin .apply) s = .next
      { s0 with lp := { s.lp with apply := { owed := s.lp.apply.owed - 1, high := true } } })
    ∧ (s.lp.on = true → s.lp.apply.high = false → s.lp.apply.owed = 1 → exec (.pulseBegin .apply) s = .next
      { s0 with lp := { s.lp with
        apply := { owed := 0, high := true }
        applyWait := s.lp.applyWait.map fun w => { w with timer := true } } })
    ∧ (s.lp.on = true → s.lp.miss.high = false → 0 < s.lp.miss.owed → exec (.pulseBegin .miss) s = .next
      { s0 with lp := { s.lp with miss := { owed := s.lp.miss.owed - 1, high := true } } })
    ∧ (s.lp.apply.owed = 0 → exec (.pulseBegin .apply) s = .next s)
    ∧ (s.lp.miss.owed = 0 → exec (.pulseBegin .miss) s = .next s)
    ∧ (s.lp.apply.high = true → exec (.pulseEnd .apply) s = .next
      { s0 with lp := { s.lp with apply := { s.lp.apply with high := false } } })
    ∧ (s.lp.miss.high = true → exec (.pulseEnd .miss) s = .next
      { s0 with lp := { s.lp with miss := { s.lp.miss with high := false } } })

/-- TAKEN and APPLY_WAIT_EXPIRY (R82, R187, R188): with an apply wait TAKEN makes its copy APPLIED and the label
leaves, an APPLY still owed to it withdrawn (log entry 27), and the expiry makes it WASTED, the label waste, and
raises APPLY-TIMEOUT; with no wait a waste label leaves, and so does a good one, its copy WASTED and its entry
FORSAKEN; with nothing presented TAKEN raises LINE-SEQUENCE and is ignored; stated where the copy's job has another
copy that is not terminal, and a pause reason holds back the next label. -/
def Obligations.TakenRemovesLabel : Prop :=
  (∀ s : State, s.powered = true → s.lp.taken = false → s.lp.applyWait = none →
    (s.pe.presented = none →
      exec .taken s = .next (raiseFault .lineSequence { takeGeometry s with lp := { s.lp with taken := true } }))
    ∧ (∀ p, s.pe.presented = some p → s.pe.engine = .holding → s.pe.pause.isEmpty = false →
      s.ss.settings.media = s.pe.stock → s.ss.settings.pitch = s.pe.contPitch →
      let hi : HeadInterface :=
        { s.hi with idleTimer := if s.hi.power = .on then some s.ss.settings.idle else s.hi.idleTimer }
      let pe : PrintEngine := { s.pe with engine := .idle, stepTime := 0, presented := none }
      let forsaken (id : CopyId) : List Parcel := s.lp.parcels.map fun x =>
        if x.copy = some id ∧ x.state = .bound then { x with state := .forsaken } else x
      (p.waste = true → exec .taken s = .next { s with lp := { s.lp with taken := true }, hi := hi, pe := pe })
      ∧ (∀ id j c, p.waste = false → p.copy = some id → jobOf s id.tag = some j →
        (∃ x ∈ j.copies, x.number ≠ id.number ∧ x.state.isTerminal = false) → copyOf s id = some c →
        (∀ x, s.pe.cal = some x → x.copy ≠ some id) →
        ∃ t, exec .taken s = .next t
          ∧ copyOf t id = some { c with state := .terminal .wasted, bound := false }
          ∧ t.lp = { s.lp with taken := true, parcels := forsaken id } ∧ t.hi = hi ∧ t.pe = pe
          ∧ t.jl = s.jl ∧ t.fm = s.fm ∧ t.br = s.br ∧ t.os = s.os)))
  ∧ (∀ (s : State) (w : ApplyWait) (j : Job), s.powered = true → s.lp.applyWait = some w →
    jobOf s w.copy.tag = some j → (∃ c ∈ j.copies, c.number ≠ w.copy.number ∧ c.state.isTerminal = false) →
    (∃ c, copyOf s w.copy = some c) →
    (∀ e ∈ s.lp.parcels, e.copy = some w.copy → e.state = .applying) →
    (∀ c, s.pe.cal = some c → c.copy ≠ some w.copy) →
    (s.lp.taken = false → s.pe.engine = .holding → s.pe.pause.isEmpty = false →
      s.ss.settings.media = s.pe.stock → s.ss.settings.pitch = s.pe.contPitch →
      ∃ t c, exec .taken s = .next t ∧ copyOf t w.copy = some c ∧ c.state = .terminal .applied ∧ c.bound = false
        ∧ t.lp = { s.lp with
          taken := true, applyWait := none
          apply := { s.lp.apply with owed := if w.timer then s.lp.apply.owed else s.lp.apply.owed - 1 }
          parcels := changeFirst (fun e => e.state == .applying) (fun _ => none) s.lp.parcels }
        ∧ t.pe = { s.pe with engine := .idle, stepTime := 0, presented := none }
        ∧ t.jl = s.jl ∧ t.fm = s.fm ∧ t.br = s.br ∧ t.os = s.os)
    ∧ (w.timer = true →
      ∃ t c, exec .applyWaitExpiry s = .next t ∧ copyOf t w.copy = some c ∧ c.state = .terminal .wasted
        ∧ c.bound = false
        ∧ t.lp = { s.lp with
          applyWait := none
          parcels := changeFirst (fun e => e.state == .applying) (fun _ => none) s.lp.parcels }
        ∧ t.pe = { (takeGeometry s).pe with presented := s.pe.presented.map fun p => { p with waste := true } }
        ∧ t.fm = (raiseFault .applyTimeout s).fm ∧ t.jl = (raiseFault .applyTimeout s).jl
        ∧ (faultOf t .applyTimeout).active = true ∧ (faultOf t .applyTimeout).latched = true
        ∧ t.br = s.br ∧ t.os = s.os))

/-! ## Faults and status (Chapter 11) -/

/-- STAT and CLR (R193 to R195, R197, R198): STAT replies with the values as they stand and then clears every latched
event warning, and every latched condition warning whose condition has ended, and no other kind; CLR clears MEDIA-OUT with
the label level sensed, which it reads only while MEDIA-OUT is active and which is its operand (the model's choice, log
entry 4; on CONT stock too, log entry 58), and HEAD-FAULT with the defect count, each with its pause reason. After either no notice is owed: a kind routed
to the host whose latched flag and reported state differed has its notice in the queue or on the waiting list; and the
output LINE-FAULT follows the flags left; stated, for CLR, where the engine is neither IDLE nor HALTED. -/
def Obligations.StatAndClrClearFaults : Prop :=
  let notified (fm : Vector FaultRecord 15) (s t : State) : Prop :=
    (∀ k, noticeOwed t k = false)
    ∧ (∀ k : FaultKind, (routeOf s k).toHost = true → fm[k.index].latched ≠ (faultOf s k).reported →
      Report.flt k fm[k.index].latched ∈ t.jl.reports ∨ Report.flt k fm[k.index].latched ∈ t.jl.waiting)
    ∧ (lineFaultOutput t = true ↔ s.lp.on = true
      ∧ ∃ k : FaultKind, fm[k.index].active = true ∧ (routeOf s k = .line ∨ routeOf s k = .both))
  (∀ s : State, Takes .stat formNone () s →
    ∃ (fm : Vector FaultRecord 15) (jl : JobLink), exec .stat s = .next { removeRecord s with fm := fm, jl := jl }
      ∧ jl.reports[s.jl.reports.length]? = some (.sts
        { engine := s.pe.engine, pause := s.pe.pause, jobs := s.jq.jobs.length, readyBands := readyBands s,
          presented := s.pe.presented, reading := s.stu.reading, speed := effectiveSpeed s, pitch := s.pe.pitch,
          calibrated := (removeRecord s).pe.calibrated, portOn := s.lp.on, parcels := s.lp.parcels.length,
          faults := (FaultKind.all.filter fun k => (faultOf s k).latched).map fun k => (k, (faultOf s k).active) })
      ∧ notified fm s { removeRecord s with fm := fm, jl := jl }
      ∧ ∀ k : FaultKind,
        (if (faultOf s k).latched = true
            ∧ (k.group = .event ∨ k.group = .condition ∧ (faultOf s k).active = false) then
          fm[k.index].active = false ∧ fm[k.index].latched = false
        else fm[k.index].active = (faultOf s k).active ∧ fm[k.index].latched = (faultOf s k).latched))
  ∧ (∀ (s : State) (level : SensorLevel), Takes .clr formNone () s → s.pe.engine ≠ .idle → s.pe.engine ≠ .halted →
    let media := (faultOf s .mediaOut).active && level != s.pe.sense.gapLevel
    let head := (faultOf s .headFault).latched
    ∃ (fm : Vector FaultRecord 15) (jl : JobLink) (t : State), exec (.clr level) s = .next t
      ∧ t = { removeRecord s with
        fm := fm
        jl := jl
        hi := { s.hi with defectCount := if head then 0 else s.hi.defectCount }
        pe := { s.pe with
          sensor := if (faultOf s .mediaOut).active then level else s.pe.sensor
          pause := { s.pe.pause with
            media := !media && s.pe.pause.media, headFault := !head && s.pe.pause.headFault } } }
      ∧ notified fm s t
      ∧ ∀ k : FaultKind,
        (if k = .mediaOut ∧ media = true ∨ k = .headFault ∧ head = true then
          fm[k.index].active = false ∧ fm[k.index].latched = false
        else fm[k.index].active = (faultOf s k).active ∧ fm[k.index].latched = (faultOf s k).latched))

/-- The active and latched flags stay coherent (R191), and the reasons HOT, MEDIA and HEADFAULT stay present exactly while
their STOP kinds are active (R167, R192), whatever the command. -/
def Obligations.FaultsAndReasonsStayCoherent : Prop :=
  ∀ (i : Instr) (s t : State), flagsCoherent s → stopsPause s → exec i s = .next t → flagsCoherent t ∧ stopsPause t

/-! ## Settings and start-up (Chapters 12 and 13) -/

/-- SET (R2, R8, R125, R143, R170, R196, R200): a SET with no busy key writes every value, rounded and clamped, into the
settings record, the energy values into the pending set only; a changed RATE makes a rate switch pending that notes the
reports in the queue, a changed IDLE restarts a running idle timer, MEDIA and PITCH come into use at once, a changed MEDIA,
or a changed PITCH with MEDIA CONT, leaving the engine uncalibrated, a changed START tests the label start condition, and a
route that newly includes HOST has its kind's notice tested afresh; a SET with a busy key is refused whole with BUSY;
stated, for the effect, where no notice was owed. -/
def Obligations.SetWritesSettings : Prop :=
  (∀ (s : State) (items : List SetItem), Takes .set formSet items s →
    ((∃ x ∈ items, (x.needsIdle = true ∧ s.pe.engine ≠ .idle) ∨ (x.needsPortOff = true ∧ s.lp.on = true)) →
      exec .set s = .next (enterReport (.err .busy (some (Sys2Proof.txt "SET"))) (removeRecord s))))
  ∧ (∀ (s : State) (v : Int), Takes .set formSet [.speed v] s → s.pe.engine ≠ .idle → (∀ k, noticeOwed s k = false) →
    s.ss.settings.rate = s.jl.rate → s.ss.settings.energy.ha ≤ 56 → 4 ≤ s.ss.settings.energy.hb →
    s.ss.settings.energy.hb ≤ 60 - s.ss.settings.energy.ha →
    exec .set s = .next { removeRecord s with ss := { s.ss with settings := { s.ss.settings with
      energy := { s.ss.settings.energy with speed := (max 50 (min 300 (v / 25 * 25))).toNat } } } })
  ∧ (∀ (s : State) (ha hb : Int), Takes .set formSet [.ha ha, .hb hb] s → s.pe.engine ≠ .idle →
    (∀ k, noticeOwed s k = false) → s.ss.settings.rate = s.jl.rate →
    ∃ a b : Nat, exec .set s = .next { removeRecord s with ss := { s.ss with settings := { s.ss.settings with
        energy := { s.ss.settings.energy with ha := a, hb := b } } } }
      ∧ (a : Int) = max 24 (min 56 ha) ∧ (b : Int) = max 4 (min (60 - (a : Int)) hb))
  ∧ (∀ (s : State) (v : Int), Takes .set formSet [.rate v] s → s.pe.engine ≠ .idle → (∀ k, noticeOwed s k = false) →
    s.ss.settings.energy.ha ≤ 56 → 4 ≤ s.ss.settings.energy.hb →
    s.ss.settings.energy.hb ≤ 60 - s.ss.settings.energy.ha → rateFor v ≠ s.jl.rate →
    rateFor v ∈ rates ∧ ((rateFor v : Int) ≤ v ∨ rateFor v = 9600) ∧ (∀ r ∈ rates, (r : Int) ≤ v → r ≤ rateFor v)
      ∧ (s.jl.reports ≠ [] → exec .set s = .next { removeRecord s with
        ss := { s.ss with settings := { s.ss.settings with rate := rateFor v } }
        jl := { (removeRecord s).jl with
          rateSwitch := some { rate := rateFor v, noted := s.jl.reports.length } } })
      ∧ (s.jl.reports = [] → exec .set s = .next { removeRecord s with
        ss := { s.ss with settings := { s.ss.settings with rate := rateFor v } }
        jl := { (removeRecord s).jl with rate := rateFor v, rateSwitch := none } }))
  ∧ (∀ (s : State) (item : SetItem), Takes .set formSet [item] s → legalEnergy s.ss.settings.energy →
    (∀ k, noticeOwed s k = false) → s.ss.settings.rate = s.jl.rate →
    (item.needsIdle = true → s.pe.engine = .idle) → (item.needsPortOff = true → s.lp.on = false) →
    let s0 := removeRecord s
    let old := s.ss.settings
    let wrote (x : Settings) : State := { s0 with ss := { s.ss with settings := x } }
    match item with
    | .dark v => exec .set s = .next (wrote { old with energy := { old.energy with dark := max (-16) (min 15 v) } })
    | .basew v =>
      exec .set s = .next (wrote { old with energy := { old.energy with basew := (max 200 (min 2000 v)).toNat } })
    | .split v =>
      exec .set s = .next (wrote { old with energy := { old.energy with split := (max 208 (min 832 v)).toNat } })
    | .idle v =>
      let n := (max 10 (min 600 v)).toNat
      exec .set s = .next { wrote { old with idle := n } with
        hi := { s.hi with idleTimer := if n = old.idle then s.hi.idleTimer else s.hi.idleTimer.map fun _ => n } }
    | .media m => exec .set s = .next { wrote { old with media := m } with
        pe := if m = old.media then s0.pe else { s0.pe with
          stock := m, calibrated := false, violations := 0, lastCapture := none, lastGapStart := none, tops := [] } }
    | .pitch v =>
      let n := (max 8 (min 2400 v)).toNat
      exec .set s = .next { wrote { old with pitch := n } with
        pe := { s0.pe with
          contPitch := n
          calibrated := if n ≠ old.pitch ∧ old.media = .cont then false else s0.pe.calibrated
          tops := if n ≠ old.pitch ∧ old.media = .cont then [] else s0.pe.tops } }
    | .peel v => exec .set s = .next (wrote { old with peel := (max 0 (min 240 v)).toNat })
    | .start v =>
      let n := (max 0 (min 16 v)).toNat
      exec .set s = .next (if n = old.start then wrote old else testLabelStart (wrote { old with start := n }))
    | .mode m => exec .set s = .next (wrote { old with mode := m })
    | .applyd v => exec .set s = .next (wrote { old with applyd := (max 1 (min 65535 v)).toNat })
    | .route k r => exec .set s = .next (offerNotice k { wrote { old with routes := old.routes.set k.index r } with
        fm := if r.toHost = true ∧ (routeOf s k).toHost = false then
            s.fm.set k.index { faultOf s k with reported := false }
          else s.fm })
    | .rate _ | .speed _ | .ha _ | .hb _ => True)

/-- SAVE, WRITE_COMPLETION, RESET and the power commands (R201 to R204). SAVE forms the image from the settings and
the counters and begins the write, or is refused with BUSY; its completion puts the image into the EEPROM, which holds
the old one until then (log entry 32), and power lost during a write leaves each byte old or new, an image that is bad
(log entry 10). RESET discards the jobs, turns the port OFF, clears the faults and every reason but PANEL, keeps
position, sense, pitch, calibration and tops, presents a label that stood at its target for its verdict as waste (log
entry 40), and reloads, or waits for the write and reloads at its completion, the reset in progress until RDY has
entered a full report queue; a rate that differs is switched to as by SET. Until then the calibration stands, also
where the engine becomes IDLE; a reloaded MEDIA or PITCH has its effect in the first event afterwards that finds the
engine IDLE (log entry 24). Power off keeps the model's state (log entry 30); power on gives every block its power-on
state, with an EEPROM, HRDY and a sensor level that are not the part's to change (log entries 5, 6) and bytes of the
block store that are free values (log entry 7); the load takes the image's values or, where it is bad, the defaults
and SETTINGS-LOST. -/
def Obligations.SettingsSavedAndLoaded : Prop :=
  (∀ s : State, Takes .save formNone () s →
    (s.ss.writing = false → exec .save s = .next { removeRecord s with
      ss := { s.ss with image := some (formImage s.ss.settings s.cb), writing := true } })
    ∧ (s.ss.writing = true →
      exec .save s = .next (enterReport (.err .busy (some (Sys2Proof.txt "SAVE"))) (removeRecord s))))
  ∧ (∀ (s : State) (x : List Byte), s.powered = true → s.ss.writing = true → s.ss.image = some x →
    (s.ss.start ≠ .resetWait → exec .writeCompletion s = .next
      { takeGeometry s with ss := { s.ss with writing := false, torn := false, eeprom := x } })
    ∧ (s.ss.start = .resetWait → s.jl.rateSwitch = none → s.jl.reports.length < 16 → s.jl.waiting = [] →
      ∃ t, exec .writeCompletion s = .next t ∧ t.ss.eeprom = x ∧ t.ss.writing = false ∧ t.ss.torn = false
        ∧ t.ss.start = .running ∧ t.pe = s.pe
        ∧ (∀ y cb, judgeImage x = some (y, cb) → t.ss.settings = y ∧ t.cb = cb ∧ t.stu.active = y.energy
          ∧ t.jl.reports[s.jl.reports.length]? = some (.rdy true)
          ∧ (y.rate ≠ s.jl.rate → s.jl.reports = [] → t.jl.rate = y.rate ∧ t.jl.rateSwitch = none)
          ∧ (y.rate ≠ s.jl.rate → s.jl.reports ≠ [] →
            t.jl.rate = s.jl.rate ∧ t.jl.rateSwitch = some { rate := y.rate, noted := s.jl.reports.length }))
        ∧ (judgeImage x = none → t.ss.settings = defaultSettings ∧ t.cb = Vector.replicate 8 defaultCounter
          ∧ t.stu.active = defaultEnergy ∧ t.jl.reports[s.jl.reports.length]? = some (.rdy false)
          ∧ faultOf t .settingsLost = { active := true, latched := true, reported := true }))
    ∧ (s.ss.start = .resetWait → 16 ≤ s.jl.reports.length → s.jl.waiting = [] →
      ∃ t, exec .writeCompletion s = .next t ∧ t.ss.eeprom = x ∧ t.ss.writing = false ∧ t.ss.start = .resetRdy
        ∧ t.pe = s.pe ∧ t.jl.reports = s.jl.reports
        ∧ (∀ y cb, judgeImage x = some (y, cb) →
          t.ss.settings = y ∧ t.cb = cb ∧ t.jl.waiting.head? = some (.rdy true))
        ∧ (judgeImage x = none → t.ss.settings = defaultSettings ∧ t.cb = Vector.replicate 8 defaultCounter
          ∧ t.jl.waiting.head? = some (.rdy false))))
  ∧ (∀ s : State, Takes .reset formNone () s → (∀ k, noticeOwed s k = false) →
    ∃ t, exec .reset s = .next t ∧ t.jq.jobs = [] ∧ t.jq.assembly = s.jq.assembly ∧ t.lp.on = false ∧ t.lp.parcels = []
      ∧ t.lp.applyWait = none ∧ t.lp.conveyor = s.lp.conveyor ∧ t.lp.seq = s.lp.seq
      ∧ t.pe.pause = { panel := s.pe.pause.panel } ∧ t.pe.position = s.pe.position ∧ t.pe.sense = s.pe.sense
      ∧ t.pe.pitch = s.pe.pitch ∧ t.pe.calibrated = (removeRecord s).pe.calibrated
      ∧ t.pe.tops = (removeRecord s).pe.tops ∧ t.pe.stock = (removeRecord s).pe.stock
      ∧ (∀ b ∈ t.br.bands, b.state ≠ .filling ∧ b.state ≠ .ready) ∧ t.re.cursor = .idle
      ∧ (∀ k : FaultKind, k ≠ .settingsLost → t.fm[k.index] = { active := false, latched := false, reported := false })
      ∧ (strobing s = false → t.hi.power = .off) ∧ t.hi.defectCount = 0 ∧ t.hi.closing = false
      ∧ (∀ l, s.pe.engine = .feedingOut → s.pe.label = some l → l.arrived = true →
        t.pe.engine = .holding ∧ t.pe.label = none ∧ t.pe.presented = some { copy := none, waste := true })
      ∧ (s.ss.writing = true → t.ss = { s.ss with start := .resetWait } ∧ t.cb = s.cb)
      ∧ (∀ x cb, s.ss.writing = false → loadedImage s.ss = some (x, cb) →
        t.ss.settings = x ∧ t.cb = cb ∧ t.stu.active = x.energy ∧ t.ss.start = .running
          ∧ t.jl.reports = s.jl.reports ++ [.rdy true]
          ∧ (x.rate ≠ s.jl.rate → s.jl.reports = [] → t.jl.rate = x.rate ∧ t.jl.rateSwitch = none)
          ∧ (x.rate ≠ s.jl.rate → s.jl.reports ≠ [] →
            t.jl.rate = s.jl.rate ∧ t.jl.rateSwitch = some { rate := x.rate, noted := s.jl.reports.length })
          ∧ (faultOf t .settingsLost).latched = false)
      ∧ (s.ss.writing = false → loadedImage s.ss = none →
        t.ss.settings = defaultSettings ∧ t.cb = Vector.replicate 8 defaultCounter ∧ t.stu.active = defaultEnergy
          ∧ t.ss.start = .running ∧ t.jl.reports = s.jl.reports ++ [.rdy false]
          ∧ faultOf t .settingsLost = { active := true, latched := true, reported := true }))
  ∧ (∀ s : State,
    let x := s.ss.settings
    let pe := (takeGeometry s).pe
    (s.pe.engine ≠ .idle → takeGeometry s = s)
    ∧ (s.ss.start = .resetWait ∨ s.ss.start = .resetRdy →
      takeGeometry s = s ∧ (enterIdle s).pe = { s.pe with engine := .idle, stepTime := 0 })
    ∧ (s.pe.engine = .idle → s.ss.start ≠ .resetWait → s.ss.start ≠ .resetRdy → pe.stock = x.media ∧ pe.contPitch = x.pitch
      ∧ (x.media = s.pe.stock → x.pitch = s.pe.contPitch ∨ x.media ≠ .cont →
        pe.calibrated = s.pe.calibrated ∧ pe.tops = s.pe.tops)
      ∧ (x.media ≠ s.pe.stock → pe.calibrated = false ∧ pe.tops = [] ∧ pe.violations = 0 ∧ pe.lastCapture = none
        ∧ pe.lastGapStart = none)
      ∧ (x.pitch ≠ s.pe.contPitch → x.media = .cont → pe.calibrated = false ∧ pe.tops = [])))
  ∧ (∀ s : State, s.powered = true → s.ss.writing = false →
    exec .powerLoss s = .next { s with powered := false })
  ∧ (∀ (s : State) (x : List Byte), s.powered = true → s.ss.writing = true → s.ss.image = some x →
    ∃ bytes : List Byte, exec .powerLoss s = .next
        { s with powered := false, ss := { s.ss with writing := false, torn := true, eeprom := bytes } }
      ∧ bytes.length = 256
      ∧ (∀ i, i < 256 → bytes[i]? = some (s.ss.eeprom.getD i 0xFF) ∨ bytes[i]? = some (x.getD i 0xFF))
      ∧ loadedImage { s.ss with writing := false, torn := true, eeprom := bytes } = none)
  ∧ (∀ s : State, s.powered = false ∨ s.ss.writing = false → exec .powerOn s = .next { State.reset with
      jl := { State.reset.jl with hrdy := s.jl.hrdy }
      pe := { State.reset.pe with sensor := s.pe.sensor }
      ss := { State.reset.ss with eeprom := s.ss.eeprom, torn := s.ss.torn }
      fresh := s.fresh + 1
      pending := s.pending })
  ∧ (∀ (s : State) (x : Settings) (cb : Vector Counter 8), s.powered = true → s.ss.start = .loading →
    s.jl.reports = [] → s.jl.waiting = [] → s.jl.rateSwitch = none → loadedImage s.ss = some (x, cb) →
    ∃ t, exec .loadCompletion s = .next t ∧ t.ss.settings = x ∧ t.cb = cb ∧ t.stu.active = x.energy
      ∧ t.jl.rate = x.rate ∧ t.ss.start = .running ∧ t.jl.reports.head? = some (.rdy true) ∧ t.os = s.os
      ∧ t.jq = s.jq ∧ t.lp = s.lp ∧ t.hi = s.hi)
  ∧ (∀ s : State, s.powered = true → s.ss.start = .loading →
    s.jl.reports = [] → s.jl.waiting = [] → s.jl.rateSwitch = none → loadedImage s.ss = none →
    ∃ t, exec .loadCompletion s = .next t ∧ t.ss.settings = defaultSettings
      ∧ t.cb = Vector.replicate 8 defaultCounter ∧ t.stu.active = defaultEnergy ∧ t.jl.rate = 38400
      ∧ t.ss.start = .running ∧ t.jl.reports.head? = some (.rdy false)
      ∧ faultOf t .settingsLost = { active := true, latched := true, reported := true })

/-- The stored image holds every key and counter (R209, R210): for every settings record SET can store and every counter
record CTR can program, the image that SAVE forms has 256 bytes and is judged good, and gives back the same values. -/
def Obligations.StoredImageReadsBack : Prop :=
  ∀ (x : Settings) (cb : Vector Counter 8), legalSettings x → legalCounters cb →
    (formImage x cb).length = 256 ∧ judgeImage (formImage x cb) = some (x, cb)
end

