-- ==== Sys2Proof/Laws/State.lean ====
section
/-! SUPPORT. The field lemmas of the named updates: for every update and every field of `State`, what the field then
holds, by definition. -/

namespace Sys2Proof.Machine

/-! ### `State.withPending` -/

@[simp] theorem State.withPending_powered (s : State) (q : List Instr) : (s.withPending q).powered = s.powered := rfl
@[simp] theorem State.withPending_jl (s : State) (q : List Instr) : (s.withPending q).jl = s.jl := rfl
@[simp] theorem State.withPending_os (s : State) (q : List Instr) : (s.withPending q).os = s.os := rfl
@[simp] theorem State.withPending_cb (s : State) (q : List Instr) : (s.withPending q).cb = s.cb := rfl
@[simp] theorem State.withPending_jq (s : State) (q : List Instr) : (s.withPending q).jq = s.jq := rfl
@[simp] theorem State.withPending_re (s : State) (q : List Instr) : (s.withPending q).re = s.re := rfl
@[simp] theorem State.withPending_br (s : State) (q : List Instr) : (s.withPending q).br = s.br := rfl
@[simp] theorem State.withPending_stu (s : State) (q : List Instr) : (s.withPending q).stu = s.stu := rfl
@[simp] theorem State.withPending_hi (s : State) (q : List Instr) : (s.withPending q).hi = s.hi := rfl
@[simp] theorem State.withPending_pe (s : State) (q : List Instr) : (s.withPending q).pe = s.pe := rfl
@[simp] theorem State.withPending_lp (s : State) (q : List Instr) : (s.withPending q).lp = s.lp := rfl
@[simp] theorem State.withPending_fm (s : State) (q : List Instr) : (s.withPending q).fm = s.fm := rfl
@[simp] theorem State.withPending_ss (s : State) (q : List Instr) : (s.withPending q).ss = s.ss := rfl
@[simp] theorem State.withPending_fresh (s : State) (q : List Instr) : (s.withPending q).fresh = s.fresh := rfl
@[simp] theorem State.withPending_pending (s : State) (q : List Instr) : (s.withPending q).pending = q := rfl

/-! ### `setContext` -/

@[simp] theorem setContext_powered (c : Context) (s : State) : (setContext c s).powered = s.powered := rfl
@[simp] theorem setContext_jl (c : Context) (s : State) : (setContext c s).jl = { s.jl with context := c } := rfl
@[simp] theorem setContext_os (c : Context) (s : State) : (setContext c s).os = s.os := rfl
@[simp] theorem setContext_cb (c : Context) (s : State) : (setContext c s).cb = s.cb := rfl
@[simp] theorem setContext_jq (c : Context) (s : State) : (setContext c s).jq = s.jq := rfl
@[simp] theorem setContext_re (c : Context) (s : State) : (setContext c s).re = s.re := rfl
@[simp] theorem setContext_br (c : Context) (s : State) : (setContext c s).br = s.br := rfl
@[simp] theorem setContext_stu (c : Context) (s : State) : (setContext c s).stu = s.stu := rfl
@[simp] theorem setContext_hi (c : Context) (s : State) : (setContext c s).hi = s.hi := rfl
@[simp] theorem setContext_pe (c : Context) (s : State) : (setContext c s).pe = s.pe := rfl
@[simp] theorem setContext_lp (c : Context) (s : State) : (setContext c s).lp = s.lp := rfl
@[simp] theorem setContext_fm (c : Context) (s : State) : (setContext c s).fm = s.fm := rfl
@[simp] theorem setContext_ss (c : Context) (s : State) : (setContext c s).ss = s.ss := rfl
@[simp] theorem setContext_fresh (c : Context) (s : State) : (setContext c s).fresh = s.fresh := rfl
@[simp] theorem setContext_pending (c : Context) (s : State) : (setContext c s).pending = s.pending := rfl

/-! ### `takeGeometry` -/

@[simp] theorem takeGeometry_powered (s : State) : (takeGeometry s).powered = s.powered := rfl
@[simp] theorem takeGeometry_jl (s : State) : (takeGeometry s).jl = s.jl := rfl
@[simp] theorem takeGeometry_os (s : State) : (takeGeometry s).os = s.os := rfl
@[simp] theorem takeGeometry_cb (s : State) : (takeGeometry s).cb = s.cb := rfl
@[simp] theorem takeGeometry_jq (s : State) : (takeGeometry s).jq = s.jq := rfl
@[simp] theorem takeGeometry_re (s : State) : (takeGeometry s).re = s.re := rfl
@[simp] theorem takeGeometry_br (s : State) : (takeGeometry s).br = s.br := rfl
@[simp] theorem takeGeometry_stu (s : State) : (takeGeometry s).stu = s.stu := rfl
@[simp] theorem takeGeometry_hi (s : State) : (takeGeometry s).hi = s.hi := rfl
@[simp] theorem takeGeometry_lp (s : State) : (takeGeometry s).lp = s.lp := rfl
@[simp] theorem takeGeometry_fm (s : State) : (takeGeometry s).fm = s.fm := rfl
@[simp] theorem takeGeometry_ss (s : State) : (takeGeometry s).ss = s.ss := rfl
@[simp] theorem takeGeometry_fresh (s : State) : (takeGeometry s).fresh = s.fresh := rfl
@[simp] theorem takeGeometry_pending (s : State) : (takeGeometry s).pending = s.pending := rfl

/-! ### `removeRecord` -/

@[simp] theorem removeRecord_powered (s : State) : (removeRecord s).powered = s.powered := rfl
@[simp] theorem removeRecord_jl (s : State) :
    (removeRecord s).jl = ctsAfterRemove { s.jl with records := s.jl.records.tail } := rfl
@[simp] theorem removeRecord_os (s : State) : (removeRecord s).os = s.os := rfl
@[simp] theorem removeRecord_cb (s : State) : (removeRecord s).cb = s.cb := rfl
@[simp] theorem removeRecord_jq (s : State) : (removeRecord s).jq = s.jq := rfl
@[simp] theorem removeRecord_re (s : State) : (removeRecord s).re = s.re := rfl
@[simp] theorem removeRecord_br (s : State) : (removeRecord s).br = s.br := rfl
@[simp] theorem removeRecord_stu (s : State) : (removeRecord s).stu = s.stu := rfl
@[simp] theorem removeRecord_hi (s : State) : (removeRecord s).hi = s.hi := rfl
@[simp] theorem removeRecord_pe (s : State) : (removeRecord s).pe = (takeGeometry s).pe := rfl
@[simp] theorem removeRecord_lp (s : State) : (removeRecord s).lp = s.lp := rfl
@[simp] theorem removeRecord_fm (s : State) : (removeRecord s).fm = s.fm := rfl
@[simp] theorem removeRecord_ss (s : State) : (removeRecord s).ss = s.ss := rfl
@[simp] theorem removeRecord_fresh (s : State) : (removeRecord s).fresh = s.fresh := rfl
@[simp] theorem removeRecord_pending (s : State) : (removeRecord s).pending = s.pending := rfl

/-! ### `endStart` -/

@[simp] theorem endStart_powered (s : State) : (endStart s).powered = s.powered := rfl
@[simp] theorem endStart_jl (s : State) : (endStart s).jl = s.jl := rfl
@[simp] theorem endStart_os (s : State) : (endStart s).os = s.os := rfl
@[simp] theorem endStart_cb (s : State) : (endStart s).cb = s.cb := rfl
@[simp] theorem endStart_jq (s : State) : (endStart s).jq = s.jq := rfl
@[simp] theorem endStart_re (s : State) : (endStart s).re = s.re := rfl
@[simp] theorem endStart_br (s : State) : (endStart s).br = s.br := rfl
@[simp] theorem endStart_stu (s : State) : (endStart s).stu = s.stu := rfl
@[simp] theorem endStart_hi (s : State) : (endStart s).hi = s.hi := rfl
@[simp] theorem endStart_pe (s : State) : (endStart s).pe = s.pe := rfl
@[simp] theorem endStart_lp (s : State) : (endStart s).lp = s.lp := rfl
@[simp] theorem endStart_fm (s : State) : (endStart s).fm = s.fm := rfl
@[simp] theorem endStart_ss (s : State) : (endStart s).ss = { s.ss with start := .running } := rfl
@[simp] theorem endStart_fresh (s : State) : (endStart s).fresh = s.fresh := rfl
@[simp] theorem endStart_pending (s : State) : (endStart s).pending = s.pending := rfl

/-! ### `mapJob` -/

@[simp] theorem mapJob_powered (tag : Nat) (f : Job → Job) (s : State) : (mapJob tag f s).powered = s.powered := rfl
@[simp] theorem mapJob_jl (tag : Nat) (f : Job → Job) (s : State) : (mapJob tag f s).jl = s.jl := rfl
@[simp] theorem mapJob_os (tag : Nat) (f : Job → Job) (s : State) : (mapJob tag f s).os = s.os := rfl
@[simp] theorem mapJob_cb (tag : Nat) (f : Job → Job) (s : State) : (mapJob tag f s).cb = s.cb := rfl
@[simp] theorem mapJob_jq (tag : Nat) (f : Job → Job) (s : State) :
    (mapJob tag f s).jq = { s.jq with jobs := updateFirst tag f s.jq.jobs } := rfl
@[simp] theorem mapJob_re (tag : Nat) (f : Job → Job) (s : State) : (mapJob tag f s).re = s.re := rfl
@[simp] theorem mapJob_br (tag : Nat) (f : Job → Job) (s : State) : (mapJob tag f s).br = s.br := rfl
@[simp] theorem mapJob_stu (tag : Nat) (f : Job → Job) (s : State) : (mapJob tag f s).stu = s.stu := rfl
@[simp] theorem mapJob_hi (tag : Nat) (f : Job → Job) (s : State) : (mapJob tag f s).hi = s.hi := rfl
@[simp] theorem mapJob_pe (tag : Nat) (f : Job → Job) (s : State) : (mapJob tag f s).pe = s.pe := rfl
@[simp] theorem mapJob_lp (tag : Nat) (f : Job → Job) (s : State) : (mapJob tag f s).lp = s.lp := rfl
@[simp] theorem mapJob_fm (tag : Nat) (f : Job → Job) (s : State) : (mapJob tag f s).fm = s.fm := rfl
@[simp] theorem mapJob_ss (tag : Nat) (f : Job → Job) (s : State) : (mapJob tag f s).ss = s.ss := rfl
@[simp] theorem mapJob_fresh (tag : Nat) (f : Job → Job) (s : State) : (mapJob tag f s).fresh = s.fresh := rfl
@[simp] theorem mapJob_pending (tag : Nat) (f : Job → Job) (s : State) : (mapJob tag f s).pending = s.pending := rfl

/-! ### `mapCopy` -/

@[simp] theorem mapCopy_powered (id : CopyId) (f : Copy → Copy) (s : State) :
    (mapCopy id f s).powered = s.powered := rfl
@[simp] theorem mapCopy_jl (id : CopyId) (f : Copy → Copy) (s : State) : (mapCopy id f s).jl = s.jl := rfl
@[simp] theorem mapCopy_os (id : CopyId) (f : Copy → Copy) (s : State) : (mapCopy id f s).os = s.os := rfl
@[simp] theorem mapCopy_cb (id : CopyId) (f : Copy → Copy) (s : State) : (mapCopy id f s).cb = s.cb := rfl
@[simp] theorem mapCopy_re (id : CopyId) (f : Copy → Copy) (s : State) : (mapCopy id f s).re = s.re := rfl
@[simp] theorem mapCopy_br (id : CopyId) (f : Copy → Copy) (s : State) : (mapCopy id f s).br = s.br := rfl
@[simp] theorem mapCopy_stu (id : CopyId) (f : Copy → Copy) (s : State) : (mapCopy id f s).stu = s.stu := rfl
@[simp] theorem mapCopy_hi (id : CopyId) (f : Copy → Copy) (s : State) : (mapCopy id f s).hi = s.hi := rfl
@[simp] theorem mapCopy_pe (id : CopyId) (f : Copy → Copy) (s : State) : (mapCopy id f s).pe = s.pe := rfl
@[simp] theorem mapCopy_lp (id : CopyId) (f : Copy → Copy) (s : State) : (mapCopy id f s).lp = s.lp := rfl
@[simp] theorem mapCopy_fm (id : CopyId) (f : Copy → Copy) (s : State) : (mapCopy id f s).fm = s.fm := rfl
@[simp] theorem mapCopy_ss (id : CopyId) (f : Copy → Copy) (s : State) : (mapCopy id f s).ss = s.ss := rfl
@[simp] theorem mapCopy_fresh (id : CopyId) (f : Copy → Copy) (s : State) : (mapCopy id f s).fresh = s.fresh := rfl
@[simp] theorem mapCopy_pending (id : CopyId) (f : Copy → Copy) (s : State) :
    (mapCopy id f s).pending = s.pending := rfl

/-! ### `setCopyState` -/

@[simp] theorem setCopyState_powered (id : CopyId) (st : CopyState) (s : State) :
    (setCopyState id st s).powered = s.powered := rfl
@[simp] theorem setCopyState_jl (id : CopyId) (st : CopyState) (s : State) : (setCopyState id st s).jl = s.jl := rfl
@[simp] theorem setCopyState_os (id : CopyId) (st : CopyState) (s : State) : (setCopyState id st s).os = s.os := rfl
@[simp] theorem setCopyState_cb (id : CopyId) (st : CopyState) (s : State) : (setCopyState id st s).cb = s.cb := rfl
@[simp] theorem setCopyState_re (id : CopyId) (st : CopyState) (s : State) : (setCopyState id st s).re = s.re := rfl
@[simp] theorem setCopyState_br (id : CopyId) (st : CopyState) (s : State) : (setCopyState id st s).br = s.br := rfl
@[simp] theorem setCopyState_stu (id : CopyId) (st : CopyState) (s : State) : (setCopyState id st s).stu = s.stu := rfl
@[simp] theorem setCopyState_hi (id : CopyId) (st : CopyState) (s : State) : (setCopyState id st s).hi = s.hi := rfl
@[simp] theorem setCopyState_pe (id : CopyId) (st : CopyState) (s : State) : (setCopyState id st s).pe = s.pe := rfl
@[simp] theorem setCopyState_lp (id : CopyId) (st : CopyState) (s : State) : (setCopyState id st s).lp = s.lp := rfl
@[simp] theorem setCopyState_fm (id : CopyId) (st : CopyState) (s : State) : (setCopyState id st s).fm = s.fm := rfl
@[simp] theorem setCopyState_ss (id : CopyId) (st : CopyState) (s : State) : (setCopyState id st s).ss = s.ss := rfl
@[simp] theorem setCopyState_fresh (id : CopyId) (st : CopyState) (s : State) :
    (setCopyState id st s).fresh = s.fresh := rfl
@[simp] theorem setCopyState_pending (id : CopyId) (st : CopyState) (s : State) :
    (setCopyState id st s).pending = s.pending := rfl

/-! ### `setBound` -/

@[simp] theorem setBound_powered (id : CopyId) (b : Bool) (s : State) : (setBound id b s).powered = s.powered := rfl
@[simp] theorem setBound_jl (id : CopyId) (b : Bool) (s : State) : (setBound id b s).jl = s.jl := rfl
@[simp] theorem setBound_os (id : CopyId) (b : Bool) (s : State) : (setBound id b s).os = s.os := rfl
@[simp] theorem setBound_cb (id : CopyId) (b : Bool) (s : State) : (setBound id b s).cb = s.cb := rfl
@[simp] theorem setBound_re (id : CopyId) (b : Bool) (s : State) : (setBound id b s).re = s.re := rfl
@[simp] theorem setBound_br (id : CopyId) (b : Bool) (s : State) : (setBound id b s).br = s.br := rfl
@[simp] theorem setBound_stu (id : CopyId) (b : Bool) (s : State) : (setBound id b s).stu = s.stu := rfl
@[simp] theorem setBound_hi (id : CopyId) (b : Bool) (s : State) : (setBound id b s).hi = s.hi := rfl
@[simp] theorem setBound_pe (id : CopyId) (b : Bool) (s : State) : (setBound id b s).pe = s.pe := rfl
@[simp] theorem setBound_lp (id : CopyId) (b : Bool) (s : State) : (setBound id b s).lp = s.lp := rfl
@[simp] theorem setBound_fm (id : CopyId) (b : Bool) (s : State) : (setBound id b s).fm = s.fm := rfl
@[simp] theorem setBound_ss (id : CopyId) (b : Bool) (s : State) : (setBound id b s).ss = s.ss := rfl
@[simp] theorem setBound_fresh (id : CopyId) (b : Bool) (s : State) : (setBound id b s).fresh = s.fresh := rfl
@[simp] theorem setBound_pending (id : CopyId) (b : Bool) (s : State) : (setBound id b s).pending = s.pending := rfl

/-! ### `setFault` -/

@[simp] theorem setFault_powered (k : FaultKind) (r : FaultRecord) (s : State) :
    (setFault k r s).powered = s.powered := rfl
@[simp] theorem setFault_jl (k : FaultKind) (r : FaultRecord) (s : State) : (setFault k r s).jl = s.jl := rfl
@[simp] theorem setFault_os (k : FaultKind) (r : FaultRecord) (s : State) : (setFault k r s).os = s.os := rfl
@[simp] theorem setFault_cb (k : FaultKind) (r : FaultRecord) (s : State) : (setFault k r s).cb = s.cb := rfl
@[simp] theorem setFault_jq (k : FaultKind) (r : FaultRecord) (s : State) : (setFault k r s).jq = s.jq := rfl
@[simp] theorem setFault_re (k : FaultKind) (r : FaultRecord) (s : State) : (setFault k r s).re = s.re := rfl
@[simp] theorem setFault_br (k : FaultKind) (r : FaultRecord) (s : State) : (setFault k r s).br = s.br := rfl
@[simp] theorem setFault_stu (k : FaultKind) (r : FaultRecord) (s : State) : (setFault k r s).stu = s.stu := rfl
@[simp] theorem setFault_hi (k : FaultKind) (r : FaultRecord) (s : State) : (setFault k r s).hi = s.hi := rfl
@[simp] theorem setFault_pe (k : FaultKind) (r : FaultRecord) (s : State) : (setFault k r s).pe = s.pe := rfl
@[simp] theorem setFault_lp (k : FaultKind) (r : FaultRecord) (s : State) : (setFault k r s).lp = s.lp := rfl
@[simp] theorem setFault_fm (k : FaultKind) (r : FaultRecord) (s : State) :
    (setFault k r s).fm = s.fm.set k.index r := rfl
@[simp] theorem setFault_ss (k : FaultKind) (r : FaultRecord) (s : State) : (setFault k r s).ss = s.ss := rfl
@[simp] theorem setFault_fresh (k : FaultKind) (r : FaultRecord) (s : State) : (setFault k r s).fresh = s.fresh := rfl
@[simp] theorem setFault_pending (k : FaultKind) (r : FaultRecord) (s : State) :
    (setFault k r s).pending = s.pending := rfl

/-! ### `raiseFlags` -/

@[simp] theorem raiseFlags_powered (k : FaultKind) (s : State) : (raiseFlags k s).powered = s.powered := rfl
@[simp] theorem raiseFlags_jl (k : FaultKind) (s : State) : (raiseFlags k s).jl = s.jl := rfl
@[simp] theorem raiseFlags_os (k : FaultKind) (s : State) : (raiseFlags k s).os = s.os := rfl
@[simp] theorem raiseFlags_cb (k : FaultKind) (s : State) : (raiseFlags k s).cb = s.cb := rfl
@[simp] theorem raiseFlags_jq (k : FaultKind) (s : State) : (raiseFlags k s).jq = s.jq := rfl
@[simp] theorem raiseFlags_re (k : FaultKind) (s : State) : (raiseFlags k s).re = s.re := rfl
@[simp] theorem raiseFlags_br (k : FaultKind) (s : State) : (raiseFlags k s).br = s.br := rfl
@[simp] theorem raiseFlags_stu (k : FaultKind) (s : State) : (raiseFlags k s).stu = s.stu := rfl
@[simp] theorem raiseFlags_hi (k : FaultKind) (s : State) : (raiseFlags k s).hi = s.hi := rfl
@[simp] theorem raiseFlags_pe (k : FaultKind) (s : State) : (raiseFlags k s).pe = s.pe := rfl
@[simp] theorem raiseFlags_lp (k : FaultKind) (s : State) : (raiseFlags k s).lp = s.lp := rfl
@[simp] theorem raiseFlags_fm (k : FaultKind) (s : State) :
    (raiseFlags k s).fm = s.fm.set k.index { s.fm[k.index] with active := true, latched := true } := rfl
@[simp] theorem raiseFlags_ss (k : FaultKind) (s : State) : (raiseFlags k s).ss = s.ss := rfl
@[simp] theorem raiseFlags_fresh (k : FaultKind) (s : State) : (raiseFlags k s).fresh = s.fresh := rfl
@[simp] theorem raiseFlags_pending (k : FaultKind) (s : State) : (raiseFlags k s).pending = s.pending := rfl

/-! ### `clearFlags` -/

@[simp] theorem clearFlags_powered (k : FaultKind) (s : State) : (clearFlags k s).powered = s.powered := rfl
@[simp] theorem clearFlags_jl (k : FaultKind) (s : State) : (clearFlags k s).jl = s.jl := rfl
@[simp] theorem clearFlags_os (k : FaultKind) (s : State) : (clearFlags k s).os = s.os := rfl
@[simp] theorem clearFlags_cb (k : FaultKind) (s : State) : (clearFlags k s).cb = s.cb := rfl
@[simp] theorem clearFlags_jq (k : FaultKind) (s : State) : (clearFlags k s).jq = s.jq := rfl
@[simp] theorem clearFlags_re (k : FaultKind) (s : State) : (clearFlags k s).re = s.re := rfl
@[simp] theorem clearFlags_br (k : FaultKind) (s : State) : (clearFlags k s).br = s.br := rfl
@[simp] theorem clearFlags_stu (k : FaultKind) (s : State) : (clearFlags k s).stu = s.stu := rfl
@[simp] theorem clearFlags_hi (k : FaultKind) (s : State) : (clearFlags k s).hi = s.hi := rfl
@[simp] theorem clearFlags_pe (k : FaultKind) (s : State) : (clearFlags k s).pe = s.pe := rfl
@[simp] theorem clearFlags_lp (k : FaultKind) (s : State) : (clearFlags k s).lp = s.lp := rfl
@[simp] theorem clearFlags_fm (k : FaultKind) (s : State) :
    (clearFlags k s).fm = s.fm.set k.index { s.fm[k.index] with active := false, latched := false } := rfl
@[simp] theorem clearFlags_ss (k : FaultKind) (s : State) : (clearFlags k s).ss = s.ss := rfl
@[simp] theorem clearFlags_fresh (k : FaultKind) (s : State) : (clearFlags k s).fresh = s.fresh := rfl
@[simp] theorem clearFlags_pending (k : FaultKind) (s : State) : (clearFlags k s).pending = s.pending := rfl

/-! ### `endCondition` -/

@[simp] theorem endCondition_powered (k : FaultKind) (s : State) : (endCondition k s).powered = s.powered := rfl
@[simp] theorem endCondition_jl (k : FaultKind) (s : State) : (endCondition k s).jl = s.jl := rfl
@[simp] theorem endCondition_os (k : FaultKind) (s : State) : (endCondition k s).os = s.os := rfl
@[simp] theorem endCondition_cb (k : FaultKind) (s : State) : (endCondition k s).cb = s.cb := rfl
@[simp] theorem endCondition_jq (k : FaultKind) (s : State) : (endCondition k s).jq = s.jq := rfl
@[simp] theorem endCondition_re (k : FaultKind) (s : State) : (endCondition k s).re = s.re := rfl
@[simp] theorem endCondition_br (k : FaultKind) (s : State) : (endCondition k s).br = s.br := rfl
@[simp] theorem endCondition_stu (k : FaultKind) (s : State) : (endCondition k s).stu = s.stu := rfl
@[simp] theorem endCondition_hi (k : FaultKind) (s : State) : (endCondition k s).hi = s.hi := rfl
@[simp] theorem endCondition_pe (k : FaultKind) (s : State) : (endCondition k s).pe = s.pe := rfl
@[simp] theorem endCondition_lp (k : FaultKind) (s : State) : (endCondition k s).lp = s.lp := rfl
@[simp] theorem endCondition_fm (k : FaultKind) (s : State) :
    (endCondition k s).fm = s.fm.set k.index { s.fm[k.index] with active := false } := rfl
@[simp] theorem endCondition_ss (k : FaultKind) (s : State) : (endCondition k s).ss = s.ss := rfl
@[simp] theorem endCondition_fresh (k : FaultKind) (s : State) : (endCondition k s).fresh = s.fresh := rfl
@[simp] theorem endCondition_pending (k : FaultKind) (s : State) : (endCondition k s).pending = s.pending := rfl

/-! ### `addReason` -/

@[simp] theorem addReason_powered (r : PauseReason) (s : State) : (addReason r s).powered = s.powered := rfl
@[simp] theorem addReason_jl (r : PauseReason) (s : State) : (addReason r s).jl = s.jl := rfl
@[simp] theorem addReason_os (r : PauseReason) (s : State) : (addReason r s).os = s.os := rfl
@[simp] theorem addReason_cb (r : PauseReason) (s : State) : (addReason r s).cb = s.cb := rfl
@[simp] theorem addReason_jq (r : PauseReason) (s : State) : (addReason r s).jq = s.jq := rfl
@[simp] theorem addReason_re (r : PauseReason) (s : State) : (addReason r s).re = s.re := rfl
@[simp] theorem addReason_br (r : PauseReason) (s : State) : (addReason r s).br = s.br := rfl
@[simp] theorem addReason_stu (r : PauseReason) (s : State) : (addReason r s).stu = s.stu := rfl
@[simp] theorem addReason_hi (r : PauseReason) (s : State) : (addReason r s).hi = s.hi := rfl
@[simp] theorem addReason_pe (r : PauseReason) (s : State) :
    (addReason r s).pe = { s.pe with pause := s.pe.pause.put r true } := rfl
@[simp] theorem addReason_lp (r : PauseReason) (s : State) : (addReason r s).lp = s.lp := rfl
@[simp] theorem addReason_fm (r : PauseReason) (s : State) : (addReason r s).fm = s.fm := rfl
@[simp] theorem addReason_ss (r : PauseReason) (s : State) : (addReason r s).ss = s.ss := rfl
@[simp] theorem addReason_fresh (r : PauseReason) (s : State) : (addReason r s).fresh = s.fresh := rfl
@[simp] theorem addReason_pending (r : PauseReason) (s : State) : (addReason r s).pending = s.pending := rfl

/-! ### `dropReason` -/

@[simp] theorem dropReason_powered (r : PauseReason) (s : State) : (dropReason r s).powered = s.powered := rfl
@[simp] theorem dropReason_jl (r : PauseReason) (s : State) : (dropReason r s).jl = s.jl := rfl
@[simp] theorem dropReason_os (r : PauseReason) (s : State) : (dropReason r s).os = s.os := rfl
@[simp] theorem dropReason_cb (r : PauseReason) (s : State) : (dropReason r s).cb = s.cb := rfl
@[simp] theorem dropReason_jq (r : PauseReason) (s : State) : (dropReason r s).jq = s.jq := rfl
@[simp] theorem dropReason_re (r : PauseReason) (s : State) : (dropReason r s).re = s.re := rfl
@[simp] theorem dropReason_br (r : PauseReason) (s : State) : (dropReason r s).br = s.br := rfl
@[simp] theorem dropReason_stu (r : PauseReason) (s : State) : (dropReason r s).stu = s.stu := rfl
@[simp] theorem dropReason_hi (r : PauseReason) (s : State) : (dropReason r s).hi = s.hi := rfl
@[simp] theorem dropReason_pe (r : PauseReason) (s : State) :
    (dropReason r s).pe = { s.pe with pause := s.pe.pause.put r false } := rfl
@[simp] theorem dropReason_lp (r : PauseReason) (s : State) : (dropReason r s).lp = s.lp := rfl
@[simp] theorem dropReason_fm (r : PauseReason) (s : State) : (dropReason r s).fm = s.fm := rfl
@[simp] theorem dropReason_ss (r : PauseReason) (s : State) : (dropReason r s).ss = s.ss := rfl
@[simp] theorem dropReason_fresh (r : PauseReason) (s : State) : (dropReason r s).fresh = s.fresh := rfl
@[simp] theorem dropReason_pending (r : PauseReason) (s : State) : (dropReason r s).pending = s.pending := rfl

/-! ### `setBand` -/

@[simp] theorem setBand_powered (b : Nat) (band : Band) (s : State) : (setBand b band s).powered = s.powered := rfl
@[simp] theorem setBand_jl (b : Nat) (band : Band) (s : State) : (setBand b band s).jl = s.jl := rfl
@[simp] theorem setBand_os (b : Nat) (band : Band) (s : State) : (setBand b band s).os = s.os := rfl
@[simp] theorem setBand_cb (b : Nat) (band : Band) (s : State) : (setBand b band s).cb = s.cb := rfl
@[simp] theorem setBand_jq (b : Nat) (band : Band) (s : State) : (setBand b band s).jq = s.jq := rfl
@[simp] theorem setBand_re (b : Nat) (band : Band) (s : State) : (setBand b band s).re = s.re := rfl
@[simp] theorem setBand_br (b : Nat) (band : Band) (s : State) :
    (setBand b band s).br = { s.br with bands := s.br.bands.setIfInBounds b band } := rfl
@[simp] theorem setBand_stu (b : Nat) (band : Band) (s : State) : (setBand b band s).stu = s.stu := rfl
@[simp] theorem setBand_hi (b : Nat) (band : Band) (s : State) : (setBand b band s).hi = s.hi := rfl
@[simp] theorem setBand_pe (b : Nat) (band : Band) (s : State) : (setBand b band s).pe = s.pe := rfl
@[simp] theorem setBand_lp (b : Nat) (band : Band) (s : State) : (setBand b band s).lp = s.lp := rfl
@[simp] theorem setBand_fm (b : Nat) (band : Band) (s : State) : (setBand b band s).fm = s.fm := rfl
@[simp] theorem setBand_ss (b : Nat) (band : Band) (s : State) : (setBand b band s).ss = s.ss := rfl
@[simp] theorem setBand_fresh (b : Nat) (band : Band) (s : State) : (setBand b band s).fresh = s.fresh := rfl
@[simp] theorem setBand_pending (b : Nat) (band : Band) (s : State) : (setBand b band s).pending = s.pending := rfl

/-! ### `freeBand` -/

@[simp] theorem freeBand_powered (b : Nat) (s : State) : (freeBand b s).powered = s.powered := rfl
@[simp] theorem freeBand_jl (b : Nat) (s : State) : (freeBand b s).jl = s.jl := rfl
@[simp] theorem freeBand_os (b : Nat) (s : State) : (freeBand b s).os = s.os := rfl
@[simp] theorem freeBand_cb (b : Nat) (s : State) : (freeBand b s).cb = s.cb := rfl
@[simp] theorem freeBand_jq (b : Nat) (s : State) : (freeBand b s).jq = s.jq := rfl
@[simp] theorem freeBand_re (b : Nat) (s : State) : (freeBand b s).re = s.re := rfl
@[simp] theorem freeBand_br (b : Nat) (s : State) :
    (freeBand b s).br = { s.br with bands := s.br.bands.setIfInBounds b (bandOf s b).freed } := rfl
@[simp] theorem freeBand_stu (b : Nat) (s : State) : (freeBand b s).stu = s.stu := rfl
@[simp] theorem freeBand_hi (b : Nat) (s : State) : (freeBand b s).hi = s.hi := rfl
@[simp] theorem freeBand_pe (b : Nat) (s : State) : (freeBand b s).pe = s.pe := rfl
@[simp] theorem freeBand_lp (b : Nat) (s : State) : (freeBand b s).lp = s.lp := rfl
@[simp] theorem freeBand_fm (b : Nat) (s : State) : (freeBand b s).fm = s.fm := rfl
@[simp] theorem freeBand_ss (b : Nat) (s : State) : (freeBand b s).ss = s.ss := rfl
@[simp] theorem freeBand_fresh (b : Nat) (s : State) : (freeBand b s).fresh = s.fresh := rfl
@[simp] theorem freeBand_pending (b : Nat) (s : State) : (freeBand b s).pending = s.pending := rfl

/-! ### `freeBandsWhere` -/

@[simp] theorem freeBandsWhere_powered (p : Band → Bool) (s : State) : (freeBandsWhere p s).powered = s.powered := rfl
@[simp] theorem freeBandsWhere_jl (p : Band → Bool) (s : State) : (freeBandsWhere p s).jl = s.jl := rfl
@[simp] theorem freeBandsWhere_os (p : Band → Bool) (s : State) : (freeBandsWhere p s).os = s.os := rfl
@[simp] theorem freeBandsWhere_cb (p : Band → Bool) (s : State) : (freeBandsWhere p s).cb = s.cb := rfl
@[simp] theorem freeBandsWhere_jq (p : Band → Bool) (s : State) : (freeBandsWhere p s).jq = s.jq := rfl
@[simp] theorem freeBandsWhere_re (p : Band → Bool) (s : State) : (freeBandsWhere p s).re = s.re := rfl
@[simp] theorem freeBandsWhere_br (p : Band → Bool) (s : State) :
    (freeBandsWhere p s).br = { s.br with bands := s.br.bands.map fun b => if p b then b.freed else b } := rfl
@[simp] theorem freeBandsWhere_stu (p : Band → Bool) (s : State) : (freeBandsWhere p s).stu = s.stu := rfl
@[simp] theorem freeBandsWhere_hi (p : Band → Bool) (s : State) : (freeBandsWhere p s).hi = s.hi := rfl
@[simp] theorem freeBandsWhere_pe (p : Band → Bool) (s : State) : (freeBandsWhere p s).pe = s.pe := rfl
@[simp] theorem freeBandsWhere_lp (p : Band → Bool) (s : State) : (freeBandsWhere p s).lp = s.lp := rfl
@[simp] theorem freeBandsWhere_fm (p : Band → Bool) (s : State) : (freeBandsWhere p s).fm = s.fm := rfl
@[simp] theorem freeBandsWhere_ss (p : Band → Bool) (s : State) : (freeBandsWhere p s).ss = s.ss := rfl
@[simp] theorem freeBandsWhere_fresh (p : Band → Bool) (s : State) : (freeBandsWhere p s).fresh = s.fresh := rfl
@[simp] theorem freeBandsWhere_pending (p : Band → Bool) (s : State) : (freeBandsWhere p s).pending = s.pending := rfl

/-! ### `endRender` -/

@[simp] theorem endRender_powered (s : State) : (endRender s).powered = s.powered := rfl
@[simp] theorem endRender_jl (s : State) : (endRender s).jl = s.jl := rfl
@[simp] theorem endRender_os (s : State) : (endRender s).os = s.os := rfl
@[simp] theorem endRender_cb (s : State) : (endRender s).cb = s.cb := rfl
@[simp] theorem endRender_jq (s : State) : (endRender s).jq = s.jq := rfl
@[simp] theorem endRender_re (s : State) : (endRender s).re = { cursor := .idle, context := none } := rfl
@[simp] theorem endRender_br (s : State) : (endRender s).br = s.br := rfl
@[simp] theorem endRender_stu (s : State) : (endRender s).stu = s.stu := rfl
@[simp] theorem endRender_hi (s : State) : (endRender s).hi = s.hi := rfl
@[simp] theorem endRender_pe (s : State) : (endRender s).pe = s.pe := rfl
@[simp] theorem endRender_lp (s : State) : (endRender s).lp = s.lp := rfl
@[simp] theorem endRender_fm (s : State) : (endRender s).fm = s.fm := rfl
@[simp] theorem endRender_ss (s : State) : (endRender s).ss = s.ss := rfl
@[simp] theorem endRender_fresh (s : State) : (endRender s).fresh = s.fresh := rfl
@[simp] theorem endRender_pending (s : State) : (endRender s).pending = s.pending := rfl

/-! ### `stopIdleTimer` -/

@[simp] theorem stopIdleTimer_powered (s : State) : (stopIdleTimer s).powered = s.powered := rfl
@[simp] theorem stopIdleTimer_jl (s : State) : (stopIdleTimer s).jl = s.jl := rfl
@[simp] theorem stopIdleTimer_os (s : State) : (stopIdleTimer s).os = s.os := rfl
@[simp] theorem stopIdleTimer_cb (s : State) : (stopIdleTimer s).cb = s.cb := rfl
@[simp] theorem stopIdleTimer_jq (s : State) : (stopIdleTimer s).jq = s.jq := rfl
@[simp] theorem stopIdleTimer_re (s : State) : (stopIdleTimer s).re = s.re := rfl
@[simp] theorem stopIdleTimer_br (s : State) : (stopIdleTimer s).br = s.br := rfl
@[simp] theorem stopIdleTimer_stu (s : State) : (stopIdleTimer s).stu = s.stu := rfl
@[simp] theorem stopIdleTimer_hi (s : State) : (stopIdleTimer s).hi = { s.hi with idleTimer := none } := rfl
@[simp] theorem stopIdleTimer_pe (s : State) : (stopIdleTimer s).pe = s.pe := rfl
@[simp] theorem stopIdleTimer_lp (s : State) : (stopIdleTimer s).lp = s.lp := rfl
@[simp] theorem stopIdleTimer_fm (s : State) : (stopIdleTimer s).fm = s.fm := rfl
@[simp] theorem stopIdleTimer_ss (s : State) : (stopIdleTimer s).ss = s.ss := rfl
@[simp] theorem stopIdleTimer_fresh (s : State) : (stopIdleTimer s).fresh = s.fresh := rfl
@[simp] theorem stopIdleTimer_pending (s : State) : (stopIdleTimer s).pending = s.pending := rfl

/-! ### `forgetStock` -/

@[simp] theorem forgetStock_powered (s : State) : (forgetStock s).powered = s.powered := rfl
@[simp] theorem forgetStock_jl (s : State) : (forgetStock s).jl = s.jl := rfl
@[simp] theorem forgetStock_os (s : State) : (forgetStock s).os = s.os := rfl
@[simp] theorem forgetStock_cb (s : State) : (forgetStock s).cb = s.cb := rfl
@[simp] theorem forgetStock_jq (s : State) : (forgetStock s).jq = s.jq := rfl
@[simp] theorem forgetStock_re (s : State) : (forgetStock s).re = s.re := rfl
@[simp] theorem forgetStock_br (s : State) : (forgetStock s).br = s.br := rfl
@[simp] theorem forgetStock_stu (s : State) : (forgetStock s).stu = s.stu := rfl
@[simp] theorem forgetStock_hi (s : State) : (forgetStock s).hi = s.hi := rfl
@[simp] theorem forgetStock_pe (s : State) :
    (forgetStock s).pe = { s.pe with lastCapture := none, lastGapStart := none, tops := [] } := rfl
@[simp] theorem forgetStock_lp (s : State) : (forgetStock s).lp = s.lp := rfl
@[simp] theorem forgetStock_fm (s : State) : (forgetStock s).fm = s.fm := rfl
@[simp] theorem forgetStock_ss (s : State) : (forgetStock s).ss = s.ss := rfl
@[simp] theorem forgetStock_fresh (s : State) : (forgetStock s).fresh = s.fresh := rfl
@[simp] theorem forgetStock_pending (s : State) : (forgetStock s).pending = s.pending := rfl

/-! ### `halt` -/

@[simp] theorem halt_powered (s : State) : (halt s).powered = s.powered := rfl
@[simp] theorem halt_jl (s : State) : (halt s).jl = s.jl := rfl
@[simp] theorem halt_os (s : State) : (halt s).os = s.os := rfl
@[simp] theorem halt_cb (s : State) : (halt s).cb = s.cb := rfl
@[simp] theorem halt_jq (s : State) : (halt s).jq = s.jq := rfl
@[simp] theorem halt_re (s : State) : (halt s).re = s.re := rfl
@[simp] theorem halt_br (s : State) : (halt s).br = s.br := rfl
@[simp] theorem halt_stu (s : State) : (halt s).stu = s.stu := rfl
@[simp] theorem halt_hi (s : State) : (halt s).hi = { s.hi with resumed := true } := rfl
@[simp] theorem halt_pe (s : State) : (halt s).pe = { s.pe with engine := .halted, stepTime := 0 } := rfl
@[simp] theorem halt_lp (s : State) : (halt s).lp = s.lp := rfl
@[simp] theorem halt_fm (s : State) : (halt s).fm = s.fm := rfl
@[simp] theorem halt_ss (s : State) : (halt s).ss = s.ss := rfl
@[simp] theorem halt_fresh (s : State) : (halt s).fresh = s.fresh := rfl
@[simp] theorem halt_pending (s : State) : (halt s).pending = s.pending := rfl

/-! ### `stepMedia` -/

@[simp] theorem stepMedia_powered (level : SensorLevel) (s : State) : (stepMedia level s).powered = s.powered := rfl
@[simp] theorem stepMedia_jl (level : SensorLevel) (s : State) : (stepMedia level s).jl = s.jl := rfl
@[simp] theorem stepMedia_os (level : SensorLevel) (s : State) : (stepMedia level s).os = s.os := rfl
@[simp] theorem stepMedia_cb (level : SensorLevel) (s : State) : (stepMedia level s).cb = s.cb := rfl
@[simp] theorem stepMedia_jq (level : SensorLevel) (s : State) : (stepMedia level s).jq = s.jq := rfl
@[simp] theorem stepMedia_re (level : SensorLevel) (s : State) : (stepMedia level s).re = s.re := rfl
@[simp] theorem stepMedia_br (level : SensorLevel) (s : State) : (stepMedia level s).br = s.br := rfl
@[simp] theorem stepMedia_stu (level : SensorLevel) (s : State) : (stepMedia level s).stu = s.stu := rfl
@[simp] theorem stepMedia_hi (level : SensorLevel) (s : State) : (stepMedia level s).hi = s.hi := rfl
@[simp] theorem stepMedia_pe (level : SensorLevel) (s : State) :
    (stepMedia level s).pe = { s.pe with
      position := positionAfter s.pe.position, furthest := max s.pe.furthest (positionAfter s.pe.position)
      sensor := level } := rfl
@[simp] theorem stepMedia_lp (level : SensorLevel) (s : State) : (stepMedia level s).lp = s.lp := rfl
@[simp] theorem stepMedia_fm (level : SensorLevel) (s : State) : (stepMedia level s).fm = s.fm := rfl
@[simp] theorem stepMedia_ss (level : SensorLevel) (s : State) : (stepMedia level s).ss = s.ss := rfl
@[simp] theorem stepMedia_fresh (level : SensorLevel) (s : State) : (stepMedia level s).fresh = s.fresh := rfl
@[simp] theorem stepMedia_pending (level : SensorLevel) (s : State) : (stepMedia level s).pending = s.pending := rfl

/-! ### `spoilPresented` -/

@[simp] theorem spoilPresented_powered (s : State) : (spoilPresented s).powered = s.powered := rfl
@[simp] theorem spoilPresented_jl (s : State) : (spoilPresented s).jl = s.jl := rfl
@[simp] theorem spoilPresented_os (s : State) : (spoilPresented s).os = s.os := rfl
@[simp] theorem spoilPresented_cb (s : State) : (spoilPresented s).cb = s.cb := rfl
@[simp] theorem spoilPresented_jq (s : State) : (spoilPresented s).jq = s.jq := rfl
@[simp] theorem spoilPresented_re (s : State) : (spoilPresented s).re = s.re := rfl
@[simp] theorem spoilPresented_br (s : State) : (spoilPresented s).br = s.br := rfl
@[simp] theorem spoilPresented_stu (s : State) : (spoilPresented s).stu = s.stu := rfl
@[simp] theorem spoilPresented_hi (s : State) : (spoilPresented s).hi = s.hi := rfl
@[simp] theorem spoilPresented_pe (s : State) :
    (spoilPresented s).pe = { s.pe with presented := s.pe.presented.map fun p => { p with waste := true } } := rfl
@[simp] theorem spoilPresented_lp (s : State) : (spoilPresented s).lp = s.lp := rfl
@[simp] theorem spoilPresented_fm (s : State) : (spoilPresented s).fm = s.fm := rfl
@[simp] theorem spoilPresented_ss (s : State) : (spoilPresented s).ss = s.ss := rfl
@[simp] theorem spoilPresented_fresh (s : State) : (spoilPresented s).fresh = s.fresh := rfl
@[simp] theorem spoilPresented_pending (s : State) : (spoilPresented s).pending = s.pending := rfl

/-! ### `advanceLine` -/

@[simp] theorem advanceLine_powered (s : State) : (advanceLine s).powered = s.powered := rfl
@[simp] theorem advanceLine_jl (s : State) : (advanceLine s).jl = s.jl := rfl
@[simp] theorem advanceLine_os (s : State) : (advanceLine s).os = s.os := rfl
@[simp] theorem advanceLine_cb (s : State) : (advanceLine s).cb = s.cb := rfl
@[simp] theorem advanceLine_jq (s : State) : (advanceLine s).jq = s.jq := rfl
@[simp] theorem advanceLine_re (s : State) : (advanceLine s).re = s.re := rfl
@[simp] theorem advanceLine_br (s : State) : (advanceLine s).br = s.br := rfl
@[simp] theorem advanceLine_stu (s : State) : (advanceLine s).stu = s.stu := rfl
@[simp] theorem advanceLine_hi (s : State) : (advanceLine s).hi = s.hi := rfl
@[simp] theorem advanceLine_pe (s : State) :
    (advanceLine s).pe = { s.pe with label := s.pe.label.map fun l => { l with y := l.y + 1 } } := rfl
@[simp] theorem advanceLine_lp (s : State) : (advanceLine s).lp = s.lp := rfl
@[simp] theorem advanceLine_fm (s : State) : (advanceLine s).fm = s.fm := rfl
@[simp] theorem advanceLine_ss (s : State) : (advanceLine s).ss = s.ss := rfl
@[simp] theorem advanceLine_fresh (s : State) : (advanceLine s).fresh = s.fresh := rfl
@[simp] theorem advanceLine_pending (s : State) : (advanceLine s).pending = s.pending := rfl

/-! ### `mapParcels` -/

@[simp] theorem mapParcels_powered (f : List Parcel → List Parcel) (s : State) :
    (mapParcels f s).powered = s.powered := rfl
@[simp] theorem mapParcels_jl (f : List Parcel → List Parcel) (s : State) : (mapParcels f s).jl = s.jl := rfl
@[simp] theorem mapParcels_os (f : List Parcel → List Parcel) (s : State) : (mapParcels f s).os = s.os := rfl
@[simp] theorem mapParcels_cb (f : List Parcel → List Parcel) (s : State) : (mapParcels f s).cb = s.cb := rfl
@[simp] theorem mapParcels_jq (f : List Parcel → List Parcel) (s : State) : (mapParcels f s).jq = s.jq := rfl
@[simp] theorem mapParcels_re (f : List Parcel → List Parcel) (s : State) : (mapParcels f s).re = s.re := rfl
@[simp] theorem mapParcels_br (f : List Parcel → List Parcel) (s : State) : (mapParcels f s).br = s.br := rfl
@[simp] theorem mapParcels_stu (f : List Parcel → List Parcel) (s : State) : (mapParcels f s).stu = s.stu := rfl
@[simp] theorem mapParcels_hi (f : List Parcel → List Parcel) (s : State) : (mapParcels f s).hi = s.hi := rfl
@[simp] theorem mapParcels_pe (f : List Parcel → List Parcel) (s : State) : (mapParcels f s).pe = s.pe := rfl
@[simp] theorem mapParcels_lp (f : List Parcel → List Parcel) (s : State) :
    (mapParcels f s).lp = { s.lp with parcels := f s.lp.parcels } := rfl
@[simp] theorem mapParcels_fm (f : List Parcel → List Parcel) (s : State) : (mapParcels f s).fm = s.fm := rfl
@[simp] theorem mapParcels_ss (f : List Parcel → List Parcel) (s : State) : (mapParcels f s).ss = s.ss := rfl
@[simp] theorem mapParcels_fresh (f : List Parcel → List Parcel) (s : State) : (mapParcels f s).fresh = s.fresh := rfl
@[simp] theorem mapParcels_pending (f : List Parcel → List Parcel) (s : State) :
    (mapParcels f s).pending = s.pending := rfl

/-! ### `requestApply` -/

@[simp] theorem requestApply_powered (s : State) : (requestApply s).powered = s.powered := rfl
@[simp] theorem requestApply_jl (s : State) : (requestApply s).jl = s.jl := rfl
@[simp] theorem requestApply_os (s : State) : (requestApply s).os = s.os := rfl
@[simp] theorem requestApply_cb (s : State) : (requestApply s).cb = s.cb := rfl
@[simp] theorem requestApply_jq (s : State) : (requestApply s).jq = s.jq := rfl
@[simp] theorem requestApply_re (s : State) : (requestApply s).re = s.re := rfl
@[simp] theorem requestApply_br (s : State) : (requestApply s).br = s.br := rfl
@[simp] theorem requestApply_stu (s : State) : (requestApply s).stu = s.stu := rfl
@[simp] theorem requestApply_hi (s : State) : (requestApply s).hi = s.hi := rfl
@[simp] theorem requestApply_pe (s : State) : (requestApply s).pe = s.pe := rfl
@[simp] theorem requestApply_lp (s : State) : (requestApply s).lp = { s.lp with apply := s.lp.apply.request } := rfl
@[simp] theorem requestApply_fm (s : State) : (requestApply s).fm = s.fm := rfl
@[simp] theorem requestApply_ss (s : State) : (requestApply s).ss = s.ss := rfl
@[simp] theorem requestApply_fresh (s : State) : (requestApply s).fresh = s.fresh := rfl
@[simp] theorem requestApply_pending (s : State) : (requestApply s).pending = s.pending := rfl

/-! ### `requestMiss` -/

@[simp] theorem requestMiss_powered (s : State) : (requestMiss s).powered = s.powered := rfl
@[simp] theorem requestMiss_jl (s : State) : (requestMiss s).jl = s.jl := rfl
@[simp] theorem requestMiss_os (s : State) : (requestMiss s).os = s.os := rfl
@[simp] theorem requestMiss_cb (s : State) : (requestMiss s).cb = s.cb := rfl
@[simp] theorem requestMiss_jq (s : State) : (requestMiss s).jq = s.jq := rfl
@[simp] theorem requestMiss_re (s : State) : (requestMiss s).re = s.re := rfl
@[simp] theorem requestMiss_br (s : State) : (requestMiss s).br = s.br := rfl
@[simp] theorem requestMiss_stu (s : State) : (requestMiss s).stu = s.stu := rfl
@[simp] theorem requestMiss_hi (s : State) : (requestMiss s).hi = s.hi := rfl
@[simp] theorem requestMiss_pe (s : State) : (requestMiss s).pe = s.pe := rfl
@[simp] theorem requestMiss_lp (s : State) : (requestMiss s).lp = { s.lp with miss := s.lp.miss.request } := rfl
@[simp] theorem requestMiss_fm (s : State) : (requestMiss s).fm = s.fm := rfl
@[simp] theorem requestMiss_ss (s : State) : (requestMiss s).ss = s.ss := rfl
@[simp] theorem requestMiss_fresh (s : State) : (requestMiss s).fresh = s.fresh := rfl
@[simp] theorem requestMiss_pending (s : State) : (requestMiss s).pending = s.pending := rfl

/-! ### `setLevel` -/

@[simp] theorem setLevel_powered (i : LineInput) (b : Bool) (s : State) : (setLevel i b s).powered = s.powered := rfl
@[simp] theorem setLevel_jl (i : LineInput) (b : Bool) (s : State) : (setLevel i b s).jl = s.jl := rfl
@[simp] theorem setLevel_os (i : LineInput) (b : Bool) (s : State) : (setLevel i b s).os = s.os := rfl
@[simp] theorem setLevel_cb (i : LineInput) (b : Bool) (s : State) : (setLevel i b s).cb = s.cb := rfl
@[simp] theorem setLevel_jq (i : LineInput) (b : Bool) (s : State) : (setLevel i b s).jq = s.jq := rfl
@[simp] theorem setLevel_re (i : LineInput) (b : Bool) (s : State) : (setLevel i b s).re = s.re := rfl
@[simp] theorem setLevel_br (i : LineInput) (b : Bool) (s : State) : (setLevel i b s).br = s.br := rfl
@[simp] theorem setLevel_stu (i : LineInput) (b : Bool) (s : State) : (setLevel i b s).stu = s.stu := rfl
@[simp] theorem setLevel_hi (i : LineInput) (b : Bool) (s : State) : (setLevel i b s).hi = s.hi := rfl
@[simp] theorem setLevel_pe (i : LineInput) (b : Bool) (s : State) : (setLevel i b s).pe = s.pe := rfl
@[simp] theorem setLevel_lp (i : LineInput) (b : Bool) (s : State) : (setLevel i b s).lp = s.lp.withLevel i b := rfl
@[simp] theorem setLevel_fm (i : LineInput) (b : Bool) (s : State) : (setLevel i b s).fm = s.fm := rfl
@[simp] theorem setLevel_ss (i : LineInput) (b : Bool) (s : State) : (setLevel i b s).ss = s.ss := rfl
@[simp] theorem setLevel_fresh (i : LineInput) (b : Bool) (s : State) : (setLevel i b s).fresh = s.fresh := rfl
@[simp] theorem setLevel_pending (i : LineInput) (b : Bool) (s : State) : (setLevel i b s).pending = s.pending := rfl

end Sys2Proof.Machine
end

