-- ==== Sys2Proof/Laws/Frame.lean ====
section
/-! SUPPORT. The frame of every shared operation: the fields of `State` that it leaves unchanged in every case. -/

namespace Sys2Proof.Machine

@[simp] theorem beginCharacter_frame (s : State) :
    (beginCharacter s).powered = s.powered ∧ (beginCharacter s).os = s.os ∧ (beginCharacter s).cb = s.cb
      ∧ (beginCharacter s).jq = s.jq ∧ (beginCharacter s).re = s.re ∧ (beginCharacter s).br = s.br
      ∧ (beginCharacter s).stu = s.stu ∧ (beginCharacter s).hi = s.hi ∧ (beginCharacter s).pe = s.pe
      ∧ (beginCharacter s).lp = s.lp ∧ (beginCharacter s).fm = s.fm ∧ (beginCharacter s).ss = s.ss
      ∧ (beginCharacter s).fresh = s.fresh ∧ (beginCharacter s).pending = s.pending := by
  unfold beginCharacter
  dsimp only
  (repeat' split) <;> simp

@[simp] theorem endRateSwitch_frame (s : State) :
    (endRateSwitch s).powered = s.powered ∧ (endRateSwitch s).os = s.os ∧ (endRateSwitch s).cb = s.cb
      ∧ (endRateSwitch s).jq = s.jq ∧ (endRateSwitch s).re = s.re ∧ (endRateSwitch s).br = s.br
      ∧ (endRateSwitch s).stu = s.stu ∧ (endRateSwitch s).hi = s.hi ∧ (endRateSwitch s).pe = s.pe
      ∧ (endRateSwitch s).lp = s.lp ∧ (endRateSwitch s).fm = s.fm ∧ (endRateSwitch s).ss = s.ss
      ∧ (endRateSwitch s).fresh = s.fresh ∧ (endRateSwitch s).pending = s.pending := by
  unfold endRateSwitch
  dsimp only
  (repeat' split) <;> simp

@[simp] theorem requestRate_frame (rate : Nat) (s : State) :
    (requestRate rate s).powered = s.powered ∧ (requestRate rate s).os = s.os ∧ (requestRate rate s).cb = s.cb
      ∧ (requestRate rate s).jq = s.jq ∧ (requestRate rate s).re = s.re ∧ (requestRate rate s).br = s.br
      ∧ (requestRate rate s).stu = s.stu ∧ (requestRate rate s).hi = s.hi ∧ (requestRate rate s).pe = s.pe
      ∧ (requestRate rate s).lp = s.lp ∧ (requestRate rate s).fm = s.fm ∧ (requestRate rate s).ss = s.ss
      ∧ (requestRate rate s).fresh = s.fresh ∧ (requestRate rate s).pending = s.pending := by
  unfold requestRate
  dsimp only
  (repeat' split) <;> simp

@[simp] theorem freeSlot_frame (tag : Nat) (s : State) :
    (freeSlot tag s).powered = s.powered ∧ (freeSlot tag s).jl = s.jl ∧ (freeSlot tag s).cb = s.cb
      ∧ (freeSlot tag s).re = s.re ∧ (freeSlot tag s).br = s.br ∧ (freeSlot tag s).stu = s.stu
      ∧ (freeSlot tag s).hi = s.hi ∧ (freeSlot tag s).pe = s.pe ∧ (freeSlot tag s).fm = s.fm
      ∧ (freeSlot tag s).ss = s.ss ∧ (freeSlot tag s).fresh = s.fresh ∧ (freeSlot tag s).pending = s.pending := by
  unfold freeSlot
  dsimp only
  (repeat' split) <;> simp

@[simp] theorem onEnter_frame (r : Report) (s : State) :
    (onEnter r s).powered = s.powered ∧ (onEnter r s).jl = s.jl ∧ (onEnter r s).cb = s.cb ∧ (onEnter r s).re = s.re
      ∧ (onEnter r s).br = s.br ∧ (onEnter r s).stu = s.stu ∧ (onEnter r s).hi = s.hi ∧ (onEnter r s).pe = s.pe
      ∧ (onEnter r s).fm = s.fm ∧ (onEnter r s).fresh = s.fresh ∧ (onEnter r s).pending = s.pending := by
  unfold onEnter
  (repeat' split) <;> simp

@[simp] theorem enterReport_frame (r : Report) (s : State) :
    (enterReport r s).powered = s.powered ∧ (enterReport r s).cb = s.cb ∧ (enterReport r s).re = s.re
      ∧ (enterReport r s).br = s.br ∧ (enterReport r s).stu = s.stu ∧ (enterReport r s).hi = s.hi
      ∧ (enterReport r s).pe = s.pe ∧ (enterReport r s).fm = s.fm ∧ (enterReport r s).fresh = s.fresh
      ∧ (enterReport r s).pending = s.pending := by
  unfold enterReport
  dsimp only
  simp

@[simp] theorem offerReport_frame (r : Report) (s : State) :
    (offerReport r s).powered = s.powered ∧ (offerReport r s).cb = s.cb ∧ (offerReport r s).re = s.re
      ∧ (offerReport r s).br = s.br ∧ (offerReport r s).stu = s.stu ∧ (offerReport r s).hi = s.hi
      ∧ (offerReport r s).pe = s.pe ∧ (offerReport r s).fm = s.fm ∧ (offerReport r s).fresh = s.fresh
      ∧ (offerReport r s).pending = s.pending := by
  unfold offerReport
  dsimp only
  (repeat' split) <;> simp

@[simp] theorem reply_frame (r : Report) (s : State) :
    (reply r s).powered = s.powered ∧ (reply r s).cb = s.cb ∧ (reply r s).re = s.re ∧ (reply r s).br = s.br
      ∧ (reply r s).stu = s.stu ∧ (reply r s).hi = s.hi ∧ (reply r s).pe = s.pe ∧ (reply r s).fm = s.fm
      ∧ (reply r s).fresh = s.fresh ∧ (reply r s).pending = s.pending := by
  unfold reply
  simp

@[simp] theorem onEnter_err (c : ErrCode) (k : Option Text) (s : State) : onEnter (.err c k) s = s := rfl
@[simp] theorem onEnter_sts (v : StsValues) (s : State) : onEnter (.sts v) s = s := rfl
@[simp] theorem onEnter_abt (n : Nat) (s : State) : onEnter (.abt n) s = s := rfl
@[simp] theorem onEnter_flt (k : FaultKind) (b : Bool) (s : State) : onEnter (.flt k b) s = s := rfl
@[simp] theorem onEnter_cal (p : Option Nat) (s : State) : onEnter (.cal p) s = s := rfl

/-- A report whose entry makes nothing else follow: not DONE (R80) and not RDY (R16). -/
def Report.quiet : Report → Bool
  | .err _ _ | .sts _ | .abt _ | .flt _ _ | .cal _ => true
  | .done _ _ _ _ _ _ _ | .rdy _ => false

theorem onEnter_quiet {r : Report} (h : r.quiet = true) (s : State) : onEnter r s = s := by
  cases r <;> first | rfl | cases h

/-- A quiet report that enters the queue changes JL only. -/
theorem enterReport_quiet_frame {r : Report} (h : r.quiet = true) (s : State) :
    (enterReport r s).powered = s.powered ∧ (enterReport r s).os = s.os ∧ (enterReport r s).cb = s.cb
      ∧ (enterReport r s).jq = s.jq ∧ (enterReport r s).re = s.re ∧ (enterReport r s).br = s.br
      ∧ (enterReport r s).stu = s.stu ∧ (enterReport r s).hi = s.hi ∧ (enterReport r s).pe = s.pe
      ∧ (enterReport r s).lp = s.lp ∧ (enterReport r s).fm = s.fm ∧ (enterReport r s).ss = s.ss
      ∧ (enterReport r s).fresh = s.fresh ∧ (enterReport r s).pending = s.pending := by
  unfold enterReport
  rw [onEnter_quiet h]
  simp

/-- A quiet report that is offered changes JL only. -/
theorem offerReport_quiet_frame {r : Report} (h : r.quiet = true) (s : State) :
    (offerReport r s).powered = s.powered ∧ (offerReport r s).os = s.os ∧ (offerReport r s).cb = s.cb
      ∧ (offerReport r s).jq = s.jq ∧ (offerReport r s).re = s.re ∧ (offerReport r s).br = s.br
      ∧ (offerReport r s).stu = s.stu ∧ (offerReport r s).hi = s.hi ∧ (offerReport r s).pe = s.pe
      ∧ (offerReport r s).lp = s.lp ∧ (offerReport r s).fm = s.fm ∧ (offerReport r s).ss = s.ss
      ∧ (offerReport r s).fresh = s.fresh ∧ (offerReport r s).pending = s.pending := by
  unfold offerReport
  split
  · simp [enterReport_quiet_frame h]
  · simp

@[simp] theorem enterReport_err_frame (c : ErrCode) (k : Option Text) (s : State) :
    (enterReport (.err c k) s).powered = s.powered ∧ (enterReport (.err c k) s).os = s.os
      ∧ (enterReport (.err c k) s).cb = s.cb ∧ (enterReport (.err c k) s).jq = s.jq
      ∧ (enterReport (.err c k) s).re = s.re ∧ (enterReport (.err c k) s).br = s.br
      ∧ (enterReport (.err c k) s).stu = s.stu ∧ (enterReport (.err c k) s).hi = s.hi
      ∧ (enterReport (.err c k) s).pe = s.pe ∧ (enterReport (.err c k) s).lp = s.lp
      ∧ (enterReport (.err c k) s).fm = s.fm ∧ (enterReport (.err c k) s).ss = s.ss
      ∧ (enterReport (.err c k) s).fresh = s.fresh ∧ (enterReport (.err c k) s).pending = s.pending :=
  enterReport_quiet_frame rfl s

@[simp] theorem enterReport_sts_frame (v : StsValues) (s : State) :
    (enterReport (.sts v) s).powered = s.powered ∧ (enterReport (.sts v) s).os = s.os
      ∧ (enterReport (.sts v) s).cb = s.cb ∧ (enterReport (.sts v) s).jq = s.jq ∧ (enterReport (.sts v) s).re = s.re
      ∧ (enterReport (.sts v) s).br = s.br ∧ (enterReport (.sts v) s).stu = s.stu
      ∧ (enterReport (.sts v) s).hi = s.hi ∧ (enterReport (.sts v) s).pe = s.pe ∧ (enterReport (.sts v) s).lp = s.lp
      ∧ (enterReport (.sts v) s).fm = s.fm ∧ (enterReport (.sts v) s).ss = s.ss
      ∧ (enterReport (.sts v) s).fresh = s.fresh ∧ (enterReport (.sts v) s).pending = s.pending :=
  enterReport_quiet_frame rfl s

@[simp] theorem offerReport_sts_frame (v : StsValues) (s : State) :
    (offerReport (.sts v) s).powered = s.powered ∧ (offerReport (.sts v) s).os = s.os
      ∧ (offerReport (.sts v) s).cb = s.cb ∧ (offerReport (.sts v) s).jq = s.jq ∧ (offerReport (.sts v) s).re = s.re
      ∧ (offerReport (.sts v) s).br = s.br ∧ (offerReport (.sts v) s).stu = s.stu
      ∧ (offerReport (.sts v) s).hi = s.hi ∧ (offerReport (.sts v) s).pe = s.pe ∧ (offerReport (.sts v) s).lp = s.lp
      ∧ (offerReport (.sts v) s).fm = s.fm ∧ (offerReport (.sts v) s).ss = s.ss
      ∧ (offerReport (.sts v) s).fresh = s.fresh ∧ (offerReport (.sts v) s).pending = s.pending :=
  offerReport_quiet_frame rfl s

@[simp] theorem enterReport_abt_frame (n : Nat) (s : State) :
    (enterReport (.abt n) s).powered = s.powered ∧ (enterReport (.abt n) s).os = s.os
      ∧ (enterReport (.abt n) s).cb = s.cb ∧ (enterReport (.abt n) s).jq = s.jq ∧ (enterReport (.abt n) s).re = s.re
      ∧ (enterReport (.abt n) s).br = s.br ∧ (enterReport (.abt n) s).stu = s.stu
      ∧ (enterReport (.abt n) s).hi = s.hi ∧ (enterReport (.abt n) s).pe = s.pe ∧ (enterReport (.abt n) s).lp = s.lp
      ∧ (enterReport (.abt n) s).fm = s.fm ∧ (enterReport (.abt n) s).ss = s.ss
      ∧ (enterReport (.abt n) s).fresh = s.fresh ∧ (enterReport (.abt n) s).pending = s.pending :=
  enterReport_quiet_frame rfl s

@[simp] theorem offerReport_abt_frame (n : Nat) (s : State) :
    (offerReport (.abt n) s).powered = s.powered ∧ (offerReport (.abt n) s).os = s.os
      ∧ (offerReport (.abt n) s).cb = s.cb ∧ (offerReport (.abt n) s).jq = s.jq ∧ (offerReport (.abt n) s).re = s.re
      ∧ (offerReport (.abt n) s).br = s.br ∧ (offerReport (.abt n) s).stu = s.stu
      ∧ (offerReport (.abt n) s).hi = s.hi ∧ (offerReport (.abt n) s).pe = s.pe ∧ (offerReport (.abt n) s).lp = s.lp
      ∧ (offerReport (.abt n) s).fm = s.fm ∧ (offerReport (.abt n) s).ss = s.ss
      ∧ (offerReport (.abt n) s).fresh = s.fresh ∧ (offerReport (.abt n) s).pending = s.pending :=
  offerReport_quiet_frame rfl s

@[simp] theorem enterReport_flt_frame (k : FaultKind) (b : Bool) (s : State) :
    (enterReport (.flt k b) s).powered = s.powered ∧ (enterReport (.flt k b) s).os = s.os
      ∧ (enterReport (.flt k b) s).cb = s.cb ∧ (enterReport (.flt k b) s).jq = s.jq
      ∧ (enterReport (.flt k b) s).re = s.re ∧ (enterReport (.flt k b) s).br = s.br
      ∧ (enterReport (.flt k b) s).stu = s.stu ∧ (enterReport (.flt k b) s).hi = s.hi
      ∧ (enterReport (.flt k b) s).pe = s.pe ∧ (enterReport (.flt k b) s).lp = s.lp
      ∧ (enterReport (.flt k b) s).fm = s.fm ∧ (enterReport (.flt k b) s).ss = s.ss
      ∧ (enterReport (.flt k b) s).fresh = s.fresh ∧ (enterReport (.flt k b) s).pending = s.pending :=
  enterReport_quiet_frame rfl s

@[simp] theorem offerReport_flt_frame (k : FaultKind) (b : Bool) (s : State) :
    (offerReport (.flt k b) s).powered = s.powered ∧ (offerReport (.flt k b) s).os = s.os
      ∧ (offerReport (.flt k b) s).cb = s.cb ∧ (offerReport (.flt k b) s).jq = s.jq
      ∧ (offerReport (.flt k b) s).re = s.re ∧ (offerReport (.flt k b) s).br = s.br
      ∧ (offerReport (.flt k b) s).stu = s.stu ∧ (offerReport (.flt k b) s).hi = s.hi
      ∧ (offerReport (.flt k b) s).pe = s.pe ∧ (offerReport (.flt k b) s).lp = s.lp
      ∧ (offerReport (.flt k b) s).fm = s.fm ∧ (offerReport (.flt k b) s).ss = s.ss
      ∧ (offerReport (.flt k b) s).fresh = s.fresh ∧ (offerReport (.flt k b) s).pending = s.pending :=
  offerReport_quiet_frame rfl s

@[simp] theorem offerReport_cal_frame (p : Option Nat) (s : State) :
    (offerReport (.cal p) s).powered = s.powered ∧ (offerReport (.cal p) s).os = s.os
      ∧ (offerReport (.cal p) s).cb = s.cb ∧ (offerReport (.cal p) s).jq = s.jq ∧ (offerReport (.cal p) s).re = s.re
      ∧ (offerReport (.cal p) s).br = s.br ∧ (offerReport (.cal p) s).stu = s.stu
      ∧ (offerReport (.cal p) s).hi = s.hi ∧ (offerReport (.cal p) s).pe = s.pe ∧ (offerReport (.cal p) s).lp = s.lp
      ∧ (offerReport (.cal p) s).fm = s.fm ∧ (offerReport (.cal p) s).ss = s.ss
      ∧ (offerReport (.cal p) s).fresh = s.fresh ∧ (offerReport (.cal p) s).pending = s.pending :=
  offerReport_quiet_frame rfl s
@[simp] theorem offerNotice_frame (k : FaultKind) (s : State) :
    (offerNotice k s).powered = s.powered ∧ (offerNotice k s).os = s.os ∧ (offerNotice k s).cb = s.cb
      ∧ (offerNotice k s).jq = s.jq ∧ (offerNotice k s).re = s.re ∧ (offerNotice k s).br = s.br
      ∧ (offerNotice k s).stu = s.stu ∧ (offerNotice k s).hi = s.hi ∧ (offerNotice k s).pe = s.pe
      ∧ (offerNotice k s).lp = s.lp ∧ (offerNotice k s).ss = s.ss ∧ (offerNotice k s).fresh = s.fresh
      ∧ (offerNotice k s).pending = s.pending := by
  unfold offerNotice
  split <;> simp 

/-- A fold keeps what every of its steps keeps. -/
theorem foldl_keeps {α β γ : Type} (g : β → γ) (f : β → α → β) (h : ∀ s a, g (f s a) = g s) (l : List α) (s : β) :
    g (l.foldl f s) = g s := by
  induction l generalizing s with
  | nil => rfl
  | cons a l ih => simp [List.foldl_cons, ih, h]

@[simp] theorem offerNotices_frame (s : State) :
    (offerNotices s).powered = s.powered ∧ (offerNotices s).os = s.os ∧ (offerNotices s).cb = s.cb
      ∧ (offerNotices s).jq = s.jq ∧ (offerNotices s).re = s.re ∧ (offerNotices s).br = s.br
      ∧ (offerNotices s).stu = s.stu ∧ (offerNotices s).hi = s.hi ∧ (offerNotices s).pe = s.pe
      ∧ (offerNotices s).lp = s.lp ∧ (offerNotices s).ss = s.ss ∧ (offerNotices s).fresh = s.fresh
      ∧ (offerNotices s).pending = s.pending := by
  unfold offerNotices
  refine ⟨?_, ?_, ?_, ?_, ?_, ?_, ?_, ?_, ?_, ?_, ?_, ?_, ?_⟩ <;> exact foldl_keeps _ _ (by intro s k; simp) _ s

@[simp] theorem raiseFault_frame (k : FaultKind) (s : State) :
    (raiseFault k s).powered = s.powered ∧ (raiseFault k s).os = s.os ∧ (raiseFault k s).cb = s.cb
      ∧ (raiseFault k s).jq = s.jq ∧ (raiseFault k s).re = s.re ∧ (raiseFault k s).br = s.br
      ∧ (raiseFault k s).stu = s.stu ∧ (raiseFault k s).hi = s.hi ∧ (raiseFault k s).pe = s.pe
      ∧ (raiseFault k s).lp = s.lp ∧ (raiseFault k s).ss = s.ss ∧ (raiseFault k s).fresh = s.fresh
      ∧ (raiseFault k s).pending = s.pending := by
  unfold raiseFault
  simp

@[simp] theorem refuse_frame (code : ErrCode) (k : Keyword) (s : State) :
    (refuse code k s).powered = s.powered ∧ (refuse code k s).os = s.os ∧ (refuse code k s).cb = s.cb
      ∧ (refuse code k s).jq = s.jq ∧ (refuse code k s).re = s.re ∧ (refuse code k s).br = s.br
      ∧ (refuse code k s).stu = s.stu ∧ (refuse code k s).hi = s.hi ∧ (refuse code k s).pe = s.pe
      ∧ (refuse code k s).lp = s.lp ∧ (refuse code k s).fm = s.fm ∧ (refuse code k s).ss = s.ss
      ∧ (refuse code k s).fresh = s.fresh ∧ (refuse code k s).pending = s.pending := by
  simp [refuse, reply]

@[simp] theorem addMark_frame (id : CopyId) (f : Marks → Marks) (s : State) :
    (addMark id f s).powered = s.powered ∧ (addMark id f s).jl = s.jl ∧ (addMark id f s).os = s.os
      ∧ (addMark id f s).cb = s.cb ∧ (addMark id f s).re = s.re ∧ (addMark id f s).br = s.br
      ∧ (addMark id f s).stu = s.stu ∧ (addMark id f s).hi = s.hi ∧ (addMark id f s).pe = s.pe
      ∧ (addMark id f s).lp = s.lp ∧ (addMark id f s).fm = s.fm ∧ (addMark id f s).ss = s.ss
      ∧ (addMark id f s).fresh = s.fresh ∧ (addMark id f s).pending = s.pending := by
  unfold addMark
  simp

@[simp] theorem markLabel_frame (f : Marks → Marks) (s : State) :
    (markLabel f s).powered = s.powered ∧ (markLabel f s).jl = s.jl ∧ (markLabel f s).os = s.os
      ∧ (markLabel f s).cb = s.cb ∧ (markLabel f s).re = s.re ∧ (markLabel f s).br = s.br
      ∧ (markLabel f s).stu = s.stu ∧ (markLabel f s).hi = s.hi ∧ (markLabel f s).pe = s.pe
      ∧ (markLabel f s).lp = s.lp ∧ (markLabel f s).fm = s.fm ∧ (markLabel f s).ss = s.ss
      ∧ (markLabel f s).fresh = s.fresh ∧ (markLabel f s).pending = s.pending := by
  unfold markLabel
  (repeat' split) <;> simp

@[simp] theorem compareReadback_frame (readback : Dots) (s : State) :
    (compareReadback readback s).powered = s.powered ∧ (compareReadback readback s).jl = s.jl
      ∧ (compareReadback readback s).os = s.os ∧ (compareReadback readback s).cb = s.cb
      ∧ (compareReadback readback s).re = s.re ∧ (compareReadback readback s).br = s.br
      ∧ (compareReadback readback s).stu = s.stu ∧ (compareReadback readback s).pe = s.pe
      ∧ (compareReadback readback s).lp = s.lp ∧ (compareReadback readback s).fm = s.fm
      ∧ (compareReadback readback s).ss = s.ss ∧ (compareReadback readback s).fresh = s.fresh
      ∧ (compareReadback readback s).pending = s.pending := by
  unfold compareReadback
  dsimp only
  (repeat' split) <;> simp

@[simp] theorem beginClosing_frame (s : State) :
    (beginClosing s).powered = s.powered ∧ (beginClosing s).jl = s.jl ∧ (beginClosing s).os = s.os
      ∧ (beginClosing s).cb = s.cb ∧ (beginClosing s).jq = s.jq ∧ (beginClosing s).re = s.re
      ∧ (beginClosing s).br = s.br ∧ (beginClosing s).stu = s.stu ∧ (beginClosing s).pe = s.pe
      ∧ (beginClosing s).lp = s.lp ∧ (beginClosing s).fm = s.fm ∧ (beginClosing s).ss = s.ss
      ∧ (beginClosing s).fresh = s.fresh ∧ (beginClosing s).pending = s.pending := by
  unfold beginClosing
  dsimp only
  (repeat' split) <;> simp

@[simp] theorem applyVerdict_frame (s : State) :
    (applyVerdict s).powered = s.powered ∧ (applyVerdict s).jl = s.jl ∧ (applyVerdict s).os = s.os
      ∧ (applyVerdict s).cb = s.cb ∧ (applyVerdict s).jq = s.jq ∧ (applyVerdict s).re = s.re
      ∧ (applyVerdict s).br = s.br ∧ (applyVerdict s).stu = s.stu ∧ (applyVerdict s).lp = s.lp
      ∧ (applyVerdict s).ss = s.ss ∧ (applyVerdict s).fresh = s.fresh ∧ (applyVerdict s).pending = s.pending := by
  unfold applyVerdict
  dsimp only
  (repeat' split) <;> simp

@[simp] theorem startIdleTimer_frame (s : State) :
    (startIdleTimer s).powered = s.powered ∧ (startIdleTimer s).jl = s.jl ∧ (startIdleTimer s).os = s.os
      ∧ (startIdleTimer s).cb = s.cb ∧ (startIdleTimer s).jq = s.jq ∧ (startIdleTimer s).re = s.re
      ∧ (startIdleTimer s).br = s.br ∧ (startIdleTimer s).stu = s.stu ∧ (startIdleTimer s).pe = s.pe
      ∧ (startIdleTimer s).lp = s.lp ∧ (startIdleTimer s).fm = s.fm ∧ (startIdleTimer s).ss = s.ss
      ∧ (startIdleTimer s).fresh = s.fresh ∧ (startIdleTimer s).pending = s.pending := by
  unfold startIdleTimer
  dsimp only
  (repeat' split) <;> simp

@[simp] theorem headReset_frame (s : State) :
    (headReset s).powered = s.powered ∧ (headReset s).jl = s.jl ∧ (headReset s).os = s.os ∧ (headReset s).cb = s.cb
      ∧ (headReset s).jq = s.jq ∧ (headReset s).re = s.re ∧ (headReset s).br = s.br ∧ (headReset s).stu = s.stu
      ∧ (headReset s).pe = s.pe ∧ (headReset s).lp = s.lp ∧ (headReset s).fm = s.fm ∧ (headReset s).ss = s.ss
      ∧ (headReset s).fresh = s.fresh ∧ (headReset s).pending = s.pending := by
  unfold headReset
  dsimp only
  simp

@[simp] theorem headLabelStart_frame (s : State) :
    (headLabelStart s).powered = s.powered ∧ (headLabelStart s).jl = s.jl ∧ (headLabelStart s).os = s.os
      ∧ (headLabelStart s).cb = s.cb ∧ (headLabelStart s).jq = s.jq ∧ (headLabelStart s).re = s.re
      ∧ (headLabelStart s).br = s.br ∧ (headLabelStart s).pe = s.pe ∧ (headLabelStart s).lp = s.lp
      ∧ (headLabelStart s).fm = s.fm ∧ (headLabelStart s).ss = s.ss ∧ (headLabelStart s).fresh = s.fresh
      ∧ (headLabelStart s).pending = s.pending := by
  unfold headLabelStart
  dsimp only
  simp

@[simp] theorem headBeginLine_frame (d : Dots) (s : State) :
    (headBeginLine d s).powered = s.powered ∧ (headBeginLine d s).jl = s.jl ∧ (headBeginLine d s).os = s.os
      ∧ (headBeginLine d s).cb = s.cb ∧ (headBeginLine d s).jq = s.jq ∧ (headBeginLine d s).re = s.re
      ∧ (headBeginLine d s).br = s.br ∧ (headBeginLine d s).pe = s.pe ∧ (headBeginLine d s).lp = s.lp
      ∧ (headBeginLine d s).fm = s.fm ∧ (headBeginLine d s).ss = s.ss ∧ (headBeginLine d s).fresh = s.fresh
      ∧ (headBeginLine d s).pending = s.pending := by
  unfold headBeginLine
  dsimp only
  simp

@[simp] theorem stopRender_frame (id : CopyId) (s : State) :
    (stopRender id s).powered = s.powered ∧ (stopRender id s).jl = s.jl ∧ (stopRender id s).os = s.os
      ∧ (stopRender id s).cb = s.cb ∧ (stopRender id s).jq = s.jq ∧ (stopRender id s).br = s.br
      ∧ (stopRender id s).stu = s.stu ∧ (stopRender id s).hi = s.hi ∧ (stopRender id s).pe = s.pe
      ∧ (stopRender id s).lp = s.lp ∧ (stopRender id s).fm = s.fm ∧ (stopRender id s).ss = s.ss
      ∧ (stopRender id s).fresh = s.fresh ∧ (stopRender id s).pending = s.pending := by
  unfold stopRender
  (repeat' split) <;> simp

@[simp] theorem releaseCopy_frame (id : CopyId) (s : State) :
    (releaseCopy id s).powered = s.powered ∧ (releaseCopy id s).jl = s.jl ∧ (releaseCopy id s).os = s.os
      ∧ (releaseCopy id s).cb = s.cb ∧ (releaseCopy id s).jq = s.jq ∧ (releaseCopy id s).stu = s.stu
      ∧ (releaseCopy id s).hi = s.hi ∧ (releaseCopy id s).pe = s.pe ∧ (releaseCopy id s).lp = s.lp
      ∧ (releaseCopy id s).fm = s.fm ∧ (releaseCopy id s).ss = s.ss ∧ (releaseCopy id s).fresh = s.fresh
      ∧ (releaseCopy id s).pending = s.pending := by
  unfold releaseCopy
  simp

@[simp] theorem allocateBand_frame (c : RenderContext) (s : State) :
    (allocateBand c s).powered = s.powered ∧ (allocateBand c s).jl = s.jl ∧ (allocateBand c s).os = s.os
      ∧ (allocateBand c s).cb = s.cb ∧ (allocateBand c s).jq = s.jq ∧ (allocateBand c s).stu = s.stu
      ∧ (allocateBand c s).hi = s.hi ∧ (allocateBand c s).pe = s.pe ∧ (allocateBand c s).lp = s.lp
      ∧ (allocateBand c s).fm = s.fm ∧ (allocateBand c s).ss = s.ss ∧ (allocateBand c s).fresh = s.fresh
      ∧ (allocateBand c s).pending = s.pending := by
  unfold allocateBand
  dsimp only
  (repeat' split) <;> simp

@[simp] theorem endCopy_frame (id : CopyId) (r : CopyResult) (s : State) :
    (endCopy id r s).powered = s.powered ∧ (endCopy id r s).jl = s.jl ∧ (endCopy id r s).os = s.os
      ∧ (endCopy id r s).cb = s.cb ∧ (endCopy id r s).re = s.re ∧ (endCopy id r s).br = s.br
      ∧ (endCopy id r s).stu = s.stu ∧ (endCopy id r s).hi = s.hi ∧ (endCopy id r s).fm = s.fm
      ∧ (endCopy id r s).ss = s.ss ∧ (endCopy id r s).fresh = s.fresh ∧ (endCopy id r s).pending = s.pending := by
  unfold endCopy
  dsimp only
  simp

/-- A DONE report that is offered leaves what the freeing of a slot leaves. -/
theorem offerReport_done_frame (tag a m w v f : Nat) (serials : Option (Nat × Nat)) (s : State) :
    (offerReport (.done tag a m w v f serials) s).powered = s.powered
      ∧ (offerReport (.done tag a m w v f serials) s).cb = s.cb
      ∧ (offerReport (.done tag a m w v f serials) s).re = s.re
      ∧ (offerReport (.done tag a m w v f serials) s).br = s.br
      ∧ (offerReport (.done tag a m w v f serials) s).stu = s.stu
      ∧ (offerReport (.done tag a m w v f serials) s).hi = s.hi
      ∧ (offerReport (.done tag a m w v f serials) s).pe = s.pe
      ∧ (offerReport (.done tag a m w v f serials) s).fm = s.fm
      ∧ (offerReport (.done tag a m w v f serials) s).ss = s.ss
      ∧ (offerReport (.done tag a m w v f serials) s).fresh = s.fresh
      ∧ (offerReport (.done tag a m w v f serials) s).pending = s.pending := by
  unfold offerReport
  split
  · simp [enterReport, onEnter]
  · simp

@[simp] theorem offerDone_frame (tag : Nat) (s : State) :
    (offerDone tag s).powered = s.powered ∧ (offerDone tag s).cb = s.cb ∧ (offerDone tag s).re = s.re
      ∧ (offerDone tag s).br = s.br ∧ (offerDone tag s).stu = s.stu ∧ (offerDone tag s).hi = s.hi
      ∧ (offerDone tag s).pe = s.pe ∧ (offerDone tag s).fm = s.fm ∧ (offerDone tag s).ss = s.ss
      ∧ (offerDone tag s).fresh = s.fresh ∧ (offerDone tag s).pending = s.pending := by
  unfold offerDone
  (repeat' split) <;> simp [doneReport, offerReport_done_frame]

@[simp] theorem endUnprinted_frame (id : CopyId) (r : CopyResult) (s : State) :
    (endUnprinted id r s).powered = s.powered ∧ (endUnprinted id r s).jl = s.jl ∧ (endUnprinted id r s).os = s.os
      ∧ (endUnprinted id r s).cb = s.cb ∧ (endUnprinted id r s).stu = s.stu ∧ (endUnprinted id r s).hi = s.hi
      ∧ (endUnprinted id r s).fm = s.fm ∧ (endUnprinted id r s).ss = s.ss ∧ (endUnprinted id r s).fresh = s.fresh
      ∧ (endUnprinted id r s).pending = s.pending := by
  unfold endUnprinted
  simp

@[simp] theorem applyGeometry_frame (s : State) :
    (applyGeometry s).powered = s.powered ∧ (applyGeometry s).jl = s.jl ∧ (applyGeometry s).os = s.os
      ∧ (applyGeometry s).cb = s.cb ∧ (applyGeometry s).jq = s.jq ∧ (applyGeometry s).re = s.re
      ∧ (applyGeometry s).br = s.br ∧ (applyGeometry s).stu = s.stu ∧ (applyGeometry s).hi = s.hi
      ∧ (applyGeometry s).lp = s.lp ∧ (applyGeometry s).fm = s.fm ∧ (applyGeometry s).ss = s.ss
      ∧ (applyGeometry s).fresh = s.fresh ∧ (applyGeometry s).pending = s.pending := by
  unfold applyGeometry
  dsimp only
  (repeat' split) <;> simp

@[simp] theorem enterIdle_frame (s : State) :
    (enterIdle s).powered = s.powered ∧ (enterIdle s).jl = s.jl ∧ (enterIdle s).os = s.os ∧ (enterIdle s).cb = s.cb
      ∧ (enterIdle s).jq = s.jq ∧ (enterIdle s).re = s.re ∧ (enterIdle s).br = s.br ∧ (enterIdle s).stu = s.stu
      ∧ (enterIdle s).lp = s.lp ∧ (enterIdle s).fm = s.fm ∧ (enterIdle s).ss = s.ss ∧ (enterIdle s).fresh = s.fresh
      ∧ (enterIdle s).pending = s.pending := by
  unfold enterIdle
  dsimp only
  simp

@[simp] theorem takeCapture_frame (s : State) :
    (takeCapture s).powered = s.powered ∧ (takeCapture s).jl = s.jl ∧ (takeCapture s).os = s.os
      ∧ (takeCapture s).cb = s.cb ∧ (takeCapture s).jq = s.jq ∧ (takeCapture s).re = s.re
      ∧ (takeCapture s).br = s.br ∧ (takeCapture s).stu = s.stu ∧ (takeCapture s).hi = s.hi
      ∧ (takeCapture s).lp = s.lp ∧ (takeCapture s).ss = s.ss ∧ (takeCapture s).fresh = s.fresh
      ∧ (takeCapture s).pending = s.pending := by
  unfold takeCapture
  dsimp only
  (repeat' split) <;> simp

@[simp] theorem takeEdge_frame (level : SensorLevel) (s : State) :
    (takeEdge level s).powered = s.powered ∧ (takeEdge level s).jl = s.jl ∧ (takeEdge level s).os = s.os
      ∧ (takeEdge level s).cb = s.cb ∧ (takeEdge level s).jq = s.jq ∧ (takeEdge level s).re = s.re
      ∧ (takeEdge level s).br = s.br ∧ (takeEdge level s).stu = s.stu ∧ (takeEdge level s).hi = s.hi
      ∧ (takeEdge level s).lp = s.lp ∧ (takeEdge level s).ss = s.ss ∧ (takeEdge level s).fresh = s.fresh
      ∧ (takeEdge level s).pending = s.pending := by
  unfold takeEdge
  dsimp only
  (repeat' split) <;> simp

@[simp] theorem tripGuard_frame (s : State) :
    (tripGuard s).powered = s.powered ∧ (tripGuard s).jl = s.jl ∧ (tripGuard s).os = s.os ∧ (tripGuard s).cb = s.cb
      ∧ (tripGuard s).re = s.re ∧ (tripGuard s).br = s.br ∧ (tripGuard s).stu = s.stu ∧ (tripGuard s).lp = s.lp
      ∧ (tripGuard s).ss = s.ss ∧ (tripGuard s).fresh = s.fresh ∧ (tripGuard s).pending = s.pending := by
  unfold tripGuard
  dsimp only
  (repeat' split) <;> simp

@[simp] theorem guardedStep_frame (level : SensorLevel) (s : State) :
    (guardedStep level s).1.powered = s.powered ∧ (guardedStep level s).1.os = s.os
      ∧ (guardedStep level s).1.cb = s.cb ∧ (guardedStep level s).1.re = s.re
      ∧ (guardedStep level s).1.br = s.br ∧ (guardedStep level s).1.stu = s.stu
      ∧ (guardedStep level s).1.lp = s.lp ∧ (guardedStep level s).1.ss = s.ss
      ∧ (guardedStep level s).1.fresh = s.fresh ∧ (guardedStep level s).1.pending = s.pending := by
  unfold guardedStep
  dsimp only
  (repeat' split) <;> simp

@[simp] theorem presentCopy_frame (copy : Option CopyId) (s : State) :
    (presentCopy copy s).1.powered = s.powered ∧ (presentCopy copy s).1.cb = s.cb
      ∧ (presentCopy copy s).1.re = s.re ∧ (presentCopy copy s).1.br = s.br
      ∧ (presentCopy copy s).1.stu = s.stu ∧ (presentCopy copy s).1.hi = s.hi
      ∧ (presentCopy copy s).1.fm = s.fm ∧ (presentCopy copy s).1.ss = s.ss
      ∧ (presentCopy copy s).1.fresh = s.fresh ∧ (presentCopy copy s).1.pending = s.pending := by
  unfold presentCopy
  (repeat' split) <;> simp

@[simp] theorem present_frame (l : LabelContext) (s : State) :
    (present l s).powered = s.powered ∧ (present l s).cb = s.cb ∧ (present l s).re = s.re ∧ (present l s).br = s.br
      ∧ (present l s).stu = s.stu ∧ (present l s).ss = s.ss ∧ (present l s).fresh = s.fresh
      ∧ (present l s).pending = s.pending := by
  unfold present
  dsimp only
  simp

@[simp] theorem completeFeedOut_frame (l : LabelContext) (s : State) :
    (completeFeedOut l s).powered = s.powered ∧ (completeFeedOut l s).cb = s.cb ∧ (completeFeedOut l s).re = s.re
      ∧ (completeFeedOut l s).br = s.br ∧ (completeFeedOut l s).stu = s.stu ∧ (completeFeedOut l s).ss = s.ss
      ∧ (completeFeedOut l s).fresh = s.fresh ∧ (completeFeedOut l s).pending = s.pending := by
  unfold completeFeedOut
  dsimp only
  (repeat' split) <;> simp

@[simp] theorem startFeedOut_frame (l : LabelContext) (s : State) :
    (startFeedOut l s).powered = s.powered ∧ (startFeedOut l s).cb = s.cb ∧ (startFeedOut l s).re = s.re
      ∧ (startFeedOut l s).br = s.br ∧ (startFeedOut l s).stu = s.stu ∧ (startFeedOut l s).ss = s.ss
      ∧ (startFeedOut l s).fresh = s.fresh ∧ (startFeedOut l s).pending = s.pending := by
  unfold startFeedOut
  dsimp only
  (repeat' split) <;> simp

@[simp] theorem freeHeld_frame (id : CopyId) (s : State) :
    (freeHeld id s).powered = s.powered ∧ (freeHeld id s).jl = s.jl ∧ (freeHeld id s).os = s.os
      ∧ (freeHeld id s).cb = s.cb ∧ (freeHeld id s).jq = s.jq ∧ (freeHeld id s).stu = s.stu
      ∧ (freeHeld id s).hi = s.hi ∧ (freeHeld id s).pe = s.pe ∧ (freeHeld id s).lp = s.lp
      ∧ (freeHeld id s).fm = s.fm ∧ (freeHeld id s).ss = s.ss ∧ (freeHeld id s).fresh = s.fresh
      ∧ (freeHeld id s).pending = s.pending := by
  unfold freeHeld
  simp

@[simp] theorem freeLabelBands_frame (l : LabelContext) (s : State) :
    (freeLabelBands l s).powered = s.powered ∧ (freeLabelBands l s).jl = s.jl ∧ (freeLabelBands l s).os = s.os
      ∧ (freeLabelBands l s).cb = s.cb ∧ (freeLabelBands l s).jq = s.jq ∧ (freeLabelBands l s).stu = s.stu
      ∧ (freeLabelBands l s).hi = s.hi ∧ (freeLabelBands l s).pe = s.pe ∧ (freeLabelBands l s).lp = s.lp
      ∧ (freeLabelBands l s).fm = s.fm ∧ (freeLabelBands l s).ss = s.ss ∧ (freeLabelBands l s).fresh = s.fresh
      ∧ (freeLabelBands l s).pending = s.pending := by
  unfold freeLabelBands
  (repeat' split) <;> simp

@[simp] theorem beginLine_frame (l : LabelContext) (b : Nat) (s : State) :
    (beginLine l b s).powered = s.powered ∧ (beginLine l b s).jl = s.jl ∧ (beginLine l b s).os = s.os
      ∧ (beginLine l b s).cb = s.cb ∧ (beginLine l b s).jq = s.jq ∧ (beginLine l b s).re = s.re
      ∧ (beginLine l b s).lp = s.lp ∧ (beginLine l b s).fm = s.fm ∧ (beginLine l b s).ss = s.ss
      ∧ (beginLine l b s).fresh = s.fresh ∧ (beginLine l b s).pending = s.pending := by
  unfold beginLine
  dsimp only
  simp

@[simp] theorem decideBoundary_frame (s : State) :
    (decideBoundary s).powered = s.powered ∧ (decideBoundary s).cb = s.cb ∧ (decideBoundary s).ss = s.ss
      ∧ (decideBoundary s).fresh = s.fresh ∧ (decideBoundary s).pending = s.pending := by
  unfold decideBoundary
  dsimp only
  (repeat' split) <;> simp

@[simp] theorem freePrintingBand_frame (s : State) :
    (freePrintingBand s).powered = s.powered ∧ (freePrintingBand s).jl = s.jl ∧ (freePrintingBand s).os = s.os
      ∧ (freePrintingBand s).cb = s.cb ∧ (freePrintingBand s).jq = s.jq ∧ (freePrintingBand s).re = s.re
      ∧ (freePrintingBand s).stu = s.stu ∧ (freePrintingBand s).hi = s.hi ∧ (freePrintingBand s).lp = s.lp
      ∧ (freePrintingBand s).fm = s.fm ∧ (freePrintingBand s).ss = s.ss ∧ (freePrintingBand s).fresh = s.fresh
      ∧ (freePrintingBand s).pending = s.pending := by
  unfold freePrintingBand
  dsimp only
  (repeat' split) <;> simp

@[simp] theorem stopLabel_frame (s : State) :
    (stopLabel s).powered = s.powered ∧ (stopLabel s).cb = s.cb ∧ (stopLabel s).ss = s.ss
      ∧ (stopLabel s).fresh = s.fresh ∧ (stopLabel s).pending = s.pending := by
  unfold stopLabel
  dsimp only
  (repeat' split) <;> simp

@[simp] theorem withdraw_frame (id : CopyId) (s : State) :
    (withdraw id s).powered = s.powered ∧ (withdraw id s).cb = s.cb ∧ (withdraw id s).ss = s.ss
      ∧ (withdraw id s).fresh = s.fresh ∧ (withdraw id s).pending = s.pending := by
  unfold withdraw
  (repeat' split) <;> simp

@[simp] theorem contCalibrate_frame (s : State) :
    (contCalibrate s).powered = s.powered ∧ (contCalibrate s).os = s.os ∧ (contCalibrate s).cb = s.cb
      ∧ (contCalibrate s).jq = s.jq ∧ (contCalibrate s).re = s.re ∧ (contCalibrate s).br = s.br
      ∧ (contCalibrate s).stu = s.stu ∧ (contCalibrate s).hi = s.hi ∧ (contCalibrate s).lp = s.lp
      ∧ (contCalibrate s).ss = s.ss ∧ (contCalibrate s).fresh = s.fresh ∧ (contCalibrate s).pending = s.pending := by
  simp [contCalibrate]

@[simp] theorem startCalibration_frame (origin : CalOrigin) (copy : Option CopyId) (s : State) :
    (startCalibration origin copy s).powered = s.powered ∧ (startCalibration origin copy s).jl = s.jl
      ∧ (startCalibration origin copy s).os = s.os ∧ (startCalibration origin copy s).cb = s.cb
      ∧ (startCalibration origin copy s).jq = s.jq ∧ (startCalibration origin copy s).re = s.re
      ∧ (startCalibration origin copy s).br = s.br ∧ (startCalibration origin copy s).stu = s.stu
      ∧ (startCalibration origin copy s).lp = s.lp ∧ (startCalibration origin copy s).fm = s.fm
      ∧ (startCalibration origin copy s).ss = s.ss ∧ (startCalibration origin copy s).fresh = s.fresh
      ∧ (startCalibration origin copy s).pending = s.pending := by
  unfold startCalibration
  dsimp only
  simp

@[simp] theorem failCalibration_frame (c : Calibration) (s : State) :
    (failCalibration c s).powered = s.powered ∧ (failCalibration c s).cb = s.cb ∧ (failCalibration c s).stu = s.stu
      ∧ (failCalibration c s).ss = s.ss ∧ (failCalibration c s).fresh = s.fresh
      ∧ (failCalibration c s).pending = s.pending := by
  unfold failCalibration
  dsimp only
  (repeat' split) <;> simp 

@[simp] theorem succeedCalibration_frame (s1 s2 : Int) (gap : SensorLevel) (s : State) :
    (succeedCalibration s1 s2 gap s).powered = s.powered ∧ (succeedCalibration s1 s2 gap s).os = s.os
      ∧ (succeedCalibration s1 s2 gap s).cb = s.cb ∧ (succeedCalibration s1 s2 gap s).jq = s.jq
      ∧ (succeedCalibration s1 s2 gap s).re = s.re ∧ (succeedCalibration s1 s2 gap s).br = s.br
      ∧ (succeedCalibration s1 s2 gap s).stu = s.stu ∧ (succeedCalibration s1 s2 gap s).lp = s.lp
      ∧ (succeedCalibration s1 s2 gap s).ss = s.ss ∧ (succeedCalibration s1 s2 gap s).fresh = s.fresh
      ∧ (succeedCalibration s1 s2 gap s).pending = s.pending := by
  simp [succeedCalibration]

@[simp] theorem startLabel_frame (id : CopyId) (s : State) :
    (startLabel id s).powered = s.powered ∧ (startLabel id s).cb = s.cb ∧ (startLabel id s).ss = s.ss
      ∧ (startLabel id s).fresh = s.fresh ∧ (startLabel id s).pending = s.pending := by
  unfold startLabel
  dsimp only
  (repeat' split) <;> simp

@[simp] theorem testLabelStart_frame (s : State) :
    (testLabelStart s).powered = s.powered ∧ (testLabelStart s).cb = s.cb ∧ (testLabelStart s).ss = s.ss
      ∧ (testLabelStart s).fresh = s.fresh ∧ (testLabelStart s).pending = s.pending := by
  unfold testLabelStart
  (repeat' split) <;> simp

@[simp] theorem resume_frame (s : State) :
    (resume s).powered = s.powered ∧ (resume s).cb = s.cb ∧ (resume s).ss = s.ss ∧ (resume s).fresh = s.fresh
      ∧ (resume s).pending = s.pending := by
  unfold resume
  (repeat' split) <;> simp

@[simp] theorem resumeIfEmptied_frame (before : State) (s : State) :
    (resumeIfEmptied before s).powered = s.powered ∧ (resumeIfEmptied before s).cb = s.cb
      ∧ (resumeIfEmptied before s).ss = s.ss ∧ (resumeIfEmptied before s).fresh = s.fresh
      ∧ (resumeIfEmptied before s).pending = s.pending := by
  unfold resumeIfEmptied
  (repeat' split) <;> simp

@[simp] theorem removeReason_frame (r : PauseReason) (s : State) :
    (removeReason r s).powered = s.powered ∧ (removeReason r s).cb = s.cb ∧ (removeReason r s).ss = s.ss
      ∧ (removeReason r s).fresh = s.fresh ∧ (removeReason r s).pending = s.pending := by
  unfold removeReason
  simp

@[simp] theorem readSensorForMediaOut_frame (level : SensorLevel) (s : State) :
    (readSensorForMediaOut level s).powered = s.powered ∧ (readSensorForMediaOut level s).jl = s.jl
      ∧ (readSensorForMediaOut level s).os = s.os ∧ (readSensorForMediaOut level s).cb = s.cb
      ∧ (readSensorForMediaOut level s).jq = s.jq ∧ (readSensorForMediaOut level s).re = s.re
      ∧ (readSensorForMediaOut level s).br = s.br ∧ (readSensorForMediaOut level s).stu = s.stu
      ∧ (readSensorForMediaOut level s).hi = s.hi ∧ (readSensorForMediaOut level s).lp = s.lp
      ∧ (readSensorForMediaOut level s).ss = s.ss ∧ (readSensorForMediaOut level s).fresh = s.fresh
      ∧ (readSensorForMediaOut level s).pending = s.pending := by
  unfold readSensorForMediaOut
  dsimp only
  (repeat' split) <;> simp

@[simp] theorem removePresented_frame (s : State) :
    (removePresented s).powered = s.powered ∧ (removePresented s).cb = s.cb ∧ (removePresented s).ss = s.ss
      ∧ (removePresented s).fresh = s.fresh ∧ (removePresented s).pending = s.pending := by
  unfold removePresented
  dsimp only
  (repeat' split) <;> simp

@[simp] theorem wastePresented_frame (id : CopyId) (s : State) :
    (wastePresented id s).powered = s.powered ∧ (wastePresented id s).jl = s.jl ∧ (wastePresented id s).os = s.os
      ∧ (wastePresented id s).cb = s.cb ∧ (wastePresented id s).re = s.re ∧ (wastePresented id s).br = s.br
      ∧ (wastePresented id s).stu = s.stu ∧ (wastePresented id s).hi = s.hi ∧ (wastePresented id s).fm = s.fm
      ∧ (wastePresented id s).ss = s.ss ∧ (wastePresented id s).fresh = s.fresh
      ∧ (wastePresented id s).pending = s.pending := by
  unfold wastePresented
  simp

@[simp] theorem withdrawCopy_frame (id : CopyId) (s : State) :
    (withdrawCopy id s).powered = s.powered ∧ (withdrawCopy id s).cb = s.cb ∧ (withdrawCopy id s).ss = s.ss
      ∧ (withdrawCopy id s).fresh = s.fresh ∧ (withdrawCopy id s).pending = s.pending := by
  unfold withdrawCopy
  (repeat' split) <;> simp

@[simp] theorem endFeedMove_frame (s : State) :
    (endFeedMove s).powered = s.powered ∧ (endFeedMove s).cb = s.cb ∧ (endFeedMove s).ss = s.ss
      ∧ (endFeedMove s).fresh = s.fresh ∧ (endFeedMove s).pending = s.pending := by
  unfold endFeedMove
  dsimp only
  simp

@[simp] theorem startFeedMove_frame (s : State) :
    (startFeedMove s).powered = s.powered ∧ (startFeedMove s).cb = s.cb ∧ (startFeedMove s).ss = s.ss
      ∧ (startFeedMove s).fresh = s.fresh ∧ (startFeedMove s).pending = s.pending := by
  unfold startFeedMove
  dsimp only
  (repeat' split) <;> simp

@[simp] theorem bindLabel_frame (id : CopyId) (s : State) :
    (bindLabel id s).powered = s.powered ∧ (bindLabel id s).jl = s.jl ∧ (bindLabel id s).os = s.os
      ∧ (bindLabel id s).cb = s.cb ∧ (bindLabel id s).re = s.re ∧ (bindLabel id s).br = s.br
      ∧ (bindLabel id s).stu = s.stu ∧ (bindLabel id s).hi = s.hi ∧ (bindLabel id s).pe = s.pe
      ∧ (bindLabel id s).fm = s.fm ∧ (bindLabel id s).ss = s.ss ∧ (bindLabel id s).fresh = s.fresh
      ∧ (bindLabel id s).pending = s.pending := by
  unfold bindLabel
  simp

@[simp] theorem bindPurge_frame (id : CopyId) (s : State) :
    (bindPurge id s).powered = s.powered ∧ (bindPurge id s).cb = s.cb ∧ (bindPurge id s).ss = s.ss
      ∧ (bindPurge id s).fresh = s.fresh ∧ (bindPurge id s).pending = s.pending := by
  unfold bindPurge
  simp

/-- One binding leaves what a withdrawal leaves. -/
theorem bindOne_frame {s t : State} (h : bindOne s = some t) :
    t.powered = s.powered ∧ t.cb = s.cb ∧ t.ss = s.ss ∧ t.fresh = s.fresh ∧ t.pending = s.pending := by
  unfold bindOne at h
  split at h
  · simp only [Option.some.injEq] at h
    subst h
    split <;> simp
  · cases h

@[simp] theorem bindAll_frame (fuel : Nat) (s : State) :
    (bindAll fuel s).powered = s.powered ∧ (bindAll fuel s).cb = s.cb ∧ (bindAll fuel s).ss = s.ss
      ∧ (bindAll fuel s).fresh = s.fresh ∧ (bindAll fuel s).pending = s.pending := by
  induction fuel generalizing s with
  | zero => simp [bindAll]
  | succ n ih =>
    unfold bindAll
    split
    · rename_i t h
      simp [ih, bindOne_frame h]
    · simp

@[simp] theorem bindEvent_frame (s : State) :
    (bindEvent s).powered = s.powered ∧ (bindEvent s).cb = s.cb ∧ (bindEvent s).ss = s.ss
      ∧ (bindEvent s).fresh = s.fresh ∧ (bindEvent s).pending = s.pending := by
  unfold bindEvent
  simp

@[simp] theorem missEntry_frame (s : State) :
    (missEntry s).powered = s.powered ∧ (missEntry s).jl = s.jl ∧ (missEntry s).os = s.os ∧ (missEntry s).cb = s.cb
      ∧ (missEntry s).jq = s.jq ∧ (missEntry s).re = s.re ∧ (missEntry s).br = s.br ∧ (missEntry s).stu = s.stu
      ∧ (missEntry s).hi = s.hi ∧ (missEntry s).pe = s.pe ∧ (missEntry s).fm = s.fm ∧ (missEntry s).ss = s.ss
      ∧ (missEntry s).fresh = s.fresh ∧ (missEntry s).pending = s.pending := by
  unfold missEntry
  simp

@[simp] theorem applyEntry_frame (id : CopyId) (s : State) :
    (applyEntry id s).powered = s.powered ∧ (applyEntry id s).jl = s.jl ∧ (applyEntry id s).os = s.os
      ∧ (applyEntry id s).cb = s.cb ∧ (applyEntry id s).re = s.re ∧ (applyEntry id s).br = s.br
      ∧ (applyEntry id s).stu = s.stu ∧ (applyEntry id s).hi = s.hi ∧ (applyEntry id s).pe = s.pe
      ∧ (applyEntry id s).fm = s.fm ∧ (applyEntry id s).ss = s.ss ∧ (applyEntry id s).fresh = s.fresh
      ∧ (applyEntry id s).pending = s.pending := by
  unfold applyEntry
  dsimp only
  simp

@[simp] theorem handleEntry_frame (e : Parcel) (s : State) :
    (handleEntry e s).powered = s.powered ∧ (handleEntry e s).cb = s.cb ∧ (handleEntry e s).ss = s.ss
      ∧ (handleEntry e s).fresh = s.fresh ∧ (handleEntry e s).pending = s.pending := by
  unfold handleEntry
  (repeat' split) <;> simp

@[simp] theorem handleApplyPoints_frame (fuel : Nat) (s : State) :
    (handleApplyPoints fuel s).powered = s.powered ∧ (handleApplyPoints fuel s).cb = s.cb
      ∧ (handleApplyPoints fuel s).ss = s.ss ∧ (handleApplyPoints fuel s).fresh = s.fresh
      ∧ (handleApplyPoints fuel s).pending = s.pending := by
  induction fuel generalizing s with
  | zero => simp [handleApplyPoints]
  | succ n ih =>
    unfold handleApplyPoints
    (repeat' split) <;> simp [ih]

@[simp] theorem takeTrigger_frame (w : ConflictWindow) (s : State) :
    (takeTrigger w s).powered = s.powered ∧ (takeTrigger w s).cb = s.cb ∧ (takeTrigger w s).ss = s.ss
      ∧ (takeTrigger w s).fresh = s.fresh ∧ (takeTrigger w s).pending = s.pending := by
  unfold takeTrigger
  dsimp only
  (repeat' split) <;> simp

@[simp] theorem unbindAll_frame (s : State) :
    (unbindAll s).powered = s.powered ∧ (unbindAll s).jl = s.jl ∧ (unbindAll s).os = s.os ∧ (unbindAll s).cb = s.cb
      ∧ (unbindAll s).re = s.re ∧ (unbindAll s).br = s.br ∧ (unbindAll s).stu = s.stu ∧ (unbindAll s).hi = s.hi
      ∧ (unbindAll s).pe = s.pe ∧ (unbindAll s).lp = s.lp ∧ (unbindAll s).fm = s.fm ∧ (unbindAll s).ss = s.ss
      ∧ (unbindAll s).fresh = s.fresh ∧ (unbindAll s).pending = s.pending := by
  unfold unbindAll
  dsimp only
  simp

@[simp] theorem portOff_frame (s : State) :
    (portOff s).powered = s.powered ∧ (portOff s).jl = s.jl ∧ (portOff s).os = s.os ∧ (portOff s).cb = s.cb
      ∧ (portOff s).re = s.re ∧ (portOff s).br = s.br ∧ (portOff s).stu = s.stu ∧ (portOff s).hi = s.hi
      ∧ (portOff s).pe = s.pe ∧ (portOff s).fm = s.fm ∧ (portOff s).ss = s.ss ∧ (portOff s).fresh = s.fresh
      ∧ (portOff s).pending = s.pending := by
  unfold portOff
  dsimp only
  simp

@[simp] theorem portOn_frame (s : State) :
    (portOn s).powered = s.powered ∧ (portOn s).jl = s.jl ∧ (portOn s).os = s.os ∧ (portOn s).cb = s.cb
      ∧ (portOn s).jq = s.jq ∧ (portOn s).re = s.re ∧ (portOn s).br = s.br ∧ (portOn s).stu = s.stu
      ∧ (portOn s).hi = s.hi ∧ (portOn s).fm = s.fm ∧ (portOn s).ss = s.ss ∧ (portOn s).fresh = s.fresh
      ∧ (portOn s).pending = s.pending := by
  unfold portOn
  dsimp only
  (repeat' split) <;> simp

@[simp] theorem removeApplying_frame (s : State) :
    (removeApplying s).powered = s.powered ∧ (removeApplying s).jl = s.jl ∧ (removeApplying s).os = s.os
      ∧ (removeApplying s).cb = s.cb ∧ (removeApplying s).jq = s.jq ∧ (removeApplying s).re = s.re
      ∧ (removeApplying s).br = s.br ∧ (removeApplying s).stu = s.stu ∧ (removeApplying s).hi = s.hi
      ∧ (removeApplying s).pe = s.pe ∧ (removeApplying s).fm = s.fm ∧ (removeApplying s).ss = s.ss
      ∧ (removeApplying s).fresh = s.fresh ∧ (removeApplying s).pending = s.pending := by
  unfold removeApplying
  simp

@[simp] theorem endApplyWait_frame (id : CopyId) (r : CopyResult) (s : State) :
    (endApplyWait id r s).powered = s.powered ∧ (endApplyWait id r s).jl = s.jl ∧ (endApplyWait id r s).os = s.os
      ∧ (endApplyWait id r s).cb = s.cb ∧ (endApplyWait id r s).re = s.re ∧ (endApplyWait id r s).br = s.br
      ∧ (endApplyWait id r s).stu = s.stu ∧ (endApplyWait id r s).hi = s.hi ∧ (endApplyWait id r s).fm = s.fm
      ∧ (endApplyWait id r s).ss = s.ss ∧ (endApplyWait id r s).fresh = s.fresh
      ∧ (endApplyWait id r s).pending = s.pending := by
  unfold endApplyWait
  dsimp only
  simp

@[simp] theorem withdrawPulse_frame (w : ApplyWait) (s : State) :
    (withdrawPulse w s).powered = s.powered ∧ (withdrawPulse w s).jl = s.jl ∧ (withdrawPulse w s).os = s.os
      ∧ (withdrawPulse w s).cb = s.cb ∧ (withdrawPulse w s).jq = s.jq ∧ (withdrawPulse w s).re = s.re
      ∧ (withdrawPulse w s).br = s.br ∧ (withdrawPulse w s).stu = s.stu ∧ (withdrawPulse w s).hi = s.hi
      ∧ (withdrawPulse w s).pe = s.pe ∧ (withdrawPulse w s).fm = s.fm ∧ (withdrawPulse w s).ss = s.ss
      ∧ (withdrawPulse w s).fresh = s.fresh ∧ (withdrawPulse w s).pending = s.pending := by
  unfold withdrawPulse
  dsimp only
  (repeat' split) <;> simp

@[simp] theorem abandonContext_frame (s : State) :
    (abandonContext s).powered = s.powered ∧ (abandonContext s).cb = s.cb ∧ (abandonContext s).re = s.re
      ∧ (abandonContext s).br = s.br ∧ (abandonContext s).stu = s.stu ∧ (abandonContext s).hi = s.hi
      ∧ (abandonContext s).pe = s.pe ∧ (abandonContext s).lp = s.lp ∧ (abandonContext s).fm = s.fm
      ∧ (abandonContext s).ss = s.ss ∧ (abandonContext s).fresh = s.fresh ∧ (abandonContext s).pending = s.pending := by
  unfold abandonContext
  dsimp only
  (repeat' split) <;> simp

@[simp] theorem closeIfCloser_frame (k : Keyword) (s : State) :
    (closeIfCloser k s).powered = s.powered ∧ (closeIfCloser k s).cb = s.cb ∧ (closeIfCloser k s).re = s.re
      ∧ (closeIfCloser k s).br = s.br ∧ (closeIfCloser k s).stu = s.stu ∧ (closeIfCloser k s).hi = s.hi
      ∧ (closeIfCloser k s).pe = s.pe ∧ (closeIfCloser k s).lp = s.lp ∧ (closeIfCloser k s).fm = s.fm
      ∧ (closeIfCloser k s).ss = s.ss ∧ (closeIfCloser k s).fresh = s.fresh
      ∧ (closeIfCloser k s).pending = s.pending := by
  unfold closeIfCloser
  (repeat' split) <;> simp

@[simp] theorem refuseForm_frame (code : ErrCode) (k : Keyword) (s : State) :
    (refuseForm code k s).powered = s.powered ∧ (refuseForm code k s).cb = s.cb ∧ (refuseForm code k s).re = s.re
      ∧ (refuseForm code k s).br = s.br ∧ (refuseForm code k s).stu = s.stu ∧ (refuseForm code k s).hi = s.hi
      ∧ (refuseForm code k s).pe = s.pe ∧ (refuseForm code k s).lp = s.lp ∧ (refuseForm code k s).fm = s.fm
      ∧ (refuseForm code k s).ss = s.ss ∧ (refuseForm code k s).fresh = s.fresh
      ∧ (refuseForm code k s).pending = s.pending := by
  unfold refuseForm
  simp

@[simp] theorem discardJobs_frame (s : State) :
    (discardJobs s).powered = s.powered ∧ (discardJobs s).jl = s.jl ∧ (discardJobs s).cb = s.cb
      ∧ (discardJobs s).re = s.re ∧ (discardJobs s).br = s.br ∧ (discardJobs s).stu = s.stu
      ∧ (discardJobs s).hi = s.hi ∧ (discardJobs s).pe = s.pe ∧ (discardJobs s).lp = s.lp
      ∧ (discardJobs s).fm = s.fm ∧ (discardJobs s).ss = s.ss ∧ (discardJobs s).fresh = s.fresh
      ∧ (discardJobs s).pending = s.pending := by
  unfold discardJobs
  dsimp only
  simp

@[simp] theorem dropEngineCopies_frame (s : State) :
    (dropEngineCopies s).powered = s.powered ∧ (dropEngineCopies s).jl = s.jl ∧ (dropEngineCopies s).os = s.os
      ∧ (dropEngineCopies s).cb = s.cb ∧ (dropEngineCopies s).jq = s.jq ∧ (dropEngineCopies s).re = s.re
      ∧ (dropEngineCopies s).br = s.br ∧ (dropEngineCopies s).stu = s.stu ∧ (dropEngineCopies s).hi = s.hi
      ∧ (dropEngineCopies s).lp = s.lp ∧ (dropEngineCopies s).fm = s.fm ∧ (dropEngineCopies s).ss = s.ss
      ∧ (dropEngineCopies s).fresh = s.fresh ∧ (dropEngineCopies s).pending = s.pending := by
  unfold dropEngineCopies
  dsimp only
  simp

@[simp] theorem dropParcels_frame (s : State) :
    (dropParcels s).powered = s.powered ∧ (dropParcels s).jl = s.jl ∧ (dropParcels s).os = s.os
      ∧ (dropParcels s).cb = s.cb ∧ (dropParcels s).jq = s.jq ∧ (dropParcels s).re = s.re
      ∧ (dropParcels s).br = s.br ∧ (dropParcels s).stu = s.stu ∧ (dropParcels s).hi = s.hi
      ∧ (dropParcels s).pe = s.pe ∧ (dropParcels s).fm = s.fm ∧ (dropParcels s).ss = s.ss
      ∧ (dropParcels s).fresh = s.fresh ∧ (dropParcels s).pending = s.pending := by
  unfold dropParcels
  dsimp only
  simp

@[simp] theorem performAbort_frame (s : State) :
    (performAbort s).powered = s.powered ∧ (performAbort s).cb = s.cb ∧ (performAbort s).ss = s.ss
      ∧ (performAbort s).fresh = s.fresh ∧ (performAbort s).pending = s.pending := by
  unfold performAbort
  dsimp only
  simp

@[simp] theorem fillSettings_frame (s : State) :
    (fillSettings s).powered = s.powered ∧ (fillSettings s).jl = s.jl ∧ (fillSettings s).os = s.os
      ∧ (fillSettings s).jq = s.jq ∧ (fillSettings s).re = s.re ∧ (fillSettings s).br = s.br
      ∧ (fillSettings s).stu = s.stu ∧ (fillSettings s).hi = s.hi ∧ (fillSettings s).pe = s.pe
      ∧ (fillSettings s).lp = s.lp ∧ (fillSettings s).fm = s.fm ∧ (fillSettings s).fresh = s.fresh
      ∧ (fillSettings s).pending = s.pending := by
  unfold fillSettings
  dsimp only
  (repeat' split) <;> simp

@[simp] theorem raiseSettingsLost_frame (s : State) :
    (raiseSettingsLost s).powered = s.powered ∧ (raiseSettingsLost s).jl = s.jl ∧ (raiseSettingsLost s).os = s.os
      ∧ (raiseSettingsLost s).cb = s.cb ∧ (raiseSettingsLost s).jq = s.jq ∧ (raiseSettingsLost s).re = s.re
      ∧ (raiseSettingsLost s).br = s.br ∧ (raiseSettingsLost s).stu = s.stu ∧ (raiseSettingsLost s).hi = s.hi
      ∧ (raiseSettingsLost s).pe = s.pe ∧ (raiseSettingsLost s).lp = s.lp ∧ (raiseSettingsLost s).ss = s.ss
      ∧ (raiseSettingsLost s).fresh = s.fresh ∧ (raiseSettingsLost s).pending = s.pending := by
  unfold raiseSettingsLost
  simp

@[simp] theorem reloadSettings_frame (s : State) :
    (reloadSettings s).powered = s.powered ∧ (reloadSettings s).jl = s.jl ∧ (reloadSettings s).os = s.os
      ∧ (reloadSettings s).jq = s.jq ∧ (reloadSettings s).re = s.re ∧ (reloadSettings s).br = s.br
      ∧ (reloadSettings s).hi = s.hi ∧ (reloadSettings s).lp = s.lp ∧ (reloadSettings s).fresh = s.fresh
      ∧ (reloadSettings s).pending = s.pending := by
  unfold reloadSettings
  dsimp only
  (repeat' split) <;> simp

@[simp] theorem reloadAfterReset_frame (s : State) :
    (reloadAfterReset s).powered = s.powered ∧ (reloadAfterReset s).re = s.re ∧ (reloadAfterReset s).br = s.br
      ∧ (reloadAfterReset s).hi = s.hi ∧ (reloadAfterReset s).fresh = s.fresh
      ∧ (reloadAfterReset s).pending = s.pending := by
  unfold reloadAfterReset
  dsimp only
  simp

/-- A reload leaves the engine's registers, its geometry included, for the first event afterwards (R204). -/
@[simp] theorem reloadSettings_pe (s : State) : (reloadSettings s).pe = s.pe := by
  unfold reloadSettings
  dsimp only
  (repeat' split) <;> simp

@[simp] theorem clearAllFaults_frame (s : State) :
    (clearAllFaults s).powered = s.powered ∧ (clearAllFaults s).jl = s.jl ∧ (clearAllFaults s).os = s.os
      ∧ (clearAllFaults s).cb = s.cb ∧ (clearAllFaults s).jq = s.jq ∧ (clearAllFaults s).re = s.re
      ∧ (clearAllFaults s).br = s.br ∧ (clearAllFaults s).stu = s.stu ∧ (clearAllFaults s).hi = s.hi
      ∧ (clearAllFaults s).lp = s.lp ∧ (clearAllFaults s).ss = s.ss ∧ (clearAllFaults s).fresh = s.fresh
      ∧ (clearAllFaults s).pending = s.pending := by
  simp [clearAllFaults]

@[simp] theorem presentArrived_frame (s : State) :
    (presentArrived s).powered = s.powered ∧ (presentArrived s).cb = s.cb ∧ (presentArrived s).ss = s.ss
      ∧ (presentArrived s).fresh = s.fresh ∧ (presentArrived s).pending = s.pending := by
  unfold presentArrived
  (repeat' split) <;> simp

end Sys2Proof.Machine
end

