-- ==== Sys2Proof/Laws/Link.lean ====
section
/-! SUPPORT. What the report queue and the parser can do with a report and with a record. -/

namespace Sys2Proof.Machine

/-! ## The transmitter and the report queue (R4, R14, R15) -/

/-- The transmitter's start changes nothing but whether a character is in transmission. -/
theorem beginCharacter_eq (s : State) :
    beginCharacter s = { s with jl := { s.jl with sending := s.jl.sending || mayTransmit s } } := by
  unfold beginCharacter
  cases h : mayTransmit s <;> simp

@[simp] theorem beginCharacter_reports (s : State) : (beginCharacter s).jl.reports = s.jl.reports := by
  simp [beginCharacter_eq]
@[simp] theorem beginCharacter_waiting (s : State) : (beginCharacter s).jl.waiting = s.jl.waiting := by
  simp [beginCharacter_eq]
@[simp] theorem beginCharacter_context (s : State) : (beginCharacter s).jl.context = s.jl.context := by
  simp [beginCharacter_eq]
@[simp] theorem beginCharacter_records (s : State) : (beginCharacter s).jl.records = s.jl.records := by
  simp [beginCharacter_eq]

/-- What follows a report's entry leaves JL alone. -/
@[simp] theorem onEnter_jl (r : Report) (s : State) : (onEnter r s).jl = s.jl := by
  cases r <;> simp [onEnter, freeSlot, endStart]
  split <;> rfl

/-- A report enters behind the reports in the queue (R14). -/
@[simp] theorem enterReport_reports (r : Report) (s : State) : (enterReport r s).jl.reports = s.jl.reports ++ [r] := by
  simp [enterReport]
@[simp] theorem enterReport_waiting (r : Report) (s : State) : (enterReport r s).jl.waiting = s.jl.waiting := by
  simp [enterReport]
@[simp] theorem enterReport_context (r : Report) (s : State) : (enterReport r s).jl.context = s.jl.context := by
  simp [enterReport]

/-- An offered report enters the queue, or joins the end of the waiting list (R15). -/
theorem offerReport_cases (r : Report) (s : State) :
    (s.jl.reports.length < 16 ∧ s.jl.waiting = [] ∧ offerReport r s = enterReport r s)
      ∨ (¬(s.jl.reports.length < 16 ∧ s.jl.waiting = [])
        ∧ offerReport r s = { s with jl := { s.jl with waiting := s.jl.waiting ++ [r] } }) := by
  by_cases h : s.jl.reports.length < 16 ∧ s.jl.waiting = []
  · exact .inl ⟨h.1, h.2, if_pos h⟩
  · exact .inr ⟨h, if_neg h⟩

/-! ## Notices (R198) -/

/-- A kind that owes no notice offers none. -/
theorem offerNotice_of_not_owed (k : FaultKind) (s : State) (h : noticeOwed s k = false) : offerNotice k s = s := by
  simp [offerNotice, h]

/-- Where no kind owes a notice, none is offered. -/
theorem offerNotices_of_none_owed (s : State) (h : ∀ k, noticeOwed s k = false) : offerNotices s = s := by
  have : ∀ l : List FaultKind, l.foldl (fun s k => offerNotice k s) s = s := by
    intro l
    induction l with
    | nil => rfl
    | cons k l ih => simp [offerNotice_of_not_owed k s (h k), ih]
  exact this _

/-! ## The parser (R9 to R11, R16) -/

/-! A record that leaves the buffer may raise CTS, and changes nothing else of JL (R3). -/

@[simp] theorem ctsAfterRemove_records (jl : JobLink) : (ctsAfterRemove jl).records = jl.records := by
  unfold ctsAfterRemove; split <;> rfl
@[simp] theorem ctsAfterRemove_receiving (jl : JobLink) : (ctsAfterRemove jl).receiving = jl.receiving := by
  unfold ctsAfterRemove; split <;> rfl
@[simp] theorem ctsAfterRemove_receivingDamaged (jl : JobLink) : (ctsAfterRemove jl).receivingDamaged = jl.receivingDamaged := by
  unfold ctsAfterRemove; split <;> rfl
@[simp] theorem ctsAfterRemove_receivingOverLong (jl : JobLink) : (ctsAfterRemove jl).receivingOverLong = jl.receivingOverLong := by
  unfold ctsAfterRemove; split <;> rfl
@[simp] theorem ctsAfterRemove_context (jl : JobLink) : (ctsAfterRemove jl).context = jl.context := by
  unfold ctsAfterRemove; split <;> rfl
@[simp] theorem ctsAfterRemove_reports (jl : JobLink) : (ctsAfterRemove jl).reports = jl.reports := by
  unfold ctsAfterRemove; split <;> rfl
@[simp] theorem ctsAfterRemove_waiting (jl : JobLink) : (ctsAfterRemove jl).waiting = jl.waiting := by
  unfold ctsAfterRemove; split <;> rfl
@[simp] theorem ctsAfterRemove_sent (jl : JobLink) : (ctsAfterRemove jl).sent = jl.sent := by
  unfold ctsAfterRemove; split <;> rfl
@[simp] theorem ctsAfterRemove_sending (jl : JobLink) : (ctsAfterRemove jl).sending = jl.sending := by
  unfold ctsAfterRemove; split <;> rfl
@[simp] theorem ctsAfterRemove_hrdy (jl : JobLink) : (ctsAfterRemove jl).hrdy = jl.hrdy := by
  unfold ctsAfterRemove; split <;> rfl
@[simp] theorem ctsAfterRemove_rate (jl : JobLink) : (ctsAfterRemove jl).rate = jl.rate := by
  unfold ctsAfterRemove; split <;> rfl
@[simp] theorem ctsAfterRemove_rateSwitch (jl : JobLink) : (ctsAfterRemove jl).rateSwitch = jl.rateSwitch := by
  unfold ctsAfterRemove; split <;> rfl

/-- A parser that may take no record has none in front. -/
theorem frontRecord_of_stalled {s : State} (h : parserReady s = false) : frontRecord s = none := by
  simp [frontRecord, h]

/-- A parser that may take no record has none of any keyword in front. -/
theorem frontRest_of_stalled {k : Keyword} {s : State} (h : parserReady s = false) : frontRest k s = none := by
  simp [frontRest, frontRecord_of_stalled h]

/-- A record of keyword `k` in front means that the parser may take one. -/
theorem ready_of_frontRest {k : Keyword} {s : State} {rest : Option Text} (h : frontRest k s = some rest) :
    parserReady s = true := by
  by_contra hn
  simp [frontRest_of_stalled (Bool.not_eq_true _ ▸ hn)] at h

/-- Where the parser has no record of the keyword to take, the command changes nothing. -/
theorem onRecord_of_none {α : Type} {k : Keyword} {form : List Param → FormCheck α} {owner : α → State → State}
    {s : State} (h : frontRest k s = none) : onRecord k form owner s = s := by
  simp [onRecord, h]

/-- A record that the parser takes goes to its owner, removed from the buffer (R3, R12). -/
theorem onRecord_of_takes {α : Type} {k : Keyword} {form : List Param → FormCheck α} {v : α} {s : State}
    (h : Takes k form v s) (owner : α → State → State) : onRecord k form owner s = owner v (removeRecord s) := by
  obtain ⟨rest, ps, h1, h2, h3, h4⟩ := h
  simp [onRecord, h1, h2, h3, h4]

/-- Everything a record command can do (R11): nothing, a refusal of JL, or its owner's act. -/
theorem onRecord_cases {α : Type} (k : Keyword) (form : List Param → FormCheck α) (owner : α → State → State)
    (s : State) :
    (frontRest k s = none ∧ onRecord k form owner s = s)
      ∨ (admitted k s.jl.context = false ∧ onRecord k form owner s = refuse .sequence k (removeRecord s))
      ∨ (∃ code, (code = .syntaxErr ∨ code = .range) ∧ onRecord k form owner s = refuseForm code k (removeRecord s))
      ∨ ∃ v, Takes k form v s ∧ onRecord k form owner s = owner v (removeRecord s) := by
  cases h : frontRest k s with
  | none => exact .inl ⟨rfl, onRecord_of_none h⟩
  | some rest =>
    right
    cases ha : admitted k s.jl.context with
    | false => exact .inl ⟨rfl, by simp [onRecord, h, ha]⟩
    | true =>
      right
      cases hp : readParams rest with
      | none => exact .inl ⟨_, .inl rfl, by simp [onRecord, h, ha, hp]⟩
      | some ps =>
        cases hf : form ps with
        | ok v => exact .inr ⟨v, ⟨rest, ps, h, ha, hp, hf⟩, by simp [onRecord, h, ha, hp, hf]⟩
        | range => exact .inl ⟨_, .inr rfl, by simp [onRecord, h, ha, hp, hf]⟩
        | bad => exact .inl ⟨_, .inl rfl, by simp [onRecord, h, ha, hp, hf]⟩

/-- Of a record the parser takes, the state it is taken in has room for a reply (R14, R16). -/
theorem takes_ready {α : Type} {k : Keyword} {form : List Param → FormCheck α} {v : α} {s : State}
    (h : Takes k form v s) :
    s.powered = true ∧ s.jl.reports.length < 16 ∧ s.jl.waiting = [] ∧ s.jl.rateSwitch = none
      ∧ s.ss.start = .running := by
  obtain ⟨rest, ps, h1, -⟩ := h
  have := ready_of_frontRest h1
  simp only [parserReady, Bool.and_eq_true, decide_eq_true_eq, List.isEmpty_iff, Option.isNone_iff_eq_none,
    beq_iff_eq, and_assoc] at this
  exact this

/-- An abandoned context is NONE (R9). -/
@[simp] theorem abandonContext_context (s : State) : (abandonContext s).jl.context = .none := by
  unfold abandonContext setContext
  dsimp only
  split <;> rfl

/-- Everything the trailing keys of a record can give (R7): SYNTAX where a parameter is of another kind, where they are
too many, or where a key's value is; then RANGE where a key's value or a key itself is out of range. -/
theorem withKeysOf_eq {α : Type} (most : Nat) (accepted : List Text) (ks : List Param)
    (f : List (Text × Text) → FormCheck α) :
    withKeysOf most accepted ks f = match keyvals ks with
      | none => .bad
      | some kvs =>
        if most < kvs.length then .bad
        else match f (kvs.filter fun p => accepted.contains p.1) with
          | .bad => .bad
          | .range => .range
          | .ok v => if kvs.all fun p => accepted.contains p.1 then .ok v else .range := by
  unfold withKeysOf
  cases keyvals ks with
  | none => rfl
  | some kvs =>
    by_cases hl : kvs.length ≤ most
    · simp only [if_pos hl, if_neg (Nat.not_lt.2 hl)]
      cases f (kvs.filter fun p => accepted.contains p.1) <;> cases kvs.all fun p => accepted.contains p.1 <;> rfl
    · simp only [if_neg hl, if_pos (Nat.lt_of_not_le hl)]

end Sys2Proof.Machine
end

