-- ==== Sys2Proof/Laws/Engine.lean ====
section
/-! SUPPORT. What the shared operations over copies, the print engine and the pause set can do. -/

namespace Sys2Proof.Machine

/-! ## Jobs and copies (R67, R73) -/

/-- A job changed by `f`, which keeps its tag, is the changed job. -/
theorem jobOf_mapJob_self {s : State} {tag : Nat} {j : Job} (f : Job → Job) (h : jobOf s tag = some j)
    (hf : (f j).tag = j.tag) : jobOf (mapJob tag f s) tag = some (f j) := by
  simp only [jobOf, mapJob] at h ⊢
  generalize s.jq.jobs = l at h
  induction l with
  | nil => simp at h
  | cons x l ih =>
    by_cases hx : x.tag = tag
    · have : x = j := by simpa [hx] using h
      subst this
      simp [updateFirst, hx, hf]
    · have : l.find? (fun j => j.tag == tag) = some j := by simpa [hx] using h
      simpa [updateFirst, hx] using ih this

/-- A change of one job leaves the jobs of other tags alone. -/
theorem jobOf_mapJob_of_ne {s : State} {tag tag' : Nat} (f : Job → Job) (hf : ∀ j, (f j).tag = j.tag)
    (h : tag' ≠ tag) : jobOf (mapJob tag f s) tag' = jobOf s tag' := by
  simp only [jobOf, mapJob]
  generalize s.jq.jobs = l
  induction l with
  | nil => rfl
  | cons x l ih =>
    by_cases hx : x.tag = tag
    · have : x.tag ≠ tag' := by omega
      simp [updateFirst, hx, hf, Ne.symm h]
    · by_cases hy : x.tag = tag'
      · simp [updateFirst, hy, h]
      · simpa [updateFirst, hx, hy] using ih

/-- A copy changed by `f`, which keeps its number, is the changed copy. -/
theorem copyOf_mapCopy_self {s : State} {id : CopyId} {c : Copy} (f : Copy → Copy) (h : copyOf s id = some c)
    (hf : ∀ c, (f c).number = c.number) : copyOf (mapCopy id f s) id = some (f c) := by
  simp only [copyOf] at h
  split at h
  · rename_i j hj
    simp only [copyOf, mapCopy]
    rw [jobOf_mapJob_self _ hj rfl]
    simp only
    generalize j.copies = l at h
    induction l with
    | nil => simp at h
    | cons x l ih =>
      by_cases hx : x.number = id.number
      · have : x = c := by simpa [hx] using h
        subst this
        simp [hx, hf]
      · have : l.find? (fun c => c.number == id.number) = some c := by simpa [hx] using h
        simpa [hx] using ih this
  · cases h

/-- A copy whose state is set has that state and is otherwise as before (R74). -/
theorem copyOf_setCopyState {s : State} {id : CopyId} {c : Copy} (st : CopyState) (h : copyOf s id = some c) :
    copyOf (setCopyState id st s) id = some { c with state := st } :=
  copyOf_mapCopy_self _ h fun _ => rfl

/-- A copy that ends is terminal with its result and is not bound (R73, R76). -/
theorem copyOf_endCopy {s : State} {id : CopyId} {c : Copy} (r : CopyResult) (h : copyOf s id = some c) :
    copyOf (endCopy id r s) id = some { c with state := .terminal r, bound := false } := by
  have h1 := copyOf_setCopyState (.terminal r) h
  exact copyOf_mapCopy_self (fun c => { c with bound := false }) h1 fun _ => rfl

/-- A job that is not FINISHED offers no DONE (R78). -/
theorem offerDone_of_not_finished {s : State} {tag : Nat} {j : Job} (h : jobOf s tag = some j)
    (hf : j.finished = false) : offerDone tag s = s := by
  simp [offerDone, h, hf]

/-! ## The geometry in use and the label start (R156, R170) -/

/-- Settings equal to those in use change nothing. -/
theorem applyGeometry_of_same {s : State} (h1 : s.ss.settings.media = s.pe.stock)
    (h2 : s.ss.settings.pitch = s.pe.contPitch) : applyGeometry s = s := by
  simp [applyGeometry, h1, h2]

/-- An event on an engine that is not IDLE finds no geometry to take. -/
theorem takeGeometry_of_busy {s : State} (h : s.pe.engine ≠ .idle) : takeGeometry s = s := by
  simp [takeGeometry, h]

/-- No geometry comes into use while a soft reset is in progress (R204). -/
theorem takeGeometry_of_resetting {s : State} (h : resetting s = true) : takeGeometry s = s := by
  simp [takeGeometry, h]

/-- Where the settings' geometry is in use an event finds none to take. -/
theorem takeGeometry_of_same {s : State} (h1 : s.ss.settings.media = s.pe.stock)
    (h2 : s.ss.settings.pitch = s.pe.contPitch) : takeGeometry s = s := by
  simp [takeGeometry, applyGeometry_of_same h1 h2]

/-- Which geometry comes into use depends on the engine, the settings and the start phase alone. -/
theorem takeGeometry_congr {s t : State} (h1 : s.pe = t.pe) (h2 : s.ss.settings = t.ss.settings)
    (h3 : s.ss.start = t.ss.start) : (takeGeometry s).pe = (takeGeometry t).pe := by
  simp only [takeGeometry, resetting, applyGeometry, forgetStock, h1, h2, h3]
  (repeat' split) <;> simp_all

/-- The geometry in use and what follows from it is all that `takeGeometry` touches. -/
theorem takeGeometry_pe (s : State) :
    (takeGeometry s).pe.engine = s.pe.engine ∧ (takeGeometry s).pe.position = s.pe.position
      ∧ (takeGeometry s).pe.furthest = s.pe.furthest
      ∧ (takeGeometry s).pe.label = s.pe.label ∧ (takeGeometry s).pe.presented = s.pe.presented
      ∧ (takeGeometry s).pe.pause = s.pe.pause ∧ (takeGeometry s).pe.sensor = s.pe.sensor
      ∧ (takeGeometry s).pe.sense = s.pe.sense ∧ (takeGeometry s).pe.pitch = s.pe.pitch
      ∧ (takeGeometry s).pe.cal = s.pe.cal ∧ (takeGeometry s).pe.feedMove = s.pe.feedMove := by
  simp only [takeGeometry, applyGeometry, forgetStock]
  (repeat' split) <;> simp

/-- No label starts while a pause reason is present. -/
theorem testLabelStart_of_paused {s : State} (h : s.pe.pause.isEmpty = false) : testLabelStart s = s := by
  simp [testLabelStart, startableCopy, h]

/-- No label starts while the engine is not IDLE. -/
theorem testLabelStart_of_busy {s : State} (h : s.pe.engine ≠ .idle) : testLabelStart s = s := by
  simp [testLabelStart, startableCopy, h]

/-- No label starts while a label is presented. -/
theorem testLabelStart_of_presented {s : State} (h : s.pe.presented ≠ none) : testLabelStart s = s := by
  simp [testLabelStart, startableCopy, h]

/-- No label starts where no copy is RENDERING or RENDERED. -/
theorem testLabelStart_of_no_copy {s : State} (h : nextPrintCopy s = none) : testLabelStart s = s := by
  simp [testLabelStart, startableCopy, h]

/-! ## The pause set (R168) -/

/-- An engine that is neither IDLE nor HALTED does not act on the removal of the last reason. -/
theorem resume_of_moving {s : State} (h1 : s.pe.engine ≠ .idle) (h2 : s.pe.engine ≠ .halted) : resume s = s := by
  unfold resume
  split <;> first | rfl | contradiction

/-- Nothing follows for an engine that is neither IDLE nor HALTED. -/
theorem resumeIfEmptied_of_moving {before s : State} (h1 : s.pe.engine ≠ .idle) (h2 : s.pe.engine ≠ .halted) :
    resumeIfEmptied before s = s := by
  simp [resumeIfEmptied, resume_of_moving h1 h2]

/-- Nothing follows while a reason is present. -/
theorem resumeIfEmptied_of_paused {before s : State} (h : s.pe.pause.isEmpty = false) :
    resumeIfEmptied before s = s := by
  simp [resumeIfEmptied, pauseEmptied, h]

/-- Nothing follows where no reason was present before. -/
theorem resumeIfEmptied_of_running {before s : State} (h : before.pe.pause.isEmpty = true) :
    resumeIfEmptied before s = s := by
  simp [resumeIfEmptied, pauseEmptied, h]

/-! ## Media steps (R150, R151, R165) -/

/-- A step below the greatest position moves the media by one. -/
theorem positionAfter_of_lt {p : Int} (h : p < 2147483647) : positionAfter p = p + 1 := by
  unfold positionAfter
  rw [if_pos (by omega)]

/-- A step without an edge, with a top ahead and no notice owed, moves the media and does nothing else. -/
theorem guardedStep_quiet {s : State} (ht : s.pe.tops ≠ []) (hp : s.pe.position < 2147483647)
    (hn : ∀ k, noticeOwed s k = false) :
    guardedStep s.pe.sensor s = ({ s with pe := { s.pe with
      position := s.pe.position + 1, furthest := max s.pe.furthest (s.pe.position + 1) } }, false) := by
  have h : s.pe.tops.isEmpty = false := by simpa using ht
  simp only [guardedStep, stepShowsEdge, stepMedia, positionAfter_of_lt hp, guardTrips, h, bne_self_eq_false,
    Bool.and_false, Bool.false_and, Bool.false_eq_true, if_false, Prod.mk.injEq, and_true]
  exact offerNotices_of_none_owed _ hn

/-- A step that meets `Stepped`, with its edge, leaves the engine's registers so and changes nothing else (R151, R152). -/
theorem step_of_stepped {level : SensorLevel} {s : State} {pe : PrintEngine} (hp : s.pe.position < 2147483647)
    (h : Stepped level s.pe pe) :
    (if stepShowsEdge level s then takeEdge level (stepMedia level s) else stepMedia level s) = { s with pe := pe } := by
  simp only [Stepped] at h
  simp only [stepShowsEdge, stepMedia, positionAfter_of_lt hp]
  split at h
  · rename_i hc
    obtain ⟨h1, h2, h3, h4⟩ := hc
    have e : (decide (s.pe.furthest < s.pe.position + 1) && level != s.pe.sensor && s.pe.stock != .cont) = true := by
      simp [h1, h2, h3]
    rw [if_pos e]
    simp only [takeEdge, h4, if_true]
    split at h
    · rename_i hg
      simp [hg, h, h4]
    · rename_i hg
      obtain ⟨n, rfl, hn⟩ := h
      have hs : Config.soff = 96 := rfl
      rcases hn with ⟨⟨g, c, hg1, hc1, hlt, hv⟩, rfl, hn7⟩ | ⟨⟨g, c, hg1, hc1, hlt, hv⟩, rfl⟩ | ⟨hall, rfl⟩
      · simp [hg, takeCapture, captureViolates, violationsAfter, hs, hg1, hc1, hlt, hv, h4,
          show ¬ (7 ≤ s.pe.violations + 1) by omega]
      · simp [hg, takeCapture, captureViolates, violationsAfter, hs, hg1, hc1, hlt, h4,
          show ¬ (g - c ≤ s.pe.position + 1 - g) by omega]
      · have hv : ∀ pe : PrintEngine, pe.lastGapStart = s.pe.lastGapStart → pe.lastCapture = s.pe.lastCapture →
            captureViolates pe = none := by
          intro pe e1 e2
          simp only [captureViolates, e1, e2]
          split
          · rename_i g c hg1 hc1
            rw [if_neg (by have := hall g c hg1 hc1; omega)]
          · rfl
        simp [hg, takeCapture, violationsAfter, hs, hv, h4]
  · rename_i hc
    subst h
    split
    · rename_i e
      have hu : s.pe.calibrated = false := by
        by_contra hb
        simp only [Bool.and_eq_true, decide_eq_true_eq, bne_iff_ne] at e
        exact hc ⟨e.1.1, e.1.2, e.2, by simpa using hb⟩
      simp [takeEdge, hu]
    · rfl

/-- What such a step keeps of the engine's registers. -/
theorem stepped_keeps {level : SensorLevel} {pe pe' : PrintEngine} (h : Stepped level pe pe') :
    pe'.position = pe.position + 1 ∧ pe'.engine = pe.engine ∧ pe'.label = pe.label ∧ pe'.feedMove = pe.feedMove
      ∧ pe'.pause = pe.pause ∧ pe'.pitch = pe.pitch ∧ pe'.sense = pe.sense ∧ pe'.calibrated = pe.calibrated
      ∧ pe'.stock = pe.stock := by
  simp only [Stepped] at h
  split at h
  · split at h
    · subst h; simp
    · obtain ⟨n, rfl, -⟩ := h; simp
  · subst h; simp

/-- Everything a guarded step can do that does not invert the sense and where no notice was owed (R151, R152, R165). -/
theorem guardedStep_of_stepped {level : SensorLevel} {s : State} {pe : PrintEngine} (hp : s.pe.position < 2147483647)
    (hn : ∀ k, noticeOwed s k = false) (h : Stepped level s.pe pe) :
    guardedStep level s =
      if guardTrips { s with pe := pe } then (offerNotices (tripGuard { s with pe := pe }), true)
      else ({ s with pe := pe }, false) := by
  simp only [guardedStep, step_of_stepped hp h]
  rw [offerNotices_of_none_owed { s with pe := pe } hn]

/-! ## Presentation (R75, R163) -/

/-- A label is presented good exactly where its copy carries no mark. -/
theorem presentedState_eq_presented (m : Marks) : presentedState m = .presented ↔ m.isEmpty = true := by
  unfold presentedState Marks.isEmpty
  cases m.late <;> cases m.withdrawn <;> cases m.defect <;> cases m.lost <;> simp

/-- A label that stands at its target with no verdict to wait for is presented (R162). -/
theorem presentArrived_of_arrived {s : State} {l : LabelContext} (h : s.pe.label = some l) (ha : l.arrived = true)
    (hv : verdictAwaited s = false) : presentArrived s = present l s := by
  simp [presentArrived, h, ha, hv]

/-- Otherwise nothing is presented. -/
theorem presentArrived_of_not_arrived {s : State} (h : ∀ l, s.pe.label = some l → l.arrived = false) :
    presentArrived s = s := by
  unfold presentArrived
  split
  · rename_i l hl
    simp [h l hl]
  · rfl

end Sys2Proof.Machine
end

