-- ==== Sys2Proof/Laws/Store.lean ====
section
/-! SUPPORT. What the operations over the block store, the chains and the directory can do. -/

namespace Sys2Proof.Machine

/-! ## Bytes (R205) -/

@[simp] theorem toBytes_length (n v : Nat) : (toBytes n v).length = n := by
  induction n generalizing v with
  | zero => rfl
  | succ n ih => simp [toBytes, ih]

/-- A number that fits its bytes is read back from them. -/
theorem fromBytes_toBytes (n v : Nat) (h : v < 256 ^ n) : fromBytes (toBytes n v) = v := by
  induction n generalizing v with
  | zero => simp_all [toBytes, fromBytes]
  | succ n ih =>
    have := ih (v / 256) (by rw [pow_succ] at h; omega)
    simp only [toBytes, fromBytes, this, BitVec.toNat_ofNat]
    omega

/-! ## The block store's contents (R19) -/

/-- A byte written reads as written. -/
@[simp] theorem Memory.read_write_self (m : Memory) (i : Nat) (v : Byte) : (Memory.write m i v).read i = some v := by
  induction m with
  | nil => simp [Memory.write, Memory.read]
  | cons c m ih =>
    obtain ⟨a, b⟩ := c
    simp only [Memory.write]
    split
    · simp [Memory.read]
    · split
      · simp [Memory.read]
      · simp [Memory.read, *]

/-- A write leaves every other address alone. -/
theorem Memory.read_write_of_ne (m : Memory) (i j : Nat) (v : Byte) (h : j ≠ i) :
    (Memory.write m i v).read j = m.read j := by
  induction m with
  | nil => simp only [Memory.write, Memory.read]; split <;> simp_all
  | cons c m ih =>
    obtain ⟨a, b⟩ := c
    simp only [Memory.write]
    split
    · subst i; simp [Memory.read, h]
    · split
      · simp only [Memory.read]
        repeat' split
        all_goals first | rfl | omega
      · simp only [Memory.read, ih]

/-- The first cell of a written store lies no lower than the old first cell or the address written. -/
theorem Memory.wf_cons_write (a : Nat) (b : Byte) (m : Memory) (i : Nat) (v : Byte) (hi : a < i)
    (h : Memory.wf ((a, b) :: m) = true) (hw : Memory.wf (Memory.write m i v) = true) :
    Memory.wf ((a, b) :: Memory.write m i v) = true := by
  cases m with
  | nil => simp [Memory.write, Memory.wf, hi]
  | cons c m =>
    obtain ⟨a', b'⟩ := c
    simp only [Memory.wf, Bool.and_eq_true, decide_eq_true_eq] at h
    simp only [Memory.write] at hw ⊢
    split
    · simp_all [Memory.wf]
    · split <;> simp_all [Memory.wf]

/-- A write keeps the canonical form. -/
theorem Memory.write_wf (m : Memory) (i : Nat) (v : Byte) (h : Memory.wf m = true) :
    Memory.wf (Memory.write m i v) = true := by
  induction m with
  | nil => rfl
  | cons c m ih =>
    obtain ⟨a, b⟩ := c
    have hm : Memory.wf m = true := by
      cases m with
      | nil => rfl
      | cons d m => simp only [Memory.wf, Bool.and_eq_true] at h; exact h.2
    by_cases h1 : i = a
    · subst h1
      simp only [Memory.write, if_pos]
      cases m with
      | nil => rfl
      | cons d m => simpa [Memory.wf] using h
    · by_cases h2 : i < a
      · simp only [Memory.write, if_neg h1, if_pos h2]
        simp [Memory.wf, h2, h]
      · simp only [Memory.write, if_neg h1, if_neg h2]
        exact Memory.wf_cons_write a b m i v (by omega) h (ih hm)

/-- The bytes of an object written keep the canonical form. -/
theorem writeObject_wf (blocks : List Nat) (r : Nat) (bytes : List Byte) (m : Memory) (h : Memory.wf m = true) :
    Memory.wf (writeObject blocks r bytes m) = true := by
  induction bytes generalizing r m with
  | nil => exact h
  | cons b bs ih => exact ih _ _ (Memory.write_wf _ _ _ h)

/-- The bytes of an object written leave every other address alone. -/
theorem writeObject_read_of_ne (blocks : List Nat) (r : Nat) (bytes : List Byte) (m : Memory) (a : Nat)
    (h : ∀ j, j < bytes.length → a ≠ byteAddress blocks (r + j)) :
    (writeObject blocks r bytes m).read a = m.read a := by
  induction bytes generalizing r m with
  | nil => rfl
  | cons b bs ih =>
    rw [writeObject, ih, Memory.read_write_of_ne _ _ _ _ (by simpa using h 0 (by simp))]
    intro j hj
    have := h (j + 1) (by simpa using hj)
    rwa [Nat.add_assoc, Nat.add_comm 1 j]

/-- A byte of an object written reads as written, where the object's positions lie at distinct addresses. -/
theorem writeObject_read_self (blocks : List Nat) (r : Nat) (bytes : List Byte) (m : Memory)
    (inj : ∀ j k, j < bytes.length → k < bytes.length → byteAddress blocks (r + j) = byteAddress blocks (r + k) →
      j = k) (j : Nat) (v : Byte) (h : bytes[j]? = some v) :
    (writeObject blocks r bytes m).read (byteAddress blocks (r + j)) = some v := by
  induction bytes generalizing r m j with
  | nil => simp at h
  | cons b bs ih =>
    rw [writeObject]
    cases j with
    | zero =>
      rw [writeObject_read_of_ne]
      · simp_all
      · intro k hk he
        have := inj 0 (k + 1) (by simp) (by simpa using hk) (by rw [he]; congr 1; omega)
        omega
    | succ j =>
      have := ih (r + 1) (Memory.write m (byteAddress blocks r) b) (by
        intro x y hx hy he
        have := inj (x + 1) (y + 1) (by simpa using hx) (by simpa using hy) (by
          rw [show r + (x + 1) = r + 1 + x by omega, show r + (y + 1) = r + 1 + y by omega]; exact he)
        omega) j (by simpa using h)
      rwa [show r + (j + 1) = r + 1 + j by omega]

/-- Blocks that differ give distinct addresses to distinct positions. -/
theorem byteAddress_inj (blocks : List Nat) (h : blocks.Nodup) (i j : Nat) (hi : i < 1024 * blocks.length)
    (hj : j < 1024 * blocks.length) (he : byteAddress blocks i = byteAddress blocks j) : i = j := by
  have h1 : i / 1024 < blocks.length := by omega
  have h2 : j / 1024 < blocks.length := by omega
  simp only [byteAddress, List.getD_eq_getElem?_getD, List.getElem?_eq_getElem h1, List.getElem?_eq_getElem h2,
    Option.getD_some] at he
  have : blocks[i / 1024] = blocks[j / 1024] := by omega
  have := (List.Nodup.getElem_inj_iff h).1 this
  omega

/-- Bytes appended keep the canonical form. -/
theorem appendBytes_wf (i : Nat) (e : Entry) (bytes : List Byte) (os os' : ObjectStore)
    (h : Memory.wf os.blocks = true) (ha : appendBytes i e bytes os = some os') : Memory.wf os'.blocks = true := by
  have alloc : ∀ e1 os1, allocBlock i e os = some (e1, os1) → os1.blocks = os.blocks := by
    intro e1 os1 h1
    simp only [allocBlock] at h1
    repeat' split at h1
    all_goals simp_all
    all_goals obtain ⟨_, rfl⟩ := h1; rfl
  simp only [appendBytes] at ha
  split at ha
  · cases ha
  · rename_i e1 os1 h1
    cases ha
    refine writeObject_wf _ _ _ _ ?_
    split at h1
    · rw [alloc _ _ h1]; exact h
    · cases h1; exact h

/-- The contents right after power-on are canonical. -/
theorem reset_blocks_wf : Memory.wf State.reset.os.blocks = true := rfl

/-! ## Directory entries (R21, R22) -/

/-- An entry replaced holds what it was given. -/
theorem ramEntry_setEntry_self (i : Nat) (e : Option Entry) (os : ObjectStore) (h : i < 48) :
    ramEntry (setEntry i e os) i = e := by
  simp [ramEntry, setEntry, Vector.getElem?_eq_getElem h]

/-- An entry replaced leaves the others alone. -/
theorem ramEntry_setEntry_of_ne (i j : Nat) (e : Option Entry) (os : ObjectStore) (h : j ≠ i) :
    ramEntry (setEntry i e os) j = ramEntry os j := by
  simp [ramEntry, setEntry, Vector.getElem?_setIfInBounds_ne (Ne.symm h)]

/-- An entry that holds an object is one of the 48. -/
theorem ramEntry_lt {os : ObjectStore} {i : Nat} {e : Entry} (h : ramEntry os i = some e) : i < 48 := by
  by_contra hn
  simp [ramEntry, Vector.getElem?_eq_none (Nat.not_lt.1 hn)] at h

@[simp] theorem freeBlocks_ram (blocks : List Nat) (os : ObjectStore) : (freeBlocks blocks os).ram = os.ram := rfl
@[simp] theorem freeBlocks_blocks (blocks : List Nat) (os : ObjectStore) :
    (freeBlocks blocks os).blocks = os.blocks := rfl
@[simp] theorem freeBlocks_romRefs (blocks : List Nat) (os : ObjectStore) :
    (freeBlocks blocks os).romRefs = os.romRefs := rfl
@[simp] theorem freeBlocks_defn (blocks : List Nat) (os : ObjectStore) : (freeBlocks blocks os).defn = os.defn := rfl
@[simp] theorem setEntry_chain (i : Nat) (e : Option Entry) (os : ObjectStore) : (setEntry i e os).chain = os.chain :=
  rfl
@[simp] theorem setEntry_blocks (i : Nat) (e : Option Entry) (os : ObjectStore) :
    (setEntry i e os).blocks = os.blocks := rfl
@[simp] theorem setEntry_romRefs (i : Nat) (e : Option Entry) (os : ObjectStore) :
    (setEntry i e os).romRefs = os.romRefs := rfl
@[simp] theorem setEntry_defn (i : Nat) (e : Option Entry) (os : ObjectStore) : (setEntry i e os).defn = os.defn := rfl

/-- The entry that a search finds holds the searched property. -/
theorem findEntry_some {os : ObjectStore} {p : Entry → Bool} {i : Nat} {e : Entry}
    (h : findEntry os p = some (i, e)) : ramEntry os i = some e ∧ p e = true := by
  simp only [findEntry] at h
  split at h
  · cases h
  · rename_i k hk
    rw [List.findIdx?_eq_some_iff_getElem] at hk
    obtain ⟨hlt, hp, _⟩ := hk
    cases hr : ramEntry os k with
    | none => simp [hr] at h
    | some e' =>
      simp only [hr, Option.map_some, Option.some.injEq, Prod.mk.injEq] at h
      obtain ⟨rfl, rfl⟩ := h
      refine ⟨hr, ?_⟩
      have hk' : k < 48 := by simpa using hlt
      have : os.ram[k] = some e' := by
        simpa [ramEntry, Vector.getElem?_eq_getElem hk'] using hr
      simpa [this] using hp

/-- A search finds nothing only where no entry has the property. -/
theorem findEntry_none {os : ObjectStore} {p : Entry → Bool} (h : findEntry os p = none) (i : Nat) (e : Entry)
    (he : ramEntry os i = some e) : p e = false := by
  simp only [findEntry] at h
  have hi := ramEntry_lt he
  have he' : os.ram[i] = some e := by simpa [ramEntry, Vector.getElem?_eq_getElem hi] using he
  split at h
  · rename_i hk
    rw [List.findIdx?_eq_none_iff] at hk
    have := hk (os.ram[i]) (by simp)
    simpa [he'] using this
  · rename_i k hk
    rw [List.findIdx?_eq_some_iff_getElem] at hk
    obtain ⟨hlt, hp, _⟩ := hk
    have hk' : k < 48 := by simpa using hlt
    cases hr : ramEntry os k with
    | none =>
      have : os.ram[k] = none := by simpa [ramEntry, Vector.getElem?_eq_getElem hk'] using hr
      simp [this] at hp
    | some e' => simp [hr] at h

/-- A freed entry holds nothing, and no other entry changes. -/
theorem ramEntry_freeEntry (i j : Nat) (os : ObjectStore) :
    ramEntry (freeEntry i os) j = if j = i then none else ramEntry os j := by
  unfold freeEntry
  cases h : ramEntry os i with
  | none => split <;> simp_all
  | some e =>
    simp only
    split
    · subst j; exact ramEntry_setEntry_self _ _ _ (ramEntry_lt h)
    · rename_i hne
      rw [ramEntry_setEntry_of_ne _ _ _ _ hne]; rfl

/-- A ROM entry describes a LIVE font of generation 1 that no block holds (R23). -/
theorem directoryEntry_rom (os : ObjectStore) (f : RomFont) :
    directoryEntry os (.rom f) = some
      { name := f.name, kind := .font, origin := .rom, generation := 1, state := .live, firstBlock := none,
        length := Config.romLength f, refs := refCount os (.rom f) } := by
  cases f <;> rfl

end Sys2Proof.Machine
end

