-- ==== Sys2Proof/Tests/Slice0.lean ====
section
/-! SUPPORT. Tests: the well-formedness check, worked examples of the manual, single steps, and for each statement of
Certificates/Slice0/Obligations.lean that has hypotheses a witness that meets them, clause by clause. -/

namespace Sys2Proof.Tests

open Sys2Proof Sys2Proof.Machine

set_option Elab.async false

/-! ## Small states -/

/-- The part after a start-up with an empty buffer. -/
def on : State :=
  { State.reset with
    jl := { State.reset.jl with cts := true }
    ss := { State.reset.ss with start := .running } }

/-- One record in the receive buffer. -/
def say (t : String) (s : State) : State :=
  { s with jl := { s.jl with records := [{ chars := Sys2Proof.txt t, damaged := false, overLong := false }] } }

def withJl (f : JobLink → JobLink) (s : State) : State := { s with jl := f s.jl }
def withOs (f : ObjectStore → ObjectStore) (s : State) : State := { s with os := f s.os }
def withJq (f : JobQueue → JobQueue) (s : State) : State := { s with jq := f s.jq }
def withHi (f : HeadInterface → HeadInterface) (s : State) : State := { s with hi := f s.hi }
def withPe (f : PrintEngine → PrintEngine) (s : State) : State := { s with pe := f s.pe }
def withLp (f : LinePort → LinePort) (s : State) : State := { s with lp := f s.lp }
def withSs (f : SettingsStore → SettingsStore) (s : State) : State := { s with ss := f s.ss }

/-- A context. -/
def inContext (c : Context) : State → State := withJl fun jl => { jl with context := c }

/-- An engine state. -/
def engine (e : EngineState) : State → State := withPe fun pe => { pe with engine := e }

/-- The pause reason HOST. -/
def paused : State → State := withPe fun pe => { pe with pause := { pe.pause with host := true } }

/-- What the parser makes of the front record, where it takes it. -/
def reads {α : Type} (k : Keyword) (form : List Param → FormCheck α) (s : State) : Option α :=
  match frontRest k s with
  | some rest =>
    if admitted k s.jl.context then
      match readParams rest with
      | some ps =>
        match form ps with
        | .ok v => some v
        | .range => none
        | .bad => none
      | none => none
    else none
  | none => none

theorem takes {α : Type} {k : Keyword} {form : List Param → FormCheck α} {v : α} {s : State}
    (h : reads k form s = some v) : Takes k form v s := by
  unfold reads at h
  split at h
  · rename_i rest h1
    split at h
    · rename_i h2
      split at h
      · rename_i ps h3
        split at h
        · rename_i w h4
          cases h
          exact ⟨rest, ps, h1, h2, h3, h4⟩
        · cases h
        · cases h
      · cases h
    · cases h
  · cases h

/-- A state with every fault clear and reported clear owes no notice. -/
theorem quiet {s : State} (h : s.fm = Vector.replicate 15 clearFault) : ∀ k, noticeOwed s k = false := by
  intro k
  simp [noticeOwed, faultOf, h, clearFault]

/-! ## The well-formedness check, and words -/

theorem test_wf_trigger_print : (Instr.triggerEdge .print).wellFormed = true := by decide
theorem test_wf_trigger_purge : (Instr.triggerEdge .purge).wellFormed = true := by decide
theorem test_wf_refuses_trigger_hold : (Instr.triggerEdge .hold).wellFormed = false := by decide
theorem test_wf_refuses_trigger_taken : (Instr.triggerEdge .taken).wellFormed = false := by decide
theorem test_wf_refuses_falling_hold : (Instr.fallingEdge .hold).wellFormed = false := by decide
theorem test_wf_refuses_begin_ready : (Instr.pulseBegin .ready).wellFormed = false := by decide
theorem test_wf_refuses_begin_waste : (Instr.pulseBegin .waste).wellFormed = false := by decide
theorem test_wf_refuses_begin_line_fault : (Instr.pulseBegin .lineFault).wellFormed = false := by decide
theorem test_wf_refuses_end_ready : (Instr.pulseEnd .ready).wellFormed = false := by decide
theorem test_ill_formed_faults : exec (.triggerEdge .taken) on = .fault .illFormed := rfl

/-- No row of the table gives bits, so no word spells a command. -/
theorem test_no_word_spells (n w : Nat) : decodeTableWord n w = none := rfl

/-! ## Worked examples of the manual -/

/-- "A carry into another counter" (Chapter 4): counter 0 wraps from 9999 to 1 and counter 3 goes from 41 to 42. -/
theorem test_counter_carry :
    let cb := (Vector.replicate 8 defaultCounter).set 0
      { defaultCounter with value := 9999, low := 1, high := 9999, cascade := some 3 }
    let cb := cb.set 3 { defaultCounter with value := 41 }
    (stepCascade 8 0 cb).toList.map (·.value) = [1, 0, 0, 42, 0, 0, 0, 0] := by decide +kernel

/-- "A downward step that wraps" (Chapter 4): 2 − 3 over 1 to 50 gives 49. -/
theorem test_counter_down :
    (stepCounter { defaultCounter with value := 2, low := 1, high := 50, step := -3 }).1.value = 49 := by decide

/-- "A HOLD counter running out" (Chapter 4): 3 + 1 over 1 to 3 stays at 3, exhausted. -/
theorem test_counter_hold :
    stepCounter { defaultCounter with value := 3, low := 1, high := 3, mode := .hold }
      = ({ defaultCounter with value := 3, low := 1, high := 3, mode := .hold, exhausted := true }, false) := by decide

/-- "C128 set choices" (Chapter 7), the seven rows with their check values. -/
theorem test_c128_12345X : c128Sequence (Sys2Proof.txt "12345X") = [105, 12, 34, 100, 21, 56, 25, 106] := by
  decide +kernel
theorem test_c128_A1234 : c128Sequence (Sys2Proof.txt "A1234") = [104, 33, 99, 12, 34, 95, 106] := by decide +kernel
theorem test_c128_A12345B :
    c128Sequence (Sys2Proof.txt "A12345B") = [104, 33, 17, 18, 19, 20, 21, 34, 44, 106] := by decide +kernel
theorem test_c128_A123456B :
    c128Sequence (Sys2Proof.txt "A123456B") = [104, 33, 99, 12, 34, 56, 100, 34, 80, 106] := by decide +kernel

/-- "C128 AB1234567" (Chapter 7): the sequence, and U = 336 dots at m = 3. -/
theorem test_c128_AB1234567 :
    c128Sequence (Sys2Proof.txt "AB1234567") = [104, 33, 34, 17, 99, 23, 45, 67, 64, 106]
      ∧ symbolWidth (barElements .c128 3 7 0 true (Sys2Proof.txt "AB1234567")) = 336 := by decide +kernel

/-- "I25 with check digit" (Chapter 7): the digit string 01234565 and U = 145; 113 with CHECK OFF. -/
theorem test_i25_123456 :
    hrText .i25 true (Sys2Proof.txt "123456") = Sys2Proof.txt "01234565"
      ∧ symbolWidth (barElements .i25 2 5 0 true (Sys2Proof.txt "123456")) = 145
      ∧ symbolWidth (barElements .i25 2 5 0 false (Sys2Proof.txt "123456")) = 113 := by decide +kernel

/-- "The energy of one line" (Chapter 8): 569 µs as 355, 106 and 108, and R = 673 µs; the cold extreme clamps to 2000. -/
theorem test_strobe_energy :
    let p := strobePhases { defaultEnergy with dark := 4 } (strobeWidth { defaultEnergy with dark := 4 } 45)
    p = { w := 569, a := 355, b := 106, c := 108 } ∧ strobeTimeOf p = 673
      ∧ strobeWidth { defaultEnergy with basew := 2000, dark := 15 } 0 = 2000 := by decide +kernel

/-- "Four dots through five lines" (Chapter 8), line 2: d1 is medium, d2 cold, d3 hot; d0 is off. -/
theorem test_history_line_2 :
    maskA 0b1110#832 = 0b1110#832 ∧ maskB 0b1110#832 0b1001#832 = 0b0110#832
      ∧ maskC 0b1110#832 0b1001#832 0b1011#832 = 0b0100#832 := by decide +kernel

/-- SPEED 240 gives 225, 40 gives 50 and 400 gives 300 (R125). -/
theorem test_speed_rounded : speedFor 240 = 225 ∧ speedFor 40 = 50 ∧ speedFor 400 = 300 := by decide

/-- SET HA=50,HB=20 makes HB 10 (R125). -/
theorem test_hb_fitted : (writeItems [.ha 50, .hb 20] defaultSettings).energy.hb = 10 := by decide

/-- MOD=3,WIDE=12 stores w = 9 (R50). -/
theorem test_wide_fitted : fitBetween (2 * 3) (3 * 3) 12 = 9 := by decide

/-- The STS example (R211). -/
theorem test_sts_text :
    stsText
        { engine := .halted, pause := { hot := true }, jobs := 3, readyBands := 4, presented := none, reading := 81,
          speed := 150, pitch := 1216, calibrated := true, portOn := true, parcels := 2,
          faults := [(.headHot, true), (.headWarm, true), (.late, true)] }
      = Sys2Proof.txt
        ("STS ENG=HALTED,PAUSE=HOT,JOBS=3,BANDS=4,PRES=NONE,T=81,SPD=150,PITCH=1216,CAL=YES,LINE=ON:2,"
          ++ "FAULTS=HEAD-HOT:A+HEAD-WARM:A+LATE:A") := by decide +kernel

/-- "A text field turned a quarter turn" (Chapter 3): dot (u, v) lands on (796 + 23 − v, 40 + u). -/
theorem test_rotation_place :
    let f : LaidField :=
      { x := 796, y := 40, rot := .r90, mode := .set, text := [], frameU := 82, frameV := 24, shape := .box 1 }
    framePosition f 23 0 = (0, 0) ∧ framePosition f 0 81 = (81, 23) := by decide

/-! ## Single steps -/

/-- From reset the load completes with the defaults, SETTINGS-LOST and RDY DEFAULT (R203, R211). -/
theorem test_start_up :
    ∃ t, exec .loadCompletion State.reset = .next t ∧ t.jl.reports = [.rdy false] ∧ t.ss.start = .running
      ∧ (faultOf t .settingsLost).latched = true ∧ t.jl.cts = true :=
  ⟨_, rfl, by decide +kernel, by decide +kernel, by decide +kernel, by decide +kernel⟩

/-- JOB 70000,PARCEL is refused with RANGE (R8's example). -/
theorem test_job_range :
    ∃ t, exec .job (say "JOB 70000,PARCEL" on) = .next t ∧ t.jl.reports = [.err .range (some (Sys2Proof.txt "JOB"))] :=
  ⟨_, rfl, by decide +kernel⟩

/-- SET SPEED=400 is accepted, and SPEED becomes 300 with no report (R8's example). -/
theorem test_set_clamps :
    ∃ t, exec .set (say "SET SPEED=400" on) = .next t ∧ t.jl.reports = [] ∧ t.ss.settings.energy.speed = 300 :=
  ⟨_, rfl, by decide +kernel, by decide +kernel⟩

/-- A text line opens with its keyword, then a space; a record of no known keyword is refused (R6). -/
theorem test_unknown_keyword :
    ∃ t, exec .unknownRecord (say "PRINT 1" on) = .next t
      ∧ t.jl.reports = [.err .syntaxErr (some (Sys2Proof.txt "PRINT"))] := ⟨_, rfl, by decide +kernel⟩

/-- A trigger with the port ON waits in its conflict window at the conveyor position (R176). -/
theorem test_trigger_waits :
    ∃ t, exec (.triggerEdge .purge) (withLp (fun lp => { lp with on := true, conveyor := 7 }) on) = .next t
      ∧ t.lp.window = some { kind := .purge, position := 7 } := ⟨_, rfl, by decide +kernel⟩

/-- The conveyor wraps (R175). -/
theorem test_conveyor_wraps :
    ∃ t, exec .encPulse (withLp (fun lp => { lp with conveyor := 0xFFFFFFFF }) on) = .next t ∧ t.lp.conveyor = 0 :=
  ⟨_, rfl, by decide +kernel⟩

/-- 81 °C raises HEAD-WARM and HEAD-HOT with the reason HOT (R129, R130). -/
theorem test_hot_sample :
    ∃ t, exec (.sampleCompletion 81) on = .next t ∧ t.pe.pause.hot = true ∧ (faultOf t .headHot).active = true
      ∧ (faultOf t .headWarm).active = true := ⟨_, rfl, by decide +kernel, by decide +kernel, by decide +kernel⟩

/-- The settings that a save stores are those a load gives back (R209, R210). -/
theorem test_image_round_trip :
    judgeImage (formImage defaultSettings (Vector.replicate 8 defaultCounter))
      = some (defaultSettings, Vector.replicate 8 defaultCounter) := by decide +kernel

/-! ## Witnesses: the machine and the job link -/

theorem test_witness_CommandsLeaveQueueAlone :
    ∃ t, exec .encPulse on = .next t ∧ Instr.encPulse ≠ .powerOn := ⟨_, rfl, by decide⟩

theorem test_witness_WellFormedCommandsRunOn :
    (Instr.pulseBegin .miss).wellFormed = true ∧ (Instr.pulseBegin .lineFault).wellFormed = false := by decide

theorem test_witness_UnpoweredPartIsInert :
    ({ on with powered := false } : State).powered = false ∧ Instr.stat.wellFormed = true ∧ Instr.stat ≠ .powerOn
      ∧ Instr.stat ≠ .hrdyRise ∧ Instr.stat ≠ .hrdyFall := by decide

/-- A record being received with 511 characters stored, and one that is full. -/
def almostLong : State := withJl (fun jl => { jl with receiving := List.replicate 511 65 }) on
def overLong : State :=
  withJl (fun jl => { jl with receiving := List.replicate 512 65, receivingOverLong := true }) on

/-- The buffer with 256 positions free, and with none. -/
def nearlyFull : State :=
  withJl (fun jl => { jl with
    records := [{ chars := List.replicate 1790 65, damaged := false, overLong := true }] }) on
def full : State :=
  withJl (fun jl => { jl with
    records := [{ chars := List.replicate 2047 65, damaged := false, overLong := true }] }) on

theorem test_witness_ReceivedCharacterStored :
    (on.powered = true ∧ on.ss.start ≠ .loading ∧ on.jl.receivingDamaged = false ∧ bufferUsed on.jl < 2048
      ∧ on.jl.receiving = [] ∧ on.jl.receivingOverLong = false)
    ∧ (almostLong.powered = true ∧ almostLong.ss.start ≠ .loading ∧ almostLong.jl.receivingDamaged = false
      ∧ bufferUsed almostLong.jl < 2048 ∧ almostLong.jl.receiving ≠ [] ∧ almostLong.jl.receivingOverLong = false)
    ∧ (overLong.powered = true ∧ overLong.ss.start ≠ .loading ∧ overLong.jl.receivingDamaged = false
      ∧ bufferUsed overLong.jl < 2048 ∧ overLong.jl.receivingOverLong = true)
    ∧ (bufferUsed nearlyFull.jl < 2048 ∧ 2048 - (bufferUsed nearlyFull.jl + 1) ≤ 256)
    ∧ (65 : Byte) ≠ 10 ∧ (65 : Byte) ≠ 13 := by decide +kernel

theorem test_witness_LinkErrorDamagesRecord :
    -- a CR, and an LF, that finds the buffer full; a character without its stop bit
    (full.powered = true ∧ full.ss.start ≠ .loading ∧ full.jl.receivingDamaged = false ∧ 2048 ≤ bufferUsed full.jl
      ∧ (∃ t, exec (.characterReceived 13 true) full = .next t ∧ t.jl.receivingDamaged = true)
      ∧ (∃ t, exec (.characterReceived 10 true) full = .next t ∧ t.jl.receivingDamaged = true)
      ∧ ∃ t, exec (.characterReceived 65 false) on = .next t ∧ t.jl.receivingDamaged = true)
    -- a damaged record, empty or not, that takes a further character and then its LF
    ∧ ∀ cs : Text, cs = [] ∨ cs = [65] →
      ∃ s : State, s = withJl (fun jl => { jl with receiving := cs, receivingDamaged := true }) on ∧ s.powered = true
        ∧ s.ss.start ≠ .loading ∧ s.jl.receivingDamaged = true ∧ exec (.characterReceived 65 true) s = .next s
        ∧ ∃ t, exec (.characterReceived 10 true) s = .next t ∧ t.jl.records.length = 1 ∧ t.jl.cts = s.jl.cts := by
  refine ⟨⟨by decide +kernel, by decide +kernel, by decide +kernel, by decide +kernel, ⟨_, rfl, by decide +kernel⟩,
    ⟨_, rfl, by decide +kernel⟩, ⟨_, rfl, by decide +kernel⟩⟩, ?_⟩
  rintro cs (rfl | rfl) <;>
    exact ⟨_, rfl, by decide +kernel, by decide +kernel, by decide +kernel, rfl, _, rfl, by decide +kernel, rfl⟩

/-- RDY OK at the head of the queue with `n` of its eight characters sent. -/
def sending (n : Nat) (w : Option RateSwitch) : State :=
  withJl (fun jl => { jl with reports := [.rdy true], sent := n, sending := true, rateSwitch := w }) on

theorem test_witness_TransmitterFollowsHrdy :
    (on.powered = true ∧ on.ss.start ≠ .loading ∧ (sending 0 none).jl.reports ≠ []
      ∧ (sending 0 none).jl.rateSwitch = none ∧ (sending 0 none).powered = true)
    ∧ (sending 6 none).jl.sending = true ∧ (sending 6 none).jl.sent + 1 < (Report.rdy true).text.length
    ∧ (sending 7 none).jl.sent + 1 = (Report.rdy true).text.length ∧ (sending 7 none).jl.waiting = []
    ∧ (sending 7 (some { rate := 9600, noted := 1 })).jl.rateSwitch = some { rate := 9600, noted := 1 } := by
  decide +kernel

/-- The last character of the head report with a report that waits. -/
def lastCharacter (w : Report) (s : State) : State :=
  withJl (fun jl => { jl with reports := [.rdy true], waiting := [w], sent := 7, sending := true }) s

/-- A DONE whose job is in a slot and one whose job is not, a notice, an RDY that ends the start, and a CAL. -/
theorem test_witness_TransmitterFollowsHrdy_waiting :
    ∀ w ∈ [Report.done 1 1 0 0 0 0 none, .done 9 1 0 0 0 0 none, .flt .late true, .rdy false, .cal none],
      ∃ s : State, s = lastCharacter w
          { on with
            ss := { on.ss with start := .resetRdy }
            jq := { on.jq with jobs := [
              { slot := 0, tag := 1, format := .ram 0, objects := [], items := Vector.replicate 16 none, copies := [],
                firstSerial := none, lastSerial := none }] } }
        ∧ s.powered = true ∧ s.ss.start ≠ .loading ∧ s.jl.sending = true ∧ s.jl.rateSwitch = none
        ∧ s.jl.reports = [.rdy true] ∧ s.jl.sent + 1 = (Report.rdy true).text.length ∧ s.jl.waiting = [w]
        ∧ (jobOf s 1).isSome = true ∧ jobOf s 9 = none ∧ ([] : List Report).length < 16 := by
  intro w hw
  refine ⟨_, rfl, ?_⟩
  simp only [List.mem_cons, List.not_mem_nil, or_false] at hw
  rcases hw with rfl | rfl | rfl | rfl | rfl <;> decide +kernel

/-- A damaged record in front. -/
def damaged : State :=
  withJl (fun jl => { jl with records := [{ chars := Sys2Proof.txt "STA", damaged := true, overLong := false }] }) on

theorem test_witness_DamagedRecordTaken :
    ∃ r, frontRecord damaged = some r ∧ r.damaged = true := ⟨_, rfl, by decide⟩

theorem test_witness_MalformedRecordRefused :
    (∃ r, frontRecord (say "go" on) = some r ∧ r.damaged = false ∧ headOf r = .refused none ∧ on.jl.context = .none)
    ∧ (∃ r, frontRecord (say "ZZ" on) = some r ∧ r.damaged = false
      ∧ headOf r = .refused (some (Sys2Proof.txt "ZZ")))
    ∧ (∃ r, frontRecord (say "EOJ \t" (inContext .job on)) = some r ∧ r.damaged = false
      ∧ headOf r = .refused (some (Sys2Proof.txt "EOJ")) ∧ keywordOf (Sys2Proof.txt "EOJ") = some .eoj
      ∧ Keyword.eoj.closes = some (inContext .job on).jl.context)
    ∧ ∃ r, frontRecord (say "STAT" on) = some r ∧ r.damaged = false ∧ headOf r = .known .stat none :=
  ⟨⟨_, rfl, by decide +kernel, by decide +kernel, by decide +kernel⟩,
    ⟨_, rfl, by decide +kernel, by decide +kernel⟩,
    ⟨_, rfl, by decide +kernel, by decide +kernel, by decide +kernel, by decide +kernel⟩,
    ⟨_, rfl, by decide +kernel, by decide +kernel⟩⟩

/-- Malformed records that do not close the open context: an unknown keyword, and an ABORT with a tab. -/
theorem test_witness_MalformedRecordRefused_open :
    (∃ r, frontRecord (say "ZZ" (inContext .job on)) = some r ∧ r.damaged = false
      ∧ headOf r = .refused (some (Sys2Proof.txt "ZZ")) ∧ keywordOf (Sys2Proof.txt "ZZ") = none)
    ∧ ∃ r, frontRecord (say "ABORT \t" (inContext .job on)) = some r ∧ r.damaged = false
      ∧ headOf r = .refused (some (Sys2Proof.txt "ABORT")) ∧ keywordOf (Sys2Proof.txt "ABORT") = some .abort
      ∧ Keyword.abort.closes ≠ some (inContext .job on).jl.context :=
  ⟨⟨_, rfl, by decide +kernel, by decide +kernel, by decide +kernel⟩,
    ⟨_, rfl, by decide +kernel, by decide +kernel, by decide +kernel, by decide +kernel⟩⟩

theorem test_witness_KnownRecordRefusals :
    (frontRest .eoj (say "EOJ" on) = some none ∧ admitted .eoj (say "EOJ" on).jl.context = false)
    ∧ (frontRest .eoj (say "EOJ \"" (inContext .job on)) = some (some (Sys2Proof.txt "\""))
      ∧ admitted .eoj (inContext .job on).jl.context = true ∧ readParams (some (Sys2Proof.txt "\"")) = none) := by
  decide +kernel

/-- Check 5: a closing record with a parameter, LINE with another word for either command, CLR with one for either level,
a name of 9 characters, and an ABORT with a parameter in an open context. -/
theorem test_witness_KnownRecordRefusals_forms :
    (frontRest .eoj (say "EOJ 1" (inContext .job on)) = some (some (Sys2Proof.txt "1"))
      ∧ readParams (some (Sys2Proof.txt "1")) = some [.bare (Sys2Proof.txt "1")]
      ∧ formResult .eoj [.bare (Sys2Proof.txt "1")] = .bad
      ∧ Keyword.eoj.closes = some (inContext .job on).jl.context)
    ∧ (frontRest .line (say "LINE MAYBE" on) = some (some (Sys2Proof.txt "MAYBE"))
      ∧ readParams (some (Sys2Proof.txt "MAYBE")) = some [.bare (Sys2Proof.txt "MAYBE")]
      ∧ formResult .line [.bare (Sys2Proof.txt "MAYBE")] = .range ∧ .lineOn ∈ commandsOf .line
      ∧ .lineOff ∈ commandsOf .line)
    ∧ (frontRest .clr (say "CLR 1" on) = some (some (Sys2Proof.txt "1"))
      ∧ formResult .clr [.bare (Sys2Proof.txt "1")] = .bad ∧ .clr .low ∈ commandsOf .clr ∧ .clr .high ∈ commandsOf .clr)
    ∧ (frontRest .del (say "DEL NINECHARS" on) = some (some (Sys2Proof.txt "NINECHARS"))
      ∧ readParams (some (Sys2Proof.txt "NINECHARS")) = some [.bare (Sys2Proof.txt "NINECHARS")]
      ∧ formResult .del [.bare (Sys2Proof.txt "NINECHARS")] = .range)
    ∧ (frontRest .abort (say "ABORT 1" (inContext .job on)) = some (some (Sys2Proof.txt "1"))
      ∧ admitted .abort .job = true ∧ formResult .abort [.bare (Sys2Proof.txt "1")] = .bad
      ∧ Keyword.abort.closes ≠ some .job) := by decide +kernel

/-- What check 5 makes of a parameter, at the boundary of each kind. -/
theorem test_witness_KnownRecordRefusals_kinds :
    ((Sys2Proof.txt "NINECHARS").all isNameChar = true ∧ (Sys2Proof.txt "A-B").all isNameChar = false)
    ∧ ((List.replicate 482 65).all isHex = true ∧ (List.replicate 482 (65 : Byte)).length % 2 = 0
      ∧ 480 < (List.replicate 482 (65 : Byte)).length ∧ (Sys2Proof.txt "G0").all isHex = false
      ∧ (Sys2Proof.txt "0AF").length % 2 = 1)
    ∧ (isWord (Sys2Proof.txt "MAYBE") = true ∧ ∀ p ∈ routeWords, p.1 ≠ Sys2Proof.txt "MAYBE")
    ∧ (∃ kvs, keyvals [.keyval (Sys2Proof.txt "MX") (Sys2Proof.txt "1"), .keyval (Sys2Proof.txt "MY") (Sys2Proof.txt "1")]
        = some kvs ∧ [Sys2Proof.txt "COPIES"].length < kvs.length)
    ∧ (∃ kvs, keyvals [.keyval (Sys2Proof.txt "COPIES") (Sys2Proof.txt "ABC")] = some kvs
      ∧ kvs.length ≤ [Sys2Proof.txt "COPIES"].length
      ∧ keyInt (Sys2Proof.txt "COPIES") (kvs.filter fun p => [Sys2Proof.txt "COPIES"].contains p.1) = .bad)
    ∧ ∃ kvs, keyvals [.keyval (Sys2Proof.txt "ROT") (Sys2Proof.txt "ABC")] = some kvs
      ∧ kvs.length ≤ [Sys2Proof.txt "COPIES"].length
      ∧ keyInt (Sys2Proof.txt "COPIES") (kvs.filter fun p => [Sys2Proof.txt "COPIES"].contains p.1) ≠ .bad
      ∧ ∃ p ∈ kvs, p.1 ∉ [Sys2Proof.txt "COPIES"] :=
  ⟨by decide +kernel, by decide +kernel, by decide +kernel, ⟨_, rfl, by decide⟩,
    ⟨_, rfl, by decide, by decide +kernel⟩, ⟨_, rfl, by decide, by decide +kernel, _, .head _, by decide +kernel⟩⟩

/-- A word given to an integer key, and a later key in the source position (log entries 47, 48). -/
theorem test_forms_of_chosen_readings :
    formResult .set [.keyval (Sys2Proof.txt "SPEED") (Sys2Proof.txt "FAST")] = .bad
      ∧ formResult .txt [.bare (Sys2Proof.txt "0"), .bare (Sys2Proof.txt "0"), .bare (Sys2Proof.txt "RF8"),
        .keyval (Sys2Proof.txt "ROT") (Sys2Proof.txt "90")] = .range := by decide +kernel

/-- R50: WIDE and CHECK on a C128 field are keys it does not accept, whatever their values and however many keys. -/
theorem test_c128_refuses_wide :
    formResult .bar [.bare (Sys2Proof.txt "0"), .bare (Sys2Proof.txt "0"), .bare (Sys2Proof.txt "C128"),
        .keyval (Sys2Proof.txt "ITEM") (Sys2Proof.txt "1"), .keyval (Sys2Proof.txt "WIDE") (Sys2Proof.txt "X")] = .range
      := by decide +kernel

theorem test_witness_StalledParserTakesNothing :
    takesRecord .stat = true ∧ ({ on with powered := false } : State).powered = false
    ∧ 16 ≤ (withJl (fun jl => { jl with reports := List.replicate 16 (.rdy true) }) on).jl.reports.length
    ∧ (withJl (fun jl => { jl with waiting := [.abt 1] }) on).jl.waiting ≠ []
    ∧ (sending 0 (some { rate := 9600, noted := 1 })).jl.rateSwitch ≠ none ∧ State.reset.ss.start ≠ .running := by
  decide +kernel

theorem test_witness_ReportQueueStaysBounded :
    ∃ t, damaged.jl.reports.length ≤ 16 ∧ exec .damagedRecord damaged = .next t := ⟨_, by decide, rfl⟩

theorem test_witness_OneNoticeOfAKindWaits :
    ∃ t, oneNoticeEach on ∧ exec (.sampleCompletion 81) on = .next t :=
  ⟨_, fun k => by cases k <;> decide, rfl⟩

/-! ## Witnesses: the object store and formats -/

/-- RAM entry 0 LOADING, with its blocks, contents and context. -/
def loading (e : Entry) (chain : Vector Link 256) (m : Memory) : State :=
  inContext (if e.kind = .format then .format else .object)
    (withOs (fun os => { os with ram := os.ram.set 0 (some e), chain := chain, blocks := m }) on)

/-- A LIVE entry. -/
def live (name : String) (kind : ObjectKind) (generation refs : Nat) : Entry :=
  { newEntry (Sys2Proof.txt name) kind 7 with state := .live, generation := generation, refs := refs }

/-- RAM entry 1 added. -/
def withLive (e : Entry) : State → State := withOs fun os => { os with ram := os.ram.set 1 (some e) }

/-- Block 0 alone in use, and every block in use. -/
def oneBlock : Vector Link 256 := (Vector.replicate 256 .free).set 0 .last
def noBlockFree : Vector Link 256 := Vector.replicate 256 .last

/-- A LOADING graphic A of a length, with bytes received, and the block they lie in. -/
def graphicA (length received : Nat) : Entry :=
  { newEntry (Sys2Proof.txt "A") .graphic length with firstBlock := some 0, received := received }

/-- Every RAM entry in use. -/
def fullDirectory : State → State :=
  withOs fun os => { os with ram := Vector.replicate 48 (some (live "Z" .graphic 1 0)) }

theorem test_witness_LoadsOpenAnEntry :
    (Takes .obj formObj { name := Sys2Proof.txt "A", kind := .font, length := 1 } (say "OBJ A,FONT,1" on)
      ∧ freeEntryIndex (say "OBJ A,FONT,1" on).os = some 0)
    ∧ (Takes .obj formObj { name := Sys2Proof.txt "A", kind := .graphic, length := 131072 }
        (say "OBJ A,GRAPHIC,131072" (fullDirectory on))
      ∧ freeEntryIndex (say "OBJ A,GRAPHIC,131072" (fullDirectory on)).os = none)
    ∧ Takes .obj formObj { name := Sys2Proof.txt "A", kind := .font, length := 0 } (say "OBJ A,FONT,0" on)
    ∧ Takes .obj formObj { name := Sys2Proof.txt "A", kind := .font, length := 131073 } (say "OBJ A,FONT,131073" on)
    ∧ (Takes .fmt formFmt { name := Sys2Proof.txt "F", length := 8, width := none } (say "FMT F,8" on)
      ∧ freeEntryIndex (say "FMT F,8" on).os = some 0)
    ∧ Takes .fmt formFmt { name := Sys2Proof.txt "F", length := 2400, width := some 832 } (say "FMT F,2400,832" on)
    ∧ Takes .fmt formFmt { name := Sys2Proof.txt "F", length := 7, width := none } (say "FMT F,7" on)
    ∧ Takes .fmt formFmt { name := Sys2Proof.txt "F", length := 8, width := some 833 } (say "FMT F,8,833" on) :=
  ⟨⟨takes (by decide +kernel), by decide +kernel⟩, ⟨takes (by decide +kernel), by decide +kernel⟩,
    takes (by decide +kernel), takes (by decide +kernel), ⟨takes (by decide +kernel), by decide +kernel⟩,
    takes (by decide +kernel), takes (by decide +kernel), takes (by decide +kernel)⟩

theorem test_witness_LoadsOpenAnEntry_full :
    Takes .fmt formFmt { name := Sys2Proof.txt "F", length := 2400, width := some 8 }
        (say "FMT F,2400,8" (fullDirectory on))
      ∧ freeEntryIndex (say "FMT F,2400,8" (fullDirectory on)).os = none :=
  ⟨takes (by decide +kernel), by decide +kernel⟩

/-- BLK with the first block to take, with the last room of a block, and with a second block to take. -/
def blkFirst : State := say "BLK 0AFF" (loading (newEntry (Sys2Proof.txt "A") .graphic 2) (Vector.replicate 256 .free) [])
def blkLast : State := say "BLK 0AFF" (loading (graphicA 1024 1022) oneBlock [])
def blkNext : State := say "BLK 0AFF" (loading (graphicA 1025 1023) oneBlock [])

theorem test_witness_BlkAppendsBytes :
    (Takes .blk formBlk [0x0A, 0xFF] blkFirst
      ∧ loadingEntry blkFirst.os = some (0, newEntry (Sys2Proof.txt "A") .graphic 2)
      ∧ IsChain blkFirst.os.chain none [] ∧ Memory.wf blkFirst.os.blocks = true ∧ lowestFree blkFirst.os ≠ none)
    ∧ (Takes .blk formBlk [0x0A, 0xFF] blkLast ∧ loadingEntry blkLast.os = some (0, graphicA 1024 1022)
      ∧ IsChain blkLast.os.chain (some 0) [0] ∧ Memory.wf blkLast.os.blocks = true ∧ [0].Nodup)
    ∧ (Takes .blk formBlk [0x0A, 0xFF] blkNext ∧ loadingEntry blkNext.os = some (0, graphicA 1025 1023)
      ∧ IsChain blkNext.os.chain (some 0) [0] ∧ Memory.wf blkNext.os.blocks = true ∧ lowestFree blkNext.os ≠ none) :=
  ⟨⟨takes (by decide +kernel), by decide +kernel, trivial, rfl, by decide +kernel⟩,
    ⟨takes (by decide +kernel), by decide +kernel, ⟨rfl, by decide +kernel⟩, rfl, by decide⟩,
    ⟨takes (by decide +kernel), by decide +kernel, ⟨rfl, by decide +kernel⟩, rfl, by decide +kernel⟩⟩

/-- BLK beyond the declared length, and BLK with no block free. -/
def blkLong : State := say "BLK 0AFF" (loading (graphicA 1024 1023) oneBlock [])
def blkNoRoom : State := say "BLK 0AFF" (loading (graphicA 1025 1023) noBlockFree [])

/-- EOB of an incomplete load, and of bad content. -/
def eobShort : State := say "EOB" (loading (graphicA 7 6) oneBlock [])
def eobBad : State := say "EOB" (loading (graphicA 5 5) oneBlock [])

theorem test_witness_FailedLoadsAbandoned :
    (Takes .blk formBlk [0x0A, 0xFF] blkLong ∧ loadingEntry blkLong.os = some (0, graphicA 1024 1023)
      ∧ (graphicA 1024 1023).length < (graphicA 1024 1023).received + 2)
    ∧ (Takes .blk formBlk [0x0A, 0xFF] blkNoRoom ∧ loadingEntry blkNoRoom.os = some (0, graphicA 1025 1023)
      ∧ 1024 * (entryBlocks blkNoRoom.os (graphicA 1025 1023)).length < 1025 ∧ lowestFree blkNoRoom.os = none)
    ∧ (Takes .eob formNone () eobShort ∧ loadingEntry eobShort.os = some (0, graphicA 7 6)
      ∧ (graphicA 7 6).received ≠ (graphicA 7 6).length)
    ∧ (Takes .eob formNone () eobBad ∧ loadingEntry eobBad.os = some (0, graphicA 5 5)
      ∧ goodContent eobBad 0 (graphicA 5 5) = false)
    ∧ eobBad.jl.context = .object ∧ 0 ∈ entryBlocks eobBad.os (graphicA 5 5) :=
  ⟨⟨takes (by decide +kernel), by decide +kernel, by decide⟩,
    ⟨takes (by decide +kernel), by decide +kernel, by decide +kernel, by decide +kernel⟩,
    ⟨takes (by decide +kernel), by decide +kernel, by decide⟩,
    ⟨takes (by decide +kernel), by decide +kernel, by decide +kernel⟩, rfl, by decide +kernel⟩

/-- EOB of a graphic of one dot (R207). -/
def eobGood : State :=
  say "EOB" (loading (graphicA 7 7) oneBlock [(0, 0x47), (1, 0x52), (2, 1), (3, 0), (4, 1), (5, 0), (6, 0x80)])

theorem test_witness_EobCompletesLoad :
    (Takes .eob formNone () eobGood ∧ loadingEntry eobGood.os = some (0, graphicA 7 7)
      ∧ goodContent eobGood 0 (graphicA 7 7) = true ∧ liveEntry eobGood.os (Sys2Proof.txt "A") = none)
    ∧ (Takes .eob formNone () (withLive (live "A" .font 255 0) eobGood)
      ∧ loadingEntry (withLive (live "A" .font 255 0) eobGood).os = some (0, graphicA 7 7)
      ∧ goodContent (withLive (live "A" .font 255 0) eobGood) 0 (graphicA 7 7) = true
      ∧ liveEntry (withLive (live "A" .font 255 0) eobGood).os (Sys2Proof.txt "A") = some (1, live "A" .font 255 0))
    ∧ (Takes .eob formNone () (withLive (live "A" .font 254 1) eobGood)
      ∧ loadingEntry (withLive (live "A" .font 254 1) eobGood).os = some (0, graphicA 7 7)
      ∧ goodContent (withLive (live "A" .font 254 1) eobGood) 0 (graphicA 7 7) = true
      ∧ liveEntry (withLive (live "A" .font 254 1) eobGood).os (Sys2Proof.txt "A") = some (1, live "A" .font 254 1)) :=
  ⟨⟨takes (by decide +kernel), by decide +kernel, by decide +kernel, by decide +kernel⟩,
    ⟨takes (by decide +kernel), by decide +kernel, by decide +kernel, by decide +kernel⟩,
    ⟨takes (by decide +kernel), by decide +kernel, by decide +kernel, by decide +kernel⟩⟩

theorem test_witness_DelRemovesName :
    (Takes .del formDel (Sys2Proof.txt "A") (say "DEL A" (withLive (live "A" .font 1 1) on))
      ∧ liveEntry (withLive (live "A" .font 1 1) on).os (Sys2Proof.txt "A") = some (1, live "A" .font 1 1))
    ∧ (Takes .del formDel (Sys2Proof.txt "A") (say "DEL A" (withLive (live "A" .font 1 0) on))
      ∧ liveEntry (withLive (live "A" .font 1 0) on).os (Sys2Proof.txt "A") = some (1, live "A" .font 1 0))
    ∧ (Takes .del formDel (Sys2Proof.txt "RF8") (say "DEL RF8" on) ∧ liveEntry on.os (Sys2Proof.txt "RF8") = none
      ∧ romNamed (Sys2Proof.txt "RF8") = some .rf8)
    ∧ (Takes .del formDel (Sys2Proof.txt "A") (say "DEL A" on) ∧ liveEntry on.os (Sys2Proof.txt "A") = none
      ∧ romNamed (Sys2Proof.txt "A") = none) :=
  ⟨⟨takes (by decide +kernel), by decide +kernel⟩, ⟨takes (by decide +kernel), by decide +kernel⟩,
    ⟨takes (by decide +kernel), by decide +kernel, by decide +kernel⟩,
    ⟨takes (by decide +kernel), by decide +kernel, by decide +kernel⟩⟩

/-- An open format of 800 lines by 832 dots with the given fields, and its entry. -/
def formatF : Entry := newEntry (Sys2Proof.txt "F") .format 0
def label (fields : List Field) : Format := { length := 800, width := 832, fields := fields }
def compiling (fields : List Field) (chain : Vector Link 256) : State :=
  withOs (fun os => { os with defn := some (label fields) }) (loading formatF chain [])

/-- A default place, and a box field at the origin. -/
def place : PlaceForm := { x := 0, y := 0, rot := none, mode := .set }
def boxField : Field := { x := 0, y := 0, rot := .r0, mode := .set, body := .box 1 1 1 }
def fontField : Field := { x := 0, y := 0, rot := .r0, mode := .set, body := .txt (Sys2Proof.txt "A") (.item 1) 1 1 }

def aTxt : TxtForm :=
  { place := place, font := Sys2Proof.txt "RF8", source := .literal (Sys2Proof.txt "X"), mx := some 8, my := none }
def aBar : BarForm :=
  { place := place, symbology := .i25, source := .item 16, module := some 10, wide := some 30, height := some 1200,
    reduction := some 9, check := false, hr := none }
def aBox : BoxForm := { place := place, width := 832, height := 800, thickness := some 2400 }
def anImg : ImgForm := { place := { place with x := 831, y := 799, rot := some 270 }, graphic := Sys2Proof.txt "A" }

def sayTxt : State := say "TXT 0,0,RF8,\"X\",MX=8" (compiling [] (Vector.replicate 256 .free))
def sayBar : State :=
  say "BAR 0,0,I25,ITEM=16,MOD=10,WIDE=30,HT=1200,RED=9,CHECK=OFF" (compiling [] (Vector.replicate 256 .free))
def sayBox : State := say "BOX 0,0,832,800,TH=2400" (compiling [boxField] (Vector.replicate 256 .free))
def sayImg : State := say "IMG 831,799,A,ROT=270" (compiling [] (Vector.replicate 256 .free))

/-- The field each of the four records defines. -/
theorem test_fields_built :
    (buildTxt aTxt (label [])).isSome ∧ (buildBar aBar (label [])).isSome ∧ (buildBox aBox (label [])).isSome
      ∧ (buildImg anImg (label [])).isSome
      ∧ (buildImg { anImg with place := { place with x := 832 } } (label [])).isSome = false := by decide +kernel

theorem test_witness_FieldRecordsAppend :
    (Takes .txt formTxt aTxt sayTxt ∧ Takes .bar formBar aBar sayBar ∧ Takes .box formBox aBox sayBox
      ∧ Takes .img formImg anImg sayImg)
    ∧ (sayTxt.os.defn = some (label []) ∧ loadingEntry sayTxt.os = some (0, formatF)
      ∧ ∃ f os, buildTxt aTxt (label []) = some f ∧ conflicts (label []) f = false
        ∧ appendBytes 0 formatF
          (compiledBytes { label [] with fields := [] ++ [f] } 0 (24 + literalLength f.body)) sayTxt.os = some os)
    ∧ (Takes .box formBox aBox { sayBox with os := (compiling (List.replicate 40 boxField) oneBlock).os }
      ∧ 40 ≤ (label (List.replicate 40 boxField)).fields.length)
    ∧ (Takes .img formImg anImg { sayImg with os := (compiling [fontField] oneBlock).os }
      ∧ ∃ f, buildImg anImg (label [fontField]) = some f ∧ conflicts (label [fontField]) f = true) :=
  ⟨⟨takes (by decide +kernel), takes (by decide +kernel), takes (by decide +kernel), takes (by decide +kernel)⟩,
    ⟨by decide +kernel, by decide +kernel, _, _, rfl, by decide +kernel, rfl⟩,
    ⟨takes (by decide +kernel), by decide +kernel⟩, takes (by decide +kernel), _, rfl, by decide +kernel⟩

/-- TXT with no block free for its first 25 bytes. -/
theorem test_witness_FieldRecordsAppend_full :
    Takes .txt formTxt aTxt (say "TXT 0,0,RF8,\"X\",MX=8" (compiling [] noBlockFree))
      ∧ 1024 * (entryBlocks (compiling [] noBlockFree).os formatF).length < formatF.received + 25
      ∧ lowestFree (compiling [] noBlockFree).os = none :=
  ⟨takes (by decide +kernel), by decide +kernel, by decide +kernel⟩

theorem test_witness_FieldValuesChecked :
    0 < (label []).width ∧ 0 < (label []).length ∧ (∃ x, buildTxt aTxt (label []) = some x)
      ∧ (∃ x, buildBar aBar (label []) = some x)
      ∧ ∃ x, buildBox { aBox with place := { place with rot := some 90 }, width := 800, height := 832 } (label [])
        = some x :=
  ⟨by decide, by decide, ⟨_, rfl⟩, ⟨_, rfl⟩, ⟨_, rfl⟩⟩

/-- The field of IMG, and a value of each record beyond its range. -/
theorem test_witness_FieldValuesChecked_bounds :
    (∃ x, buildImg anImg (label []) = some x)
      ∧ (buildTxt { aTxt with mx := some 9 } (label [])).isSome = false
      ∧ (buildTxt { aTxt with source := .literal [] } (label [])).isSome = false
      ∧ (buildBar { aBar with wide := some 31 } (label [])).isSome = false
      ∧ (buildBar { aBar with reduction := some 10 } (label [])).isSome = false
      ∧ (buildBox { aBox with thickness := some 2401 } (label [])).isSome = false
      ∧ (buildBox { aBox with place := { place with rot := some 90 } } (label [])).isSome = false
      ∧ (buildImg { anImg with place := { place with rot := some 45 } } (label [])).isSome = false :=
  ⟨⟨_, rfl⟩, by decide +kernel⟩

/-- FEND with a block to take for the trailer, and with none free. -/
def sayFend (chain : Vector Link 256) : State := say "FEND" (compiling [] chain)

theorem test_witness_FendCompletesFormat :
    (Takes .fend formNone () (sayFend oneBlock) ∧ (sayFend oneBlock).os.defn = some (label [])
      ∧ loadingEntry (sayFend oneBlock).os = some (0, formatF) ∧ lowestFree (sayFend oneBlock).os ≠ none
      ∧ liveEntry (sayFend oneBlock).os formatF.name = none)
    ∧ (Takes .fend formNone () (sayFend noBlockFree) ∧ (sayFend noBlockFree).os.defn = some (label [])
      ∧ loadingEntry (sayFend noBlockFree).os = some (0, formatF) ∧ lowestFree (sayFend noBlockFree).os = none
      ∧ 1024 * (entryBlocks (sayFend noBlockFree).os formatF).length < formatF.received + 8) :=
  ⟨⟨takes (by decide +kernel), by decide +kernel, by decide +kernel, by decide +kernel, by decide +kernel⟩,
    ⟨takes (by decide +kernel), by decide +kernel, by decide +kernel, by decide +kernel, by decide +kernel⟩⟩

/-- FEND of a format whose name is LIVE, referenced or not, with the generations 255 and 254. -/
theorem test_witness_FendCompletesFormat_replaces :
    ∀ p ∈ [live "F" .format 255 0, live "F" .font 254 1],
      Takes .fend formNone () (withLive p (sayFend oneBlock))
        ∧ (withLive p (sayFend oneBlock)).os.defn = some (label [])
        ∧ loadingEntry (withLive p (sayFend oneBlock)).os = some (0, formatF)
        ∧ lowestFree (withLive p (sayFend oneBlock)).os ≠ none
        ∧ liveEntry (withLive p (sayFend oneBlock)).os formatF.name = some (1, p) := by
  intro p hp
  simp only [List.mem_cons, List.not_mem_nil, or_false] at hp
  rcases hp with rfl | rfl <;>
    exact ⟨takes (by decide +kernel), by decide +kernel, by decide +kernel, by decide +kernel, by decide +kernel⟩

theorem test_witness_BlockStoreStaysCanonical :
    ∃ t, Memory.wf blkNext.os.blocks = true ∧ exec .blk blkNext = .next t := ⟨_, rfl, rfl⟩

theorem test_witness_LiveNamesStayUnique :
    ∃ t, liveNamesOnce eobGood.os ∧ exec .eob eobGood = .next t := by
  refine ⟨_, ?_, rfl⟩
  intro i j e f hi hj hs
  by_cases h : i = 0
  · subst h
    have : ramEntry eobGood.os 0 = some (graphicA 7 7) := by decide +kernel
    rw [this] at hi
    cases hi
    cases hs
  · have : ramEntry eobGood.os i = none := by
      have h48 := ramEntry_lt hi
      have : ∀ i < 48, i ≠ 0 → ramEntry eobGood.os i = none := by decide +kernel
      exact this i h48 h
    rw [this] at hi
    cases hi

/-! ## Witnesses: counters -/

def aCtr : CtrForm :=
  { number := 0, value := none, low := some 1, high := some 9999, step := some (-3), mode := none, next := some 7,
    digits := none, fill := none }

theorem test_witness_CtrProgramsCounter :
    Takes .ctr formCtr aCtr (say "CTR 0,LO=1,HI=9999,STEP=-3,NEXT=7" on)
    ∧ Takes .ctr formCtr { aCtr with number := 7, next := none } (say "CTR 7,LO=1,HI=9999,STEP=-3" on)
    ∧ Takes .ctr formCtr { aCtr with number := 8, next := none } (say "CTR 8,LO=1,HI=9999,STEP=-3" on)
    ∧ Takes .ctr formCtr { aCtr with number := 3, next := some 3 } (say "CTR 3,LO=1,HI=9999,STEP=-3,NEXT=3" on)
    ∧ Takes .ctr formCtr { aCtr with next := none, step := some 0 } (say "CTR 0,LO=1,HI=9999,STEP=0" on) :=
  ⟨takes (by decide +kernel), takes (by decide +kernel), takes (by decide +kernel), takes (by decide +kernel),
    takes (by decide +kernel)⟩

/-- Counters 8 to 9 and 0 to 1 of a wrapping pair, with the full range as step. -/
def wrapping (value : Nat) (step : Int) : Counter :=
  { defaultCounter with value := value, low := 5, high := 9, step := step, cascade := some 3 }

theorem test_witness_WrapStepFollowsTable :
    (wrapping 9 1).mode = .wrap ∧ (wrapping 9 1).low ≤ (wrapping 9 1).value
      ∧ (wrapping 9 1).value ≤ (wrapping 9 1).high ∧ (wrapping 9 1).step ≠ 0
      ∧ (wrapping 9 1).step.natAbs ≤ (wrapping 9 1).high - (wrapping 9 1).low + 1
      ∧ ((wrapping 9 1).value : Int) + (wrapping 9 1).step > (wrapping 9 1).high
      ∧ ((wrapping 5 (-1)).value : Int) + (wrapping 5 (-1)).step < (wrapping 5 (-1)).low
      ∧ ((wrapping 8 1).value : Int) + (wrapping 8 1).step ≤ (wrapping 8 1).high
      ∧ (wrapping 7 5).step.natAbs = (wrapping 7 5).high - (wrapping 7 5).low + 1
      ∧ ((Vector.replicate 8 defaultCounter).set 2 (wrapping 9 1))[2]? = some (wrapping 9 1) := by decide +kernel

/-- A HOLD counter. -/
def holding (value : Nat) (step : Int) (exhausted : Bool) : Counter :=
  { defaultCounter with value := value, low := 5, high := 9, step := step, mode := .hold, exhausted := exhausted }

theorem test_witness_HoldStepStopsAtLimit :
    (holding 9 1 false).mode = .hold ∧ (holding 9 1 false).low ≤ (holding 9 1 false).value
      ∧ (holding 9 1 false).value ≤ (holding 9 1 false).high ∧ (holding 9 1 true).exhausted = true
      ∧ ((holding 9 1 false).value : Int) + (holding 9 1 false).step > (holding 9 1 false).high
      ∧ ((holding 5 (-1) false).value : Int) + (holding 5 (-1) false).step < (holding 5 (-1) false).low
      ∧ ((holding 8 1 false).value : Int) + (holding 8 1 false).step ≤ (holding 8 1 false).high := by decide

theorem reset_counters_legal : legalCounters State.reset.cb := by
  intro n c h
  have hn : n < 8 := by
    by_contra hn
    simp [Vector.getElem?_eq_none (Nat.not_lt.1 hn)] at h
  have : c = defaultCounter := by
    have : State.reset.cb[n]? = some defaultCounter := by
      show (Vector.replicate 8 defaultCounter)[n]? = _
      simp [hn]
    rw [this] at h
    exact (Option.some.inj h).symm
  subst this
  refine ⟨by decide, by decide, by decide, by decide, by decide, by decide, by decide, ?_, by decide, by decide⟩
  intro j hj
  cases hj

theorem default_settings_legal : legalSettings defaultSettings := by
  simp only [legalSettings, legalEnergy]
  decide

theorem test_witness_CountersAndSettingsStayLegal :
    ∃ t, legalCounters on.cb ∧ legalSettings on.ss.settings ∧ exec .set (say "SET SPEED=400" on) = .next t :=
  ⟨_, reset_counters_legal, default_settings_legal, rfl⟩

/-! ## Witnesses: the job queue -/

/-- A copy, and a job of a format entry with copies in the given states. -/
def copyIn (n : Nat) (st : CopyState) : Copy := { number := n, state := st, marks := {}, bound := false }
def jobOne (states : List CopyState) : Job :=
  { slot := 0, tag := 1, format := .ram 0, objects := [], items := Vector.replicate 16 none,
    copies := (List.range states.length).zipWith (fun n st => copyIn (n + 1) st) states, firstSerial := none,
    lastSerial := none }

/-- A LIVE format of one TXT field of a ROM font in RAM entry 0, and the job in the queue. -/
def textField : Field :=
  { x := 0, y := 0, rot := .r0, mode := .set, body := .txt (Sys2Proof.txt "RF8") (.literal (Sys2Proof.txt "X")) 1 1 }
def formatLive (fields : List Field) : Entry :=
  { newEntry (Sys2Proof.txt "F") .format 33 with
    state := .live, generation := 1, refs := 1, format := some { length := 100, width := 832, fields := fields } }
def withFormat (fields : List Field) : State → State :=
  withOs fun os => { os with ram := os.ram.set 0 (some (formatLive fields)) }
def withJob (states : List CopyState) (s : State) : State :=
  withJq (fun jq => { jq with jobs := [jobOne states] }) (withFormat [textField] s)

/-- The copy 1 of job 1. -/
def copy1 : CopyId := { tag := 1, number := 1 }

/-- An open assembly. -/
def assembly : Assembly := { tag := 2, format := Sys2Proof.txt "F", copies := 99, items := Vector.replicate 16 none }
def assembling (s : State) : State := inContext .job (withJq (fun jq => { jq with assembly := some assembly }) s)

theorem test_witness_JobAssembled :
    (Takes .job formJob { tag := 1, format := Sys2Proof.txt "F", copies := none } (say "JOB 1,F" on)
      ∧ jobOf (say "JOB 1,F" on) 1 = none)
    ∧ Takes .job formJob { tag := 65535, format := Sys2Proof.txt "F", copies := some 99 }
      (say "JOB 65535,F,COPIES=99" on)
    ∧ Takes .job formJob { tag := 65536, format := Sys2Proof.txt "F", copies := none } (say "JOB 65536,F" on)
    ∧ Takes .job formJob { tag := 1, format := Sys2Proof.txt "F", copies := some 100 } (say "JOB 1,F,COPIES=100" on)
    ∧ (Takes .job formJob { tag := 1, format := Sys2Proof.txt "F", copies := none }
        (say "JOB 1,F" (withJob [.waiting] on))
      ∧ jobOf (withJob [.waiting] on) 1 = some (jobOne [.waiting]))
    ∧ (Takes .dat formDat (16, Sys2Proof.txt "X") (say "DAT 16,\"X\"" (assembling on))
      ∧ (assembling on).jq.assembly = some assembly)
    ∧ Takes .dat formDat (17, Sys2Proof.txt "X") (say "DAT 17,\"X\"" (assembling on)) :=
  ⟨⟨takes (by decide +kernel), by decide +kernel⟩, takes (by decide +kernel), takes (by decide +kernel),
    takes (by decide +kernel), ⟨takes (by decide +kernel), by decide +kernel⟩,
    ⟨takes (by decide +kernel), by decide +kernel⟩, takes (by decide +kernel)⟩

/-- EOJ of a format that names a ROM font, with the engine HOLDING. -/
def sayEoj : State := say "EOJ" (assembling (engine .holding (withFormat [textField] on)))

theorem test_witness_EojAcceptsJob :
    Takes .eoj formNone () sayEoj ∧ sayEoj.jq.assembly = some assembly
      ∧ lookup sayEoj.os assembly.format .format = some (.ram 0)
      ∧ pinnedFormat sayEoj (.ram 0) = some { length := 100, width := 832, fields := [textField] }
      ∧ (namedObjects [textField]).mapM (fun o => (lookup sayEoj.os o.name o.kind).map fun e => (o, e))
        = some [({ name := Sys2Proof.txt "RF8", kind := .font }, .rom .rf8)]
      ∧ freeJobSlot sayEoj.jq.jobs = some 0 ∧ (∀ e ∈ sayEoj.lp.parcels, e.state ≠ .open)
      ∧ sayEoj.pe.engine ≠ .idle :=
  ⟨takes (by decide +kernel), by decide +kernel, by decide +kernel, by decide +kernel, by decide +kernel,
    by decide +kernel, by decide +kernel, by decide⟩

/-- EOJ with every slot in use, with no format of the name, and with an object missing. -/
def everySlot : State :=
  withJq (fun jq => { jq with jobs := (List.range 32).map fun n => { jobOne [.waiting] with slot := n, tag := n + 10 } })
    sayEoj
def eojNoFormat : State := say "EOJ" (assembling (engine .holding on))
def eojNoObject : State := say "EOJ" (assembling (engine .holding (withFormat [fontField] on)))

theorem test_witness_EojAcceptsJob_refused :
    (Takes .eoj formNone () everySlot ∧ everySlot.jq.assembly = some assembly
      ∧ lookup everySlot.os assembly.format .format = some (.ram 0)
      ∧ ∀ m, m < 32 → ∃ x ∈ everySlot.jq.jobs, x.slot = m)
    ∧ (Takes .eoj formNone () eojNoFormat ∧ eojNoFormat.jq.assembly = some assembly
      ∧ lookup eojNoFormat.os assembly.format .format = none)
    ∧ (Takes .eoj formNone () eojNoObject ∧ eojNoObject.jq.assembly = some assembly
      ∧ lookup eojNoObject.os assembly.format .format = some (.ram 0)
      ∧ pinnedFormat eojNoObject (.ram 0) = some { length := 100, width := 832, fields := [fontField] }
      ∧ { name := Sys2Proof.txt "A", kind := .font } ∈ namedObjects [fontField]
      ∧ lookup eojNoObject.os (Sys2Proof.txt "A") .font = none) :=
  ⟨⟨takes (by decide +kernel), by decide +kernel, by decide +kernel, by decide +kernel⟩,
    ⟨takes (by decide +kernel), by decide +kernel, by decide +kernel⟩,
    ⟨takes (by decide +kernel), by decide +kernel, by decide +kernel, by decide +kernel, by decide +kernel,
      by decide +kernel⟩⟩

def sayCan : State := say "CAN 1" (engine .holding (withJob [.waiting, .waiting] on))

theorem test_witness_CanVoidsQueuedJob :
    Takes .can formCan ((jobOne [.waiting, .waiting]).tag : Int) sayCan ∧ jobOne [.waiting, .waiting] ∈ sayCan.jq.jobs
      ∧ (sayCan.jq.jobs.map (·.tag)).Nodup
      ∧ (∀ c ∈ (jobOne [.waiting, .waiting]).copies, c.state = .waiting ∧ c.bound = false)
      ∧ sayCan.lp.parcels = [] ∧ (∀ b ∈ sayCan.br.bands, b.owner = none) ∧ sayCan.re.context = none
      ∧ sayCan.pe.cal = none ∧ sayCan.pe.engine ≠ .idle :=
  ⟨takes (by decide +kernel), by decide +kernel, by decide +kernel, by decide +kernel, by decide +kernel,
    by decide +kernel, by decide +kernel, by decide +kernel, by decide⟩

theorem test_witness_CanVoidsQueuedJob_refused :
    Takes .can formCan 0 (say "CAN 0" on) ∧ Takes .can formCan 65536 (say "CAN 65536" on)
      ∧ (Takes .can formCan 65535 (say "CAN 65535" on) ∧ jobOf (say "CAN 65535" on) 65535 = none)
      ∧ jobOf sayCan 1 = some (jobOne [.waiting, .waiting]) :=
  ⟨takes (by decide +kernel), takes (by decide +kernel), ⟨takes (by decide +kernel), by decide +kernel⟩,
    by decide +kernel⟩

/-- A copy of each state, withdrawn. -/
theorem test_witness_CanVoidsQueuedJob_states :
    ∀ st ∈ [CopyState.waiting, .rendering, .rendered, .presented, .applying, .terminal .voided],
      copyOf (withJob [st] on) copy1 = some (copyIn 1 st) := by decide +kernel

theorem test_witness_AbortDiscardsEveryJob :
    Takes .abort formNone () (say "ABORT" (assembling (withJob [.waiting] on)))
      ∧ (assembling (withJob [.waiting] on)).jl.context = .job ∧ (withJob [.waiting] on).pe.label = none :=
  ⟨takes (by decide +kernel), by decide +kernel, by decide +kernel⟩

theorem test_witness_DoneCountsAddUp :
    (jobOne [.terminal .missedLate, .terminal .applied, .terminal .failed]).finished = true := by decide +kernel

/-! ## Witnesses: rendering -/

/-- RE idle with a WAITING copy of a format that refers to a counter, sound or exhausted. -/
def ctrField : Field :=
  { x := 0, y := 0, rot := .r0, mode := .set, body := .txt (Sys2Proof.txt "RF8") (.ctr 7) 1 1 }
def waitingCopy (exhausted : Bool) : State :=
  let s := engine .holding (withFormat [ctrField] (withJob [.waiting] on))
  { s with cb := s.cb.set 7 { defaultCounter with exhausted := exhausted } }

theorem test_witness_BeginCopyValidates :
    ((waitingCopy false).powered = true ∧ (waitingCopy false).re.cursor = .idle
      ∧ nextFreeBand (waitingCopy false) = some 0 ∧ nextRenderCopy (waitingCopy false) = some copy1
      ∧ jobOf (waitingCopy false) copy1.tag = some (jobOne [.waiting])
      ∧ pinnedFormat (waitingCopy false) (jobOne [.waiting]).format
        = some { length := 100, width := 832, fields := [ctrField] })
    ∧ (∃ read cb c, serveCounters [ctrField] (waitingCopy false).cb = some (read, cb)
      ∧ layCopy (waitingCopy false) (jobOne [.waiting]) copy1 { length := 100, width := 832, fields := [ctrField] } read
        = some c)
    ∧ (nextFreeBand (waitingCopy true) = some 0 ∧ nextRenderCopy (waitingCopy true) = some copy1
      ∧ jobOf (waitingCopy true) copy1.tag = some (jobOne [.waiting])
      ∧ serveCounters [ctrField] (waitingCopy true).cb = none ∧ (waitingCopy true).pe.engine ≠ .idle
      ∧ ((waitingCopy true).jq.jobs.map (·.tag)).Nodup) :=
  ⟨by decide +kernel, ⟨_, _, _, rfl, rfl⟩, by decide +kernel⟩

/-- A render context of two bands, its first band FILLING or the copy waiting for a band. -/
def context (filling : Option Nat) : RenderContext :=
  { copy := copy1, format := .ram 0, length := 100, width := 832, fields := [], bands := 2, nextIndex := 1,
    filling := filling }
def fillingBand : Band := { freshBand with state := .filling, owner := some copy1, index := some 0, used := some 64 }
def filling : State :=
  { engine .holding (withJob [.rendering] on) with
    re := { cursor := .filling, context := some (context (some 15)) }
    br := { bands := (Vector.replicate 16 freshBand).set 15 fillingBand, fill := 15 } }
def waitingBand : State :=
  { engine .holding (withJob [.rendering] on) with re := { cursor := .waitBand, context := some (context none) } }

theorem test_witness_BandsFilledInOrder :
    (filling.powered = true ∧ filling.re.context = some (context (some 15)) ∧ filling.re.cursor = .filling
      ∧ (context (some 15)).nextIndex < (context (some 15)).bands ∧ (bandOf filling 15).index = some 0
      ∧ (bandOf filling 15).used = some 64 ∧ filling.pe.engine ≠ .idle ∧ filling.pe.engine ≠ .halted
      ∧ (ringOrder filling.br.fill).find? (fun x => (bandOf filling x).state == .free) = some 0)
    ∧ (waitingBand.powered = true ∧ waitingBand.re.context = some (context none)
      ∧ waitingBand.re.cursor = .waitBand ∧ nextFreeBand waitingBand = some 0) := by decide +kernel

/-- The fill with no other band FREE, and the fill of the last band. -/
def fillingAlone : State :=
  { filling with
    br := { bands := (Vector.replicate 16 { freshBand with state := .ready }).set 15 fillingBand, fill := 15 } }
def fillingLast : State :=
  { filling with re := { cursor := .filling, context := some { context (some 15) with nextIndex := 2 } } }

theorem test_witness_BandsFilledInOrder_ends :
    (fillingAlone.re.cursor = .filling ∧ (bandOf fillingAlone 15).index = some 0
      ∧ (bandOf fillingAlone 15).used = some 64 ∧ (context (some 15)).nextIndex < (context (some 15)).bands
      ∧ (∀ n, n < 16 → (bandOf fillingAlone n).state ≠ .free) ∧ fillingAlone.pe.engine ≠ .idle
      ∧ fillingAlone.pe.engine ≠ .halted)
    ∧ (fillingLast.re.cursor = .filling ∧ (bandOf fillingLast 15).index = some 0
      ∧ ({ context (some 15) with nextIndex := 2 } : RenderContext).bands ≤ 2
      ∧ copyOf fillingLast copy1 = some (copyIn 1 .rendering)) := by decide +kernel

/-- A box field turned to each rotation: its corner dot lies in the dot set, and a field without width has none. -/
def laid (rot : Rotation) (u : Nat) : LaidField :=
  { x := 3, y := 4, rot := rot, mode := .set, text := [], frameU := u, frameV := 5, shape := .box 1 }

theorem test_witness_RotationPlacesDots :
    inDotSet on (laid .r0 7) 3 4 = true ∧ inDotSet on (laid .r90 7) 7 10 = true ∧ inDotSet on (laid .r180 7) 9 8 = true
      ∧ inDotSet on (laid .r270 7) 7 10 = true ∧ inDotSet on (laid .r90 7) 8 10 = false
      ∧ 0 < (laid .r0 7).frameU ∧ 0 < (laid .r0 7).frameV ∧ (laid .r0 0).frameU = 0 := by decide +kernel

theorem test_witness_BarCodeWidths :
    fitText .c128 (Sys2Proof.txt "A12345B") = true ∧ fitText .i25 (Sys2Proof.txt "0") = true
      ∧ fitText .i25 (List.replicate 48 57) = true ∧ fitText .i25 (List.replicate 49 57) = false := by decide +kernel

/-! ## Witnesses: strobe and head -/

/-- The least and the greatest energy that SET can store. -/
def leastEnergy : Energy := { speed := 50, dark := -16, basew := 200, ha := 24, hb := 36, split := 208 }
def mostEnergy : Energy := { speed := 300, dark := 15, basew := 2000, ha := 56, hb := 4, split := 832 }

theorem test_witness_PhasesShareWidth : legalEnergy leastEnergy ∧ legalEnergy mostEnergy := by
  constructor <;> simp only [legalEnergy] <;> decide

theorem test_witness_MasksFollowHistory :
    (831 < 832) ∧ defaultStrobe.a + defaultStrobe.b + defaultStrobe.c = defaultStrobe.w
      ∧ dotsOn 0b11#832 ≤ 2 ∧ 1 < dotsOn 0b11#832 := by decide +kernel

/-- The dots beside the line between the halves: 415 in group 2 and 416 in group 3. -/
theorem test_witness_MasksFollowHistory_halves :
    (415 < 832 ∧ 416 < 832) ∧ 1 < dotsOn (BitVec.ofNat 832 (3 * 2 ^ 415))
      ∧ ([maskA 1, maskB 1 0, maskC 1 0 0] : List Dots)[2]? = some (maskC 1 0 0) := by decide +kernel

/-- A line in progress with `n` of its three masks shifted, of a label whose copy is PRINTING. -/
def theLine (n : Nat) (strobed : Bool) : LineStrobe :=
  { newLineStrobe 1 0 0 defaultStrobe 416 625 with shifted := n, strobed := strobed }
def theLabel (y : Nat) : LabelContext :=
  { copy := some copy1, top := 1000, lines := 100, y := y, phase := .print, pitch := 1216, peel := 0, arrived := false,
    band := some 0 }
def printing (y n : Nat) (strobed : Bool) : State :=
  withHi (fun hi => { hi with line := some (theLine n strobed), verdictDue := true, power := .on })
    (withPe (fun pe => { pe with
        engine := .printing, label := some (theLabel y), position := 1000, furthest := 1000, calibrated := true,
        pitch := 1216, tops := [2216] })
      (withJob [.printing] on))

theorem test_witness_ReadbackAndHistory :
    ((printing 0 0 false).powered = true ∧ (printing 0 0 false).hi.line = some (theLine 0 false)
      ∧ (theLine 0 false).strobed = false ∧ (theLine 0 false).masks[0]? = some (maskA 1)
      ∧ (printing 0 0 false).hi.owed = false ∧ (printing 0 0 false).hi.defect = false
      ∧ (withHi (fun hi => { hi with owed := true }) (printing 0 0 false)).hi.owed = true
      ∧ (1 : Dots) ≠ (printing 0 0 false).hi.lastMask ∧ (theLabel 0).copy = some copy1)
    ∧ ((printing 98 3 false).hi.line = some (theLine 3 false) ∧ (theLine 3 false).masks.length ≤ 3
      ∧ (printing 98 3 false).hi.offAfterStrobe = false ∧ (printing 98 3 false).pe.label = some (theLabel 98)
      ∧ labelStopped (printing 98 3 false) (theLabel 98) = false ∧ (theLabel 98).y + 1 ≠ (theLabel 98).lines
      ∧ (theLabel 99).y + 1 = (theLabel 99).lines ∧ (printing 99 3 false).pe.label = some (theLabel 99)
      ∧ (printing 99 3 false).hi.verdictDue = true ∧ (printing 99 3 false).hi.verdict = none)
    ∧ ∃ s : State, s = withHi (fun hi => { hi with closing := true }) (printing 99 3 true) ∧ s.powered = true
      ∧ s.hi.closing = true ∧ s.hi.owed = false ∧ (theLabel 99).arrived = false :=
  ⟨by decide +kernel, by decide +kernel, _, rfl, by decide +kernel, by decide +kernel, by decide +kernel, rfl⟩

theorem test_witness_SampleSetsTemperature :
    ∃ s : State, s = engine .printing on ∧ s.powered = true ∧ s.pe.engine ≠ .idle ∧ s.pe.engine ≠ .halted
      ∧ s.pe.pause.hot = (faultOf s .headHot).active := ⟨_, rfl, by decide +kernel, by decide, by decide, by decide⟩

/-- The head settling, and the head ON with its timer running. -/
def settling (e : EngineState) : State := withHi (fun hi => { hi with power := .settling }) (engine e on)

theorem test_witness_HeadPowerFollows :
    (settling .idle).powered = true ∧ (settling .idle).hi.power = .settling ∧ (settling .idle).pe.engine = .idle
      ∧ (settling .printing).pe.engine = .printing ∧ (settling .printing).hi.line = none
      ∧ (settling .holding).pe.engine ≠ .idle ∧ (settling .holding).pe.engine ≠ .printing
      ∧ (withHi (fun hi => { hi with power := .on, idleTimer := some 10 }) on).hi.idleTimer = some 10 := by
  decide +kernel

/-! ## Witnesses: the print engine -/

/-- A calibration whose edges have found a gap of 40 steps and a pitch of 1216 (R154). -/
def found : Calibration :=
  { origin := .host, copy := none, steps := 1452
    edges := [{ position := 100, level := .high }, { position := 140, level := .low },
      { position := 1316, level := .high }, { position := 1356, level := .low }] }
def calibrating (c : Calibration) (position : Int) : State :=
  withPe (fun pe => { pe with engine := .calibrating, cal := some c, position := position, furthest := position })
    (paused on)

/-- A calibration that has just begun. -/
def begun : Calibration := { origin := .host, copy := none, steps := 0, edges := [] }

/-- The MEDIA setting CONT in use. -/
def cont (s : State) : State :=
  withSs (fun ss => { ss with settings := { ss.settings with media := .cont } })
    (withPe (fun pe => { pe with stock := .cont }) s)

theorem test_witness_CalibrationLearnsPitch :
    (Takes .cal formNone () (say "CAL" on) ∧ on.pe.engine = .idle ∧ on.pe.presented = none
      ∧ calibrationAllowed on.pe.pause = true ∧ on.pe.stock ≠ .cont)
    ∧ (Takes .cal formNone () (say "CAL" (cont (paused on))) ∧ (cont (paused on)).pe.engine = .idle
      ∧ calibrationAllowed (cont (paused on)).pe.pause = true ∧ (cont (paused on)).pe.pause.isEmpty = false
      ∧ (removeRecord (say "CAL" (cont (paused on)))).pe.stock = .cont)
    ∧ (Takes .cal formNone () (say "CAL" (engine .holding on)) ∧ (engine .holding on).pe.engine ≠ .idle)
    ∧ ((calibrating begun 0).powered = true ∧ calibrationArrived (calibrating begun 0) begun = false
      ∧ ({ begun with steps := 1, edges := [{ position := 1, level := .high }] } : Calibration).judge ≠ .failed)
    ∧ (found.judge = .found 140 1356 .high ∧ (1356 : Int) + 96 ≤ (calibrating found 1452).pe.position
      ∧ (calibrating found 1452).pe.pause.isEmpty = false
      ∧ (calibrating found 1452).ss.settings.media = (calibrating found 1452).pe.stock
      ∧ (calibrating found 1452).ss.settings.pitch = (calibrating found 1452).pe.contPitch) :=
  ⟨⟨takes (by decide +kernel), by decide +kernel, by decide +kernel, by decide +kernel, by decide +kernel⟩,
    ⟨takes (by decide +kernel), by decide +kernel, by decide +kernel, by decide +kernel, by decide +kernel⟩,
    ⟨takes (by decide +kernel), by decide +kernel⟩, by decide +kernel, by decide +kernel⟩

/-- PE's next copy with both its bands READY, and the engine IDLE and uncalibrated. -/
def startable (pause : PauseSet) : State :=
  let band (i : Nat) : Band := { freshBand with state := .ready, owner := some copy1, index := some i, used := some 64 }
  { withPe (fun pe => { pe with pause := pause }) (withJob [.rendered, .waiting] on) with
    br := { bands := ((Vector.replicate 16 freshBand).set 0 (band 0)).set 1 (band 1), fill := 1 } }

/-- The starts of a calibration by FEED and by a label start that GO allows. -/
theorem test_witness_CalibrationLearnsPitch_starts :
    (on.powered = true ∧ (faultOf on .mediaOut).active = false ∧ on.ss.start = .running
      ∧ (takeGeometry on).pe.calibrated = false ∧ (takeGeometry on).pe.stock ≠ .cont)
    ∧ (∀ k, noticeOwed on k = false)
    ∧ (Takes .go formNone () (say "GO" (startable { host := true })) ∧ (startable { host := true }).pe.engine = .idle
      ∧ (startable { host := true }).pe.presented = none ∧ nextPrintCopy (startable { host := true }) = some copy1
      ∧ renderReady (startable { host := true }) copy1 = true ∧ (startable { host := true }).lp.on = false
      ∧ (faultOf (startable { host := true }) .calFail).active = false
      ∧ (removeRecord (startable { host := true })).pe.calibrated = false
      ∧ (removeRecord (startable { host := true })).pe.stock ≠ .cont) :=
  ⟨by decide +kernel, quiet rfl, takes (by decide +kernel), by decide +kernel⟩

/-- Failures of a calibration made for a copy: the 3000th step without two captures, two equal runs at e3, and captures
53 steps apart. -/
def hopeless : Calibration := { begun with origin := .auto, copy := some copy1, steps := 2999 }
def equalRuns : Calibration :=
  { begun with edges := [{ position := 10, level := .high }, { position := 20, level := .low }] }
def shortPitch : Calibration :=
  { begun with edges := [{ position := 10, level := .high }, { position := 20, level := .low },
    { position := 63, level := .high }] }
def calibratingFor (c : Calibration) (position : Int) : State :=
  { calibrating c position with jq := (withJob [.rendering, .waiting] on).jq }

theorem test_witness_CalibrationLearnsPitch_failures :
    (calibrationArrived (calibratingFor hopeless 50) hopeless = false
      ∧ ({ hopeless with steps := 3000 } : Calibration).judge = .failed
      ∧ (calibratingFor hopeless 50).pe.engine = .calibrating ∧ (calibratingFor hopeless 50).pe.sensor = .low
      ∧ (calibratingFor hopeless 50).pe.pause.isEmpty = false
      ∧ (calibratingFor hopeless 50).ss.settings.media = (calibratingFor hopeless 50).pe.stock
      ∧ (calibratingFor hopeless 50).ss.settings.pitch = (calibratingFor hopeless 50).pe.contPitch
      ∧ jobOf (calibratingFor hopeless 50) 1 = some (jobOne [.rendering, .waiting])
      ∧ copyOf (calibratingFor hopeless 50) copy1 = some (copyIn 1 .rendering))
    ∧ ({ equalRuns with edges := equalRuns.edges ++ [{ position := 30, level := .high }] } : Calibration).judge = .failed
    ∧ (shortPitch.captures = none
      ∧ ({ shortPitch with edges := shortPitch.edges ++ [{ position := 73, level := .low }] } : Calibration).captures
        = some (20, 73)
      ∧ ({ shortPitch with edges := shortPitch.edges ++ [{ position := 73, level := .low }] } : Calibration).judge
        = .failed) := by decide +kernel

/-- A calibrated engine at rest with two tops ahead, and a FEED move at its target. -/
def resting : State :=
  withPe (fun pe => { pe with calibrated := true, pitch := 1216, tops := [1000, 2216], position := 40 }) on
def feeding (position : Int) : State :=
  withPe (fun pe => { pe with engine := .feedingOut, feedMove := some 1000, tops := [2216], position := position })
    (paused resting)

theorem test_witness_FeedKeyMovesMedia :
    (resting.powered = true ∧ (faultOf resting .mediaOut).active = false ∧ resting.ss.start = .running
      ∧ resting.pe.engine = .idle ∧ resting.pe.presented = none ∧ resting.pe.pause.media = false
      ∧ resting.pe.calibrated = true ∧ resting.pe.stock ≠ .cont ∧ resting.pe.tops = [1000, 2216]
      ∧ resting.pe.position < 2216)
    ∧ (∀ k, noticeOwed resting k = false) ∧ (engine .holding on).pe.engine ≠ .idle ∧ State.reset.ss.start = .loading
    ∧ ((feeding 2216).pe.engine = .feedingOut ∧ (feeding 2216).pe.label = none
      ∧ (feeding 2216).pe.feedMove = some 1000 ∧ (feeding 2216).pe.tops.head? = some 2216
      ∧ (feeding 2216).pe.pause.isEmpty = false
      ∧ (feeding 2216).ss.settings.media = (feeding 2216).pe.stock
      ∧ (feeding 2216).ss.settings.pitch = (feeding 2216).pe.contPitch) :=
  ⟨by decide +kernel, quiet rfl, by decide, by decide, by decide +kernel⟩

/-- A label before line y, with its copy withdrawn or not, and its band READY or not. -/
def atLine (y : Nat) (withdrawn ready : Bool) : State :=
  let s := withHi (fun hi => { hi with line := none }) (printing y 3 true)
  let s := withJq (fun jq => { jq with jobs := jq.jobs.map fun j =>
    { j with copies := j.copies.map fun c => { c with marks := { withdrawn := withdrawn } } } }) s
  let b : Band := { freshBand with state := .ready, owner := some copy1, index := some (y / 64), used := some 64 }
  if ready then { s with br := { s.br with bands := s.br.bands.set 0 b } } else s

theorem test_witness_BoundaryTable :
    (labelStopped (atLine 0 true true) (theLabel 0) = true ∧ (atLine 0 true true).pe.pause.isEmpty = true
      ∧ (paused (atLine 0 true true)).pe.pause.isEmpty = false)
    ∧ (labelStopped (atLine 100 false false) (theLabel 100) = false ∧ (theLabel 100).y = (theLabel 100).lines)
    ∧ (labelStopped (atLine 99 false false) (theLabel 99) = false ∧ (theLabel 99).y ≠ (theLabel 99).lines
      ∧ bandForLine (atLine 99 false false) copy1 99 = none)
    ∧ ((atLine 99 false true).pe.label = some (theLabel 99) ∧ bandForLine (atLine 99 false true) copy1 99 = some 0
      ∧ (atLine 99 false true).hi.power = .on
      ∧ bandForLine (atLine 0 false true) copy1 0 = some 0
      ∧ (withHi (fun hi => { hi with power := .settling }) (atLine 0 false true)).hi.power ≠ .on) := by
  decide +kernel

/-- A feed-out that begins: with its target known ahead, unknown, at the media with the verdict awaited or not, and on CONT
stock. -/
theorem test_witness_BoundaryTable_feed_out :
    ((atLine 100 false false).pe.calibrated = true ∧ (atLine 100 false false).pe.tops.head? = some 2216
      ∧ (atLine 100 false false).pe.position < 2216 + 40 ∧ (atLine 100 false false).ss.settings.peel = 40
      ∧ (theLabel 100).phase = .print)
    ∧ (withPe (fun pe => { pe with tops := [] }) (atLine 100 false false)).pe.tops.head? = none
    ∧ (∃ s : State, s = withPe (fun pe => { pe with position := 2256 }) (atLine 100 false false)
      ∧ s.pe.tops.head?.map (· + ((40 : Nat) : Int)) = some 2256 ∧ (2256 : Int) ≤ s.pe.position
      ∧ s.hi.verdictDue = true ∧ s.hi.verdict = none)
    ∧ ∃ s : State, s = withHi (fun hi => { hi with verdict := some false })
        (withPe (fun pe => { pe with position := 2256, stock := .cont }) (atLine 100 false false))
      ∧ (theLabel 100).top + (theLabel 100).pitch + (40 : Nat) = 2256 ∧ (2256 : Int) ≤ s.pe.position
      ∧ s.hi.verdict ≠ none :=
  ⟨by decide +kernel, by decide +kernel, ⟨_, rfl, by decide +kernel⟩, ⟨_, rfl, by decide +kernel⟩⟩

theorem test_witness_LinesAndBackfeedComplete :
    ((engine .backfeeding (printing 0 3 true)).powered = true
      ∧ (engine .backfeeding (printing 0 3 true)).pe.engine = .backfeeding
      ∧ (engine .backfeeding (printing 0 3 true)).pe.label = some (theLabel 0))
    ∧ ((printing 62 3 true).hi.line = some (theLine 3 true) ∧ (theLine 3 true).strobed = true
      ∧ (printing 62 3 true).pe.label = some (theLabel 62) ∧ (printing 62 3 true).pe.position < 2147483647
      ∧ (printing 62 3 true).pe.engine = .printing ∧ (theLabel 62).y + 1 ≠ (theLabel 62).lines
      ∧ labelStopped (printing 62 3 true) (theLabel 62) = false)
    ∧ (∀ k, noticeOwed (printing 62 3 true) k = false)
    ∧ ((printing 63 3 true).pe.label = some (theLabel 63) ∧ (theLabel 63).band = some 0
      ∧ (theLabel 63).y + 1 ≠ (theLabel 63).lines)
    ∧ ((printing 99 3 true).pe.label = some (theLabel 99) ∧ (theLabel 99).y + 1 = (theLabel 99).lines
      ∧ (theLabel 99).copy = some copy1) :=
  ⟨by decide +kernel, by decide +kernel, quiet rfl, by decide +kernel⟩

/-- The registers of a calibrated engine between two labels, at position 1000 with sensor LOW and sense HIGH-GAP. -/
def edgePe (gapStart capture : Option Int) (violations : Nat) : PrintEngine :=
  { (printing 62 3 true).pe with lastGapStart := gapStart, lastCapture := capture, violations := violations }

/-- A step without an edge; a gap start; and a capture that is not checked, that conforms, and that violates. -/
theorem test_witness_LinesAndBackfeedComplete_steps :
    Stepped .low (edgePe none none 0) { edgePe none none 0 with position := 1001, furthest := 1001, sensor := .low }
    ∧ Stepped .high (edgePe none none 0)
      { edgePe none none 0 with position := 1001, furthest := 1001, sensor := .high, lastGapStart := some 1001 }
    ∧ Stepped .low { edgePe none (some 100) 3 with sensor := .high }
      { edgePe none (some 1001) 3 with position := 1001, furthest := 1001, sensor := .low, tops := [2216, 1097] }
    ∧ Stepped .low { edgePe (some 961) (some 100) 3 with sensor := .high }
      { edgePe (some 961) (some 1001) 0 with position := 1001, furthest := 1001, sensor := .low, tops := [2216, 1097] }
    ∧ Stepped .low { edgePe (some 101) (some 100) 5 with sensor := .high }
      { edgePe (some 101) (some 1001) 6 with position := 1001, furthest := 1001, sensor := .low, tops := [2216, 1097] } := by
  unfold Stepped
  refine ⟨?_, ?_, ?_, ?_, ?_⟩
  · rw [if_neg (by decide +kernel)]; rfl
  · rw [if_pos (by decide +kernel), if_pos (by decide +kernel)]; rfl
  · rw [if_pos (by decide +kernel), if_neg (by decide +kernel)]
    exact ⟨3, rfl, .inr (.inr ⟨fun _ _ h => (nomatch h), rfl⟩)⟩
  · rw [if_pos (by decide +kernel), if_neg (by decide +kernel)]
    exact ⟨0, rfl, .inr (.inl ⟨⟨961, 100, rfl, rfl, by decide, by decide⟩, rfl⟩)⟩
  · rw [if_pos (by decide +kernel), if_neg (by decide +kernel)]
    exact ⟨6, rfl, .inl ⟨⟨101, 100, rfl, rfl, by decide, by decide⟩, rfl, by decide⟩⟩

/-- The guard's step: calibrated, no top ahead, and the burn line 1.5 pitches behind the label's top; and the step whose
capture is the seventh violation. -/
def lastTop : State :=
  withPe (fun pe => { pe with tops := [], position := 2823, furthest := 2823 }) (printing 62 3 true)
def flipping : State :=
  withPe (fun pe => { pe with sensor := .high, lastGapStart := some 101, lastCapture := some 100, violations := 6 })
    (printing 62 3 true)

theorem test_witness_LinesAndBackfeedComplete_lost :
    (Stepped .low lastTop.pe { lastTop.pe with position := 2824, furthest := 2824, sensor := .low }
      ∧ lastTop.pe.calibrated = true ∧ lastTop.pe.stock ≠ .cont
      ∧ (theLabel 62).top + (3 * (theLabel 62).pitch / 2 : Nat) ≤ lastTop.pe.position + 1
      ∧ copyOf lastTop copy1 = some (copyIn 1 .printing))
    ∧ (flipping.pe.furthest < flipping.pe.position + 1 ∧ SensorLevel.low ≠ flipping.pe.sensor
      ∧ SensorLevel.low ≠ flipping.pe.sense.gapLevel ∧ flipping.pe.stock ≠ .cont ∧ flipping.pe.calibrated = true
      ∧ (101 : Int) - 100 ≤ flipping.pe.position + 1 - 101 ∧ 6 ≤ flipping.pe.violations
      ∧ flipping.pe.position + 1 < (theLabel 62).top + (3 * (theLabel 62).pitch / 2 : Nat)
      ∧ labelStopped flipping (theLabel 62) = false) :=
  ⟨⟨by unfold Stepped; rw [if_neg (by decide +kernel)]; rfl, by decide +kernel⟩, by decide +kernel⟩

/-- A label start with the media before the top, at it and beyond it, on an uncalibrated engine with CAL-FAIL active, and
on CONT stock; and each command that tests for one. -/
def readyToStart (position : Int) (pause : PauseSet) : State :=
  withPe (fun pe => { pe with calibrated := true, pitch := 1216, tops := [1000, 2216], position := position })
    (startable pause)

theorem test_witness_LinesAndBackfeedComplete_starts :
    ((readyToStart 1001 {}).pe.engine = .idle ∧ (readyToStart 1001 {}).pe.presented = none
      ∧ (readyToStart 1001 {}).pe.pause.isEmpty = true ∧ nextPrintCopy (readyToStart 1001 {}) = some copy1
      ∧ renderReady (readyToStart 1001 {}) copy1 = true ∧ (readyToStart 1001 {}).lp.on = false
      ∧ (readyToStart 1001 {}).pe.tops = [1000, 2216] ∧ (1000 : Int) < (readyToStart 1001 {}).pe.position)
    ∧ (readyToStart 1000 {}).pe.position ≤ 1000
    ∧ (∃ s : State, s = setFault .calFail { active := true, latched := true, reported := true } (startable {})
      ∧ s.pe.calibrated = false ∧ (faultOf s .calFail).active = true ∧ nextPrintCopy s = some copy1
      ∧ renderReady s copy1 = true)
    ∧ ((cont (startable {})).pe.stock = .cont ∧ (cont (startable {})).pe.calibrated = false
      ∧ (faultOf (cont (startable {})) .calFail).active = false ∧ nextPrintCopy (cont (startable {})) = some copy1
      ∧ renderReady (cont (startable {})) copy1 = true) :=
  ⟨by decide +kernel, by decide +kernel, ⟨_, rfl, by decide +kernel⟩, by decide +kernel⟩

theorem test_witness_LinesAndBackfeedComplete_tests :
    (Takes .go formNone () (say "GO" (readyToStart 1000 { host := true }))
      ∧ (readyToStart 1000 { host := true }).pe.pause = { host := true })
    ∧ ((readyToStart 1000 { panel := true }).ss.start = .running
      ∧ (readyToStart 1000 { panel := true }).pe.pause = { panel := true })
    ∧ (∃ s : State, s = withLp (fun lp => { lp with on := true, hold := true }) (readyToStart 1000 { line := true })
      ∧ s.powered = true ∧ s.lp.on = true ∧ s.lp.hold = true ∧ s.pe.engine = .idle ∧ s.pe.pause = { line := true })
    ∧ ((engine .idle fillingLast).re.cursor = .filling ∧ (engine .idle fillingLast).pe.engine = .idle
      ∧ (bandOf (engine .idle fillingLast) 15).used = some 64)
    ∧ (∃ s : State, s = withPe (fun pe => { pe with pause := {} }) (feeding 2216) ∧ s.pe.engine = .feedingOut
      ∧ s.pe.label = none ∧ s.pe.feedMove = some 1000 ∧ s.pe.tops.head? = some 2216 ∧ 2216 ≤ s.pe.position)
    ∧ ∃ s : State, s = withPe (fun pe => { pe with engine := .holding, presented := some { copy := none, waste := true } })
        (readyToStart 1000 {})
      ∧ s.lp.taken = false ∧ s.lp.applyWait = none ∧ s.pe.engine = .holding ∧ s.ss.settings.media = s.pe.stock
      ∧ s.ss.settings.pitch = s.pe.contPitch :=
  ⟨⟨takes (by decide +kernel), by decide +kernel⟩, by decide +kernel, ⟨_, rfl, by decide +kernel⟩, by decide +kernel,
    ⟨_, rfl, by decide +kernel⟩, ⟨_, rfl, by decide +kernel⟩⟩

/-- A label in its feed-out with PEEL 40 and the next top at 2216, at a position, with its verdict due or not. -/
def outLabel : LabelContext := { theLabel 100 with phase := .feedOut, peel := 40, band := none }
def feedingOut (position : Int) (due : Bool) : State :=
  withHi (fun hi => { hi with line := none, verdictDue := due })
    (withPe (fun pe => { pe with engine := .feedingOut, label := some outLabel, position := position })
      (printing 99 3 true))

theorem test_witness_FeedOutPresentsLabel :
    ((feedingOut 2255 true).pe.engine = .feedingOut ∧ (feedingOut 2255 true).pe.label = some outLabel
      ∧ outLabel.arrived = false ∧ feedTarget (feedingOut 2255 true) outLabel = some 2256
      ∧ (feedingOut 2255 true).pe.position < 2256 ∧ (feedingOut 2255 true).pe.tops ≠ [])
    ∧ (∀ k, noticeOwed (feedingOut 2255 true) k = false)
    ∧ (feedTarget (feedingOut 2256 true) outLabel = some 2256 ∧ (2256 : Int) ≤ (feedingOut 2256 true).pe.position
      ∧ (feedingOut 2256 true).hi.verdictDue = true ∧ (feedingOut 2256 true).hi.verdict = none)
    ∧ ((feedingOut 2256 false).hi.verdictDue = false ∧ (feedingOut 2256 false).hi.verdict ≠ some true
      ∧ outLabel.copy = some copy1 ∧ copyOf (feedingOut 2256 false) copy1 = some (copyIn 1 .printing)
      ∧ (copyIn 1 .printing).marks.isEmpty = true) :=
  ⟨by decide +kernel, quiet rfl, by decide +kernel, by decide +kernel⟩

/-- A label at its target without a copy, with each mark, with a defect verdict at each count, and awaiting its closing
shift. -/
def marked (m : Marks) : State :=
  { feedingOut 2256 false with
    jq := { (withJob [.printing, .waiting] on).jq with
      jobs := (withJob [.printing, .waiting] on).jq.jobs.map fun j =>
        { j with copies := j.copies.map fun c => if c.number = 1 then { c with marks := m } else c } } }
def noCopyLabel : LabelContext := { outLabel with copy := none }

theorem test_witness_FeedOutPresentsLabel_waste :
    (∃ s : State, s = withPe (fun pe => { pe with label := some noCopyLabel }) (feedingOut 2256 false)
      ∧ s.pe.label = some noCopyLabel ∧ noCopyLabel.copy = none ∧ feedTarget s noCopyLabel = some 2256)
    ∧ (∀ m ∈ [({ late := true, defect := true } : Marks), { defect := true, withdrawn := true }, { withdrawn := true },
        { lost := true }],
      (marked m).pe.label = some outLabel ∧ feedTarget (marked m) outLabel = some 2256
        ∧ copyOf (marked m) copy1 = some { copyIn 1 .printing with marks := m } ∧ m.isEmpty = false
        ∧ (∃ j, jobOf (marked m) 1 = some j ∧ ∃ x ∈ j.copies, x.number ≠ 1 ∧ x.state.isTerminal = false)
        ∧ (marked m).pe.cal = none)
    ∧ (∀ n ∈ [0, 1, 2], ∃ s : State,
      s = withHi (fun hi => { hi with verdict := some true, defectCount := n }) (feedingOut 2256 true)
        ∧ s.hi.verdict = some true ∧ s.hi.defectCount = n ∧ (2256 : Int) ≤ s.pe.position)
    ∧ ∃ s : State, s = withHi (fun hi => { hi with closing := true })
        (withPe (fun pe => { pe with label := some { outLabel with arrived := true } }) (feedingOut 2256 true))
      ∧ s.hi.closing = true ∧ s.hi.owed = false ∧ s.hi.defect = false ∧ s.pe.engine = .feedingOut
      ∧ copyOf s copy1 = some (copyIn 1 .printing) := by
  refine ⟨⟨_, rfl, by decide +kernel⟩, ?_, ?_, ⟨_, rfl, by decide +kernel⟩⟩
  · intro m hm
    simp only [List.mem_cons, List.not_mem_nil, or_false] at hm
    rcases hm with rfl | rfl | rfl | rfl <;>
      exact ⟨by decide +kernel, by decide +kernel, by decide +kernel, by decide,
        ⟨_, rfl, copyIn 2 .waiting, by decide +kernel, by decide⟩, by decide +kernel⟩
  · intro n hn
    simp only [List.mem_cons, List.not_mem_nil, or_false] at hn
    rcases hn with rfl | rfl | rfl <;> exact ⟨_, rfl, rfl, rfl, by decide +kernel⟩

/-- The settle that ends before line 0 of a label whose band is READY begins the line. -/
theorem test_witness_NoLineBeginsWhilePaused :
    ∃ t l, exec .settleCompletion (withHi (fun hi => { hi with power := .settling }) (atLine 0 false true)) = .next t
      ∧ t.hi.line = some l ∧ l.shifted = 0 ∧ l.strobed = false
      ∧ (withHi (fun hi => { hi with power := .settling }) (atLine 0 false true)).hi.line ≠ some l :=
  ⟨_, newLineStrobe 0 0 0 defaultStrobe 416 625, rfl, by decide +kernel, rfl, rfl, by decide +kernel⟩

/-- HALTED between lines with the reason HOST alone. -/
def halted : State := engine .halted (paused (atLine 99 false true))

theorem test_witness_PauseReasonsFollowRecords :
    Takes .pause formNone () (say "PAUSE" on) ∧ Takes .go formNone () (say "GO" (engine .holding (paused on)))
    ∧ Takes .go formNone () (say "GO" (withPe (fun pe => { pe with pause := { pe.pause with panel := true } })
      (paused on)))
    ∧ (Takes .go formNone () (say "GO" halted) ∧ halted.pe.pause.host = true ∧ halted.pe.engine = .halted
      ∧ halted.pe.label = some (theLabel 99) ∧ (theLabel 99).phase = .print
      ∧ ({ halted.pe.pause with host := false } : PauseSet).isEmpty = true)
    ∧ on.powered = true ∧ on.ss.start ≠ .loading ∧ on.ss.start ≠ .startRdy ∧ on.pe.pause.panel = false
    ∧ ∃ s : State, s = withPe (fun pe => { pe with engine := .printing, pause := { panel := true } }) on
      ∧ s.pe.pause.panel = true ∧ s.pe.engine ≠ .idle ∧ s.pe.engine ≠ .halted :=
  ⟨takes (by decide +kernel), takes (by decide +kernel), takes (by decide +kernel),
    ⟨takes (by decide +kernel), by decide +kernel, by decide +kernel, by decide +kernel, by decide +kernel,
      by decide +kernel⟩, rfl, by decide, by decide, rfl, _, rfl, by decide, by decide, by decide⟩

/-! ## Witnesses: the line port -/

/-- The port ON. -/
def portIsOn : State → State := withLp fun lp => { lp with on := true }

theorem test_witness_PortTurnsOnAndOff :
    (Takes .line formLine true (say "LINE ON" on) ∧ on.lp.on = false)
    ∧ (Takes .line formLine true (say "LINE ON" (portIsOn on)) ∧ (portIsOn on).lp.on = true)
    ∧ (Takes .line formLine false (say "LINE OFF" (portIsOn (engine .printing on)))
      ∧ (portIsOn (engine .printing on)).lp.on = true ∧ (portIsOn (engine .printing on)).pe.engine ≠ .idle
      ∧ (portIsOn (engine .printing on)).pe.engine ≠ .halted)
    ∧ Takes .line formLine false (say "LINE OFF" on) :=
  ⟨⟨takes (by decide +kernel), by decide⟩, ⟨takes (by decide +kernel), by decide +kernel⟩,
    ⟨takes (by decide +kernel), by decide +kernel, by decide +kernel, by decide +kernel⟩, takes (by decide +kernel)⟩

/-- Each output high. -/
theorem test_witness_PortTurnsOnAndOff_outputs :
    readyOutput (portIsOn (withPe (fun pe => { pe with presented := some { copy := none, waste := false } }) on)) = true
      ∧ wasteOutput (portIsOn (withPe (fun pe => { pe with presented := some { copy := none, waste := true } }) on)) = true
      ∧ lineFaultOutput (portIsOn (setFault .late { active := true, latched := true, reported := true } on)) = true := by
  decide +kernel

theorem test_witness_InputEdgesAct :
    (on.powered = true ∧ on.lp.level .print = false ∧ on.lp.level .purge = false ∧ on.lp.on = false)
    ∧ ((portIsOn on).lp.on = true ∧ (portIsOn on).lp.window = none ∧ (portIsOn on).lp.hold = false)
    ∧ (∃ s : State, s = withLp (fun lp => { lp with window := some { kind := .purge, position := 0 } }) (portIsOn on)
      ∧ s.lp.on = true ∧ s.lp.window = some { kind := .purge, position := 0 } ∧ ParcelKind.purge ≠ .label)
    ∧ (∃ s : State, s = withLp (fun lp => { lp with hold := true }) (portIsOn (engine .printing on))
      ∧ s.lp.on = true ∧ s.lp.hold = true ∧ s.pe.engine ≠ .idle ∧ s.pe.engine ≠ .halted)
    ∧ on.lp.hold ≠ true :=
  ⟨by decide +kernel, by decide +kernel, ⟨_, rfl, by decide +kernel, by decide +kernel, by decide⟩,
    ⟨_, rfl, by decide +kernel, by decide +kernel, by decide, by decide⟩, by decide⟩

theorem test_witness_InputEdgesAct_falling :
    (withLp (fun lp => { lp with print := true, purge := true, taken := true }) on).lp.level .print = true
      ∧ (withLp (fun lp => { lp with print := true, purge := true, taken := true }) on).lp.level .purge = true
      ∧ (withLp (fun lp => { lp with print := true, purge := true, taken := true }) on).lp.level .taken = true
      ∧ on.lp.level .taken = false := by decide +kernel

/-- An entry in a state, its apply point at 1000 counts. -/
def parcel (st : ParcelState) (copy : Option CopyId) : Parcel :=
  { seq := 0, kind := .label, trigger := 0, apply := 1000, copy := copy, state := st }

/-- A waiting trigger at the conveyor position 0, before `parcels`. -/
def triggered (k : ParcelKind) (parcels : List Parcel) (s : State) : State :=
  withLp (fun lp => { lp with on := true, window := some { kind := k, position := 0 }, parcels := parcels })
    (engine .holding s)

theorem test_witness_TriggerMakesEntry :
    ((triggered .purge [] on).powered = true ∧ (triggered .purge [] on).lp.parcels.length < 8
      ∧ (triggered .purge [] on).pe.engine ≠ .idle
      ∧ conveyorReached (triggered .purge [] on).lp.conveyor
        (0 + BitVec.ofNat 32 (triggered .purge [] on).ss.settings.applyd) = false
      ∧ availableCopy (triggered .purge [] on) = none)
    ∧ ((triggered .label (List.replicate 7 (parcel .applying none)) (withJob [.waiting] on)).lp.parcels.length < 8
      ∧ (∀ x ∈ (triggered .label (List.replicate 7 (parcel .applying none)) (withJob [.waiting] on)).lp.parcels,
        x.state ≠ .open)
      ∧ availableCopy (triggered .label (List.replicate 7 (parcel .applying none)) (withJob [.waiting] on))
        = some (0, copy1))
    ∧ 8 ≤ (triggered .label (List.replicate 8 (parcel .forsaken none)) on).lp.parcels.length := by decide +kernel

/-- A PURGE trigger with a copy to withdraw. -/
theorem test_witness_TriggerMakesEntry_purge :
    (triggered .purge [] (withJob [.waiting] on)).lp.window = some { kind := .purge, position := 0 }
      ∧ (triggered .purge [] (withJob [.waiting] on)).lp.parcels.length < 8
      ∧ (triggered .purge [] (withJob [.waiting] on)).pe.engine ≠ .idle
      ∧ availableCopy (triggered .purge [] (withJob [.waiting] on)) = some (0, copy1) := by decide +kernel

/-- The conveyor one count before the entry's apply point. -/
def approaching (conveyor : BitVec 32) (e : Parcel) (copy : CopyState) : State :=
  withLp (fun lp => { lp with on := true, conveyor := conveyor, parcels := [e] })
    (engine .holding (withJob [copy, .waiting] on))

theorem test_witness_ApplyPointsHandled :
    ((approaching 998 (parcel .forsaken none) .waiting).lp.parcels.find? (·.awaitsApply) = some (parcel .forsaken none)
      ∧ conveyorReached (998 + 1) (parcel .forsaken none).apply = false)
    ∧ (on.lp.parcels.find? (·.awaitsApply) = none)
    ∧ ((parcel .bound (some copy1)).awaitsApply = true
      ∧ conveyorReached (999 + 1) (parcel .bound (some copy1)).apply = true
      ∧ copyOf (approaching 999 (parcel .bound (some copy1)) .presented) copy1 = some (copyIn 1 .presented)
      ∧ (approaching 999 (parcel .bound (some copy1)) .presented).pe.engine ≠ .idle)
    ∧ ((parcel .forsaken none).awaitsApply = true ∧ (parcel .forsaken none).state = .forsaken
      ∧ (approaching 999 (parcel .forsaken none) .waiting).lp.parcels = [] ++ parcel .forsaken none :: []) := by
  decide +kernel

/-- The apply point of an OPEN entry, and of one BOUND to a copy of each state before PRESENTED. -/
theorem test_witness_ApplyPointsHandled_missed :
    ((parcel .open none).awaitsApply = true ∧ (parcel .open none).state = .open)
    ∧ ∀ st ∈ [CopyState.waiting, .rendering, .rendered, .printing],
      copyOf (approaching 999 (parcel .bound (some copy1)) st) copy1 = some (copyIn 1 st)
        ∧ jobOf (approaching 999 (parcel .bound (some copy1)) st) 1 = some (jobOne [st, .waiting])
        ∧ (∃ x ∈ (jobOne [st, .waiting]).copies, x.number ≠ 1 ∧ x.state.isTerminal = false)
        ∧ (approaching 999 (parcel .bound (some copy1)) st).lp.conveyor = 999 := by decide +kernel

/-- APPLY and MISS pulses owed, with the outputs low or high. -/
def owing (n : Nat) (high : Bool) : State :=
  withLp (fun lp => { lp with apply := { owed := n, high := high }, miss := { owed := n, high := high } })
    (portIsOn on)

theorem test_witness_PulsesGiven :
    (owing 2 false).powered = true ∧ (owing 2 false).lp.on = true ∧ (owing 2 false).lp.apply.high = false
      ∧ 1 < (owing 2 false).lp.apply.owed ∧ (owing 1 false).lp.apply.owed = 1 ∧ (owing 1 false).lp.miss.high = false
      ∧ 0 < (owing 1 false).lp.miss.owed ∧ (owing 0 false).lp.apply.owed = 0 ∧ (owing 0 false).lp.miss.owed = 0
      ∧ (owing 1 true).lp.apply.high = true ∧ (owing 1 true).lp.miss.high = true := by decide +kernel

/-- A label presented at an engine that a pause reason holds back, and one that waits to be applied. -/
def presented (waste : Bool) (copy : Option CopyId) : State :=
  withPe (fun pe => { pe with engine := .holding, presented := some { copy := copy, waste := waste } }) (paused on)
def awaiting (timer : Bool) : State :=
  withLp (fun lp => { lp with
      parcels := [parcel .applying (some copy1)], applyWait := some { copy := copy1, timer := timer } })
    (withJob [.applying, .waiting] (portIsOn (presented false (some copy1))))

theorem test_witness_TakenRemovesLabel :
    (on.powered = true ∧ on.lp.taken = false ∧ on.lp.applyWait = none ∧ on.pe.presented = none)
    ∧ ((presented true none).pe.presented = some { copy := none, waste := true }
      ∧ (presented true none).pe.engine = .holding ∧ (presented true none).pe.pause.isEmpty = false
      ∧ (presented true none).ss.settings.media = (presented true none).pe.stock
      ∧ (presented true none).ss.settings.pitch = (presented true none).pe.contPitch
      ∧ (presented true none).lp.applyWait = none)
    ∧ ((awaiting true).lp.applyWait = some { copy := copy1, timer := true }
      ∧ jobOf (awaiting true) 1 = some (jobOne [.applying, .waiting])
      ∧ (∃ c ∈ (jobOne [.applying, .waiting]).copies, c.number ≠ 1 ∧ c.state.isTerminal = false)
      ∧ copyOf (awaiting true) copy1 = some (copyIn 1 .applying)
      ∧ (∀ e ∈ (awaiting true).lp.parcels, e.copy = some copy1 → e.state = .applying)
      ∧ (awaiting true).pe.cal = none ∧ (awaiting true).lp.taken = false ∧ (awaiting true).pe.engine = .holding
      ∧ (awaiting true).pe.pause.isEmpty = false ∧ (awaiting false).lp.applyWait = some { copy := copy1, timer := false })
    := by decide +kernel

/-- A good label without an apply wait. -/
def goodLabel : State :=
  withLp (fun lp => { lp with on := true, parcels := [parcel .bound (some copy1)] })
    (withJob [.presented, .waiting] (presented false (some copy1)))

theorem test_witness_TakenRemovesLabel_good :
    goodLabel.powered = true ∧ goodLabel.lp.taken = false ∧ goodLabel.lp.applyWait = none
      ∧ goodLabel.pe.presented = some { copy := some copy1, waste := false } ∧ goodLabel.pe.engine = .holding
      ∧ goodLabel.pe.pause.isEmpty = false ∧ goodLabel.ss.settings.media = goodLabel.pe.stock
      ∧ goodLabel.ss.settings.pitch = goodLabel.pe.contPitch
      ∧ jobOf goodLabel 1 = some (jobOne [.presented, .waiting]) ∧ copyOf goodLabel copy1 = some (copyIn 1 .presented)
      ∧ (∃ x ∈ (jobOne [.presented, .waiting]).copies, x.number ≠ 1 ∧ x.state.isTerminal = false)
      ∧ goodLabel.pe.cal = none := by decide +kernel

/-! ## Witnesses: faults, settings and start-up -/

/-- A kind latched, active or not. -/
def latched (k : FaultKind) (active : Bool) : State → State := setFault k { active := active, latched := true, reported := true }

theorem test_witness_StatAndClrClearFaults :
    (Takes .stat formNone () (say "STAT" (latched .headWarm false (latched .late true on)))
      ∧ FaultKind.late.group = .event ∧ (faultOf (latched .headWarm false on) .headWarm).active = false)
    ∧ ∃ s : State, s = say "CLR" (latched .mediaOut true (latched .headFault true (engine .printing on)))
      ∧ Takes .clr formNone () s ∧ s.pe.engine ≠ .idle ∧ s.pe.engine ≠ .halted
      ∧ (faultOf s .mediaOut).active = true ∧ SensorLevel.low ≠ s.pe.sense.gapLevel
      ∧ (faultOf s .headFault).latched = true :=
  ⟨⟨takes (by decide +kernel), rfl, by decide +kernel⟩, _, rfl, takes (by decide +kernel), by decide, by decide,
    by decide +kernel, by decide +kernel, by decide +kernel⟩

/-- A kind routed to the host that STAT clears, whose notice CLEAR is then owed. -/
theorem test_witness_StatAndClrClearFaults_notice :
    ∃ t, exec .stat (say "STAT" (latched .headWarm false on)) = .next t
      ∧ (routeOf (latched .headWarm false on) .headWarm).toHost = true
      ∧ t.fm[FaultKind.headWarm.index].latched ≠ (faultOf (latched .headWarm false on) .headWarm).reported
      ∧ Report.flt .headWarm false ∈ t.jl.reports :=
  ⟨_, rfl, by decide +kernel, by decide +kernel, by decide +kernel⟩

theorem test_witness_FaultsAndReasonsStayCoherent :
    ∃ t, flagsCoherent on ∧ stopsPause on ∧ exec (.sampleCompletion 81) on = .next t :=
  ⟨_, fun k => by cases k <;> decide, by unfold stopsPause; decide, rfl⟩

/-- One report in the queue, so that a rate switch waits for it. -/
def reporting : State := withJl (fun jl => { jl with reports := [.rdy true] }) (engine .printing on)

theorem test_witness_SetWritesSettings :
    (Takes .set formSet [.pitch 800] (say "SET PITCH=800" (engine .printing on))
      ∧ (SetItem.pitch 800).needsIdle = true ∧ (engine .printing on).pe.engine ≠ .idle)
    ∧ (Takes .set formSet [.applyd 1] (say "SET APPLYD=1" (portIsOn on)) ∧ (SetItem.applyd 1).needsPortOff = true
      ∧ (portIsOn on).lp.on = true)
    ∧ (Takes .set formSet [.speed 301] (say "SET SPEED=301" (engine .printing on))
      ∧ (∀ k, noticeOwed (say "SET SPEED=301" (engine .printing on)) k = false)
      ∧ (engine .printing on).ss.settings.rate = (engine .printing on).jl.rate)
    ∧ Takes .set formSet [.ha 50, .hb 20] (say "SET HA=50,HB=20" (engine .printing on))
    ∧ (Takes .set formSet [.rate 115199] (say "SET RATE=115199" reporting) ∧ reporting.jl.reports ≠ []
      ∧ rateFor 115199 ≠ reporting.jl.rate)
    ∧ (Takes .set formSet [.rate 0] (say "SET RATE=0" (engine .printing on))
      ∧ (engine .printing on).jl.reports = [] ∧ rateFor 0 ≠ (engine .printing on).jl.rate) :=
  ⟨⟨takes (by decide +kernel), rfl, by decide⟩, ⟨takes (by decide +kernel), rfl, by decide +kernel⟩,
    ⟨takes (by decide +kernel), quiet rfl, by decide +kernel⟩, takes (by decide +kernel),
    ⟨takes (by decide +kernel), by decide +kernel, by decide +kernel⟩,
    ⟨takes (by decide +kernel), by decide +kernel, by decide +kernel⟩⟩

/-- Each other key alone, with the engine IDLE and the port OFF. -/
theorem test_witness_SetWritesSettings_keys :
    (legalEnergy on.ss.settings.energy ∧ (∀ k, noticeOwed on k = false) ∧ on.ss.settings.rate = on.jl.rate
      ∧ on.pe.engine = .idle ∧ on.lp.on = false)
    ∧ Takes .set formSet [.dark (-17)] (say "SET DARK=-17" on)
    ∧ Takes .set formSet [.basew 2001] (say "SET BASEW=2001" on)
    ∧ Takes .set formSet [.split 207] (say "SET SPLIT=207" on)
    ∧ Takes .set formSet [.idle 10] (say "SET IDLE=10" on)
    ∧ Takes .set formSet [.media .cont] (say "SET MEDIA=CONT" on)
    ∧ Takes .set formSet [.pitch 8] (say "SET PITCH=8" (cont on))
    ∧ Takes .set formSet [.peel 241] (say "SET PEEL=241" on)
    ∧ Takes .set formSet [.start 0] (say "SET START=0" on)
    ∧ Takes .set formSet [.mode .trigger] (say "SET MODE=TRIGGER" on)
    ∧ Takes .set formSet [.applyd 0] (say "SET APPLYD=0" on)
    ∧ Takes .set formSet [.route .late .both] (say "SET ROUTE-LATE=BOTH" (latched .late true on)) :=
  ⟨⟨default_settings_legal.2.1, quiet rfl, rfl, rfl, rfl⟩, takes (by decide +kernel), takes (by decide +kernel),
    takes (by decide +kernel), takes (by decide +kernel), takes (by decide +kernel), takes (by decide +kernel),
    takes (by decide +kernel), takes (by decide +kernel), takes (by decide +kernel), takes (by decide +kernel),
    takes (by decide +kernel)⟩

/-- A write in progress, and an EEPROM that holds a good image. -/
def saving : State → State := withSs fun ss => { ss with writing := true, image := some (List.replicate 256 0) }
def saved : State → State :=
  withSs fun ss => { ss with eeprom := formImage defaultSettings (Vector.replicate 8 defaultCounter) }

theorem test_witness_SettingsSavedAndLoaded :
    (Takes .save formNone () (say "SAVE" on) ∧ on.ss.writing = false)
    ∧ (Takes .save formNone () (say "SAVE" (saving on)) ∧ (saving on).ss.writing = true)
    ∧ ((saving on).powered = true ∧ (saving on).ss.image = some (List.replicate 256 0)
      ∧ (saving on).ss.start ≠ .resetWait)
    ∧ (Takes .reset formNone () (say "RESET" (saving on)) ∧ (∀ k, noticeOwed (say "RESET" (saving on)) k = false)
      ∧ strobing (saving on) = false)
    ∧ (Takes .reset formNone () (say "RESET" (saved on))
      ∧ loadedImage (saved on).ss = some (defaultSettings, Vector.replicate 8 defaultCounter))
    ∧ (Takes .reset formNone () (say "RESET" on) ∧ loadedImage on.ss = none)
    ∧ (on.powered = true ∧ ({ on with powered := false } : State).powered = false)
    ∧ ((saved State.reset).powered = true ∧ (saved State.reset).ss.start = .loading
      ∧ (saved State.reset).jl.reports = [] ∧ (saved State.reset).jl.waiting = []
      ∧ (saved State.reset).jl.rateSwitch = none
      ∧ loadedImage (saved State.reset).ss = some (defaultSettings, Vector.replicate 8 defaultCounter))
    ∧ loadedImage State.reset.ss = none :=
  ⟨⟨takes (by decide +kernel), rfl⟩, ⟨takes (by decide +kernel), rfl⟩, by decide +kernel,
    ⟨takes (by decide +kernel), quiet rfl, by decide +kernel⟩, ⟨takes (by decide +kernel), by decide +kernel⟩,
    ⟨takes (by decide +kernel), by decide +kernel⟩, by decide +kernel, by decide +kernel, by decide +kernel⟩

/-- A reload that waits for a write of a good image with another rate, or of a bad one. -/
def reloading (image : List Byte) : State :=
  withSs (fun ss => { ss with start := .resetWait, writing := true, image := some image }) on
def otherRate : List Byte := formImage { defaultSettings with rate := 9600 } (Vector.replicate 8 defaultCounter)

/-- The same with 16 reports in the queue. -/
def queueFull : State := withJl (fun jl => { jl with reports := List.replicate 16 (.rdy true) }) (reloading otherRate)

theorem test_witness_SettingsSavedAndLoaded_reload :
    ((reloading otherRate).powered = true ∧ (reloading otherRate).ss.writing = true
      ∧ (reloading otherRate).ss.image = some otherRate ∧ (reloading otherRate).ss.start = .resetWait
      ∧ (reloading otherRate).jl.rateSwitch = none ∧ (reloading otherRate).jl.reports = []
      ∧ (reloading otherRate).jl.waiting = []
      ∧ judgeImage otherRate = some ({ defaultSettings with rate := 9600 }, Vector.replicate 8 defaultCounter)
      ∧ ({ defaultSettings with rate := 9600 } : Settings).rate ≠ (reloading otherRate).jl.rate)
    ∧ judgeImage (List.replicate 256 0) = none
    ∧ (queueFull.powered = true ∧ queueFull.ss.writing = true ∧ queueFull.ss.image = some otherRate
      ∧ queueFull.ss.start = .resetWait ∧ 16 ≤ queueFull.jl.reports.length ∧ queueFull.jl.waiting = [])
    ∧ ((cont on).ss.settings.media = (cont on).pe.stock ∧ (cont on).pe.engine = .idle
      ∧ (withPe (fun pe => { pe with stock := .gap }) (cont on)).ss.settings.media ≠ .gap
      ∧ (withPe (fun pe => { pe with contPitch := 8 }) (cont on)).ss.settings.pitch ≠ 8) := by decide +kernel

/-- RESET with a label at its target awaiting its verdict presents it as waste (R86, R141, R162; log entry 40). -/
theorem test_witness_SettingsSavedAndLoaded_arrived :
    ∃ s l, s = say "RESET" (withPe (fun pe => { pe with label := some { outLabel with arrived := true } })
        (feedingOut 2256 true))
      ∧ Takes .reset formNone () s ∧ (∀ k, noticeOwed s k = false) ∧ s.pe.engine = .feedingOut ∧ s.pe.label = some l
      ∧ l.arrived = true
      ∧ ∃ t, exec .reset s = .next t ∧ t.pe.engine = .holding ∧ t.pe.label = none
        ∧ t.pe.presented = some { copy := none, waste := true } :=
  ⟨_, _, rfl, takes (by decide +kernel), quiet rfl, by decide +kernel, rfl, by decide, _, rfl, by decide +kernel,
    by decide +kernel, by decide +kernel⟩

/-- FEED while RDY waits feeds a label under the calibration that stands, though MEDIA was reloaded (R204); once RDY has
entered the queue it begins a calibration. -/
theorem test_feed_key_in_soft_reset :
    let moved (start : StartPhase) : State :=
      withSs (fun ss => { ss with start := start, settings := { ss.settings with media := .mark } }) resting
    (∃ t, exec (.feedKey .low) (moved .resetRdy) = .next t ∧ t.pe.engine = .feedingOut ∧ t.pe.feedMove = some 1000
      ∧ t.pe.calibrated = true)
    ∧ ∃ t, exec (.feedKey .low) (moved .running) = .next t ∧ t.pe.engine = .calibrating ∧ t.pe.stock = .mark :=
  ⟨⟨_, rfl, by decide +kernel⟩, ⟨_, rfl, by decide +kernel⟩⟩

theorem test_witness_StoredImageReadsBack :
    legalSettings defaultSettings ∧ legalCounters State.reset.cb := ⟨default_settings_legal, reset_counters_legal⟩

/-! ## Witnesses: further forms -/

/-- A copy whose one field has no bar code for its text, and a counter field before it. -/
def unfitBar : Field :=
  { x := 0, y := 0, rot := .r0, mode := .set,
    body := .bar .i25 (.literal (Sys2Proof.txt "1A")) 2 4 50 2 false none }
def unfitCopy : State :=
  withFormat [ctrField, unfitBar] (engine .holding (withJob [.waiting, .waiting] on))

theorem test_witness_BeginCopyValidates_unfit :
    (nextFreeBand unfitCopy = some 0 ∧ nextRenderCopy unfitCopy = some copy1
      ∧ jobOf unfitCopy copy1.tag = some (jobOne [.waiting, .waiting])
      ∧ pinnedFormat unfitCopy (jobOne [.waiting, .waiting]).format
        = some { length := 100, width := 832, fields := [ctrField, unfitBar] }
      ∧ unfitCopy.pe.engine ≠ .idle ∧ (unfitCopy.jq.jobs.map (·.tag)).Nodup)
    ∧ (∃ read cb, serveCounters [ctrField, unfitBar] unfitCopy.cb = some (read, cb)
      ∧ layCopy unfitCopy (jobOne [.waiting, .waiting]) copy1
        { length := 100, width := 832, fields := [ctrField, unfitBar] } read = none)
    ∧ (∃ x ∈ (jobOne [.waiting, .waiting]).copies, x.number ≠ copy1.number ∧ x.state.isTerminal = false) :=
  ⟨by decide +kernel, ⟨_, _, rfl, by decide +kernel⟩, copyIn 2 .waiting, by decide +kernel⟩

/-- A BAR field of six digits, 68 dots wide, with its human-readable line or without. -/
def sixDigits (x height : Nat) (hr : Option Text) : Field :=
  { x := x, y := 0, rot := .r0, mode := .set,
    body := .bar .c128 (.literal (Sys2Proof.txt "123456")) 1 2 height 2 false hr }
def withRf32 : Job :=
  { jobOne [.waiting] with objects := [({ name := Sys2Proof.txt "RF32", kind := .font }, .rom .rf32)] }

/-- It is laid out where it ends with the label's last column and line, and not one dot further, nor under a line of
six characters of RF32. -/
theorem test_witness_BeginCopyValidates_layout :
    (layField on withRf32 [] 100 832 (sixDigits 764 100 none)).isSome = true
      ∧ layField on withRf32 [] 100 832 (sixDigits 765 100 none) = none
      ∧ layField on withRf32 [] 100 832 (sixDigits 764 101 none) = none
      ∧ layField on withRf32 [] 100 832 (sixDigits 0 50 (some (Sys2Proof.txt "RF32"))) = none := by decide +kernel

/-- A fill completion that finds the engine HALTED: STARVED on the copy that is filled, paused, and with a label of another
copy. -/
def starved (copy : Option CopyId) : State :=
  withPe (fun pe => { pe with engine := .halted, label := some { theLabel 64 with copy := copy, band := none } }) filling

theorem test_witness_BandsFilledInOrder_halted :
    ((starved (some copy1)).re.context = some (context (some 15)) ∧ (bandOf (starved (some copy1)) 15).used = some 64
      ∧ (starved (some copy1)).pe.engine = .halted ∧ (starved (some copy1)).pe.pause.isEmpty = true
      ∧ (starved (some copy1)).pe.label = some { theLabel 64 with band := none }
      ∧ (theLabel 64).copy = some (context (some 15)).copy ∧ (theLabel 64).phase = .print)
    ∧ (paused (starved (some copy1))).pe.pause.isEmpty = false
    ∧ (some { tag := 2, number := 1 } : Option CopyId) ≠ some (context (some 15)).copy := by decide +kernel

/-- An opening run that ends the text, an odd one before other characters, a run too short for set C, a later run in set C
of even and of odd length and one in set B, and I25 texts with and without the leading 0. -/
theorem test_witness_BarCodeWidths_runs :
    (∀ t ∈ ["123456", "12345X", "123X", "X123456Y", "X1234567", "X1234Y"], fitText .c128 (Sys2Proof.txt t) = true)
    ∧ Sys2Proof.txt "12345X" = Sys2Proof.txt "12345" ++ Sys2Proof.txt "X"
    ∧ (Sys2Proof.txt "12345").all isDigit = true ∧ 4 ≤ (Sys2Proof.txt "12345").length
    ∧ (∀ ch ∈ (Sys2Proof.txt "X").head?, isDigit ch = false)
    ∧ Sys2Proof.txt "X123456Y" = [] ++ [88] ++ Sys2Proof.txt "123456" ++ Sys2Proof.txt "Y"
    ∧ isDigit 88 = false ∧ (∀ ch ∈ (Sys2Proof.txt "Y").head?, isDigit ch = false)
    ∧ Sys2Proof.txt "X1234567" = [] ++ [88] ++ Sys2Proof.txt "1234567" ++ []
    ∧ (∀ t ∈ ["1", "12", "123"], fitText .i25 (Sys2Proof.txt t) = true) := by decide +kernel

/-- A shift's mismatch of a label without a copy, the last strobe of a stopped label with no verdict due, and a strobe
that stops one. -/
theorem test_witness_ReadbackAndHistory_stopped :
    (∃ s : State, s = withHi (fun hi => { hi with owed := true })
        (withPe (fun pe => { pe with label := some { theLabel 0 with copy := none } }) (printing 0 0 false))
      ∧ s.hi.owed = true ∧ (1 : Dots) ≠ s.hi.lastMask ∧ s.hi.defect = false
      ∧ s.pe.label = some { theLabel 0 with copy := none })
    ∧ (∃ s : State, s = withJq (fun jq => { jq with jobs := jq.jobs.map fun j =>
          { j with copies := j.copies.map fun c => { c with marks := { withdrawn := true } } } }) (printing 50 3 false)
      ∧ s.hi.line = some (theLine 3 false) ∧ s.pe.label = some (theLabel 50) ∧ labelStopped s (theLabel 50) = true
      ∧ s.hi.verdictDue = true ∧ s.hi.verdict = none)
    ∧ ∃ s : State, s = withHi (fun hi => { hi with verdictDue := false }) (printing 99 3 false)
      ∧ s.hi.line = some (theLine 3 false) ∧ (theLabel 99).y + 1 = (theLabel 99).lines ∧ s.hi.verdictDue = false :=
  ⟨⟨_, rfl, by decide +kernel⟩, ⟨_, rfl, by decide +kernel⟩, ⟨_, rfl, by decide +kernel⟩⟩

/-- A closing shift that mismatches, with a copy and without, of a label under way and of one at its target. -/
def closing (label : LabelContext) (owed : Bool) : State :=
  withHi (fun hi => { hi with line := none, closing := true, owed := owed })
    (withPe (fun pe => { pe with engine := .feedingOut, label := some label })
      { feedingOut 2256 true with jq := (withJob [.printing, .waiting] on).jq })

theorem test_witness_ReadbackAndHistory_closing :
    (∀ l ∈ [outLabel, noCopyLabel, { outLabel with arrived := true }, { noCopyLabel with arrived := true }],
      (closing l true).powered = true ∧ (closing l true).hi.closing = true ∧ (closing l true).hi.owed = true
        ∧ (1 : Dots) ≠ (closing l true).hi.lastMask ∧ (closing l true).hi.defect = false
        ∧ (closing l true).pe.label = some l)
    ∧ outLabel.copy = some copy1 ∧ noCopyLabel.copy = none := by decide +kernel

/-- A label that is stopped while HALTED, paused or not. -/
theorem test_witness_ReadbackAndHistory_halted :
    (∀ s ∈ [halted, engine .halted (atLine 99 false true)],
      s.pe.engine = .halted ∧ s.pe.label = some (theLabel 99) ∧ (theLabel 99).phase = .print ∧ s.hi.line = none
        ∧ s.hi.verdictDue = true ∧ s.hi.verdict = none ∧ (theLabel 99).copy = some copy1
        ∧ copyOf s copy1 = some (copyIn 1 .printing) ∧ (copyIn 1 .printing).marks.withdrawn = false)
    ∧ halted.pe.pause.isEmpty = false ∧ (engine .halted (atLine 99 false true)).pe.pause.isEmpty = true
    ∧ Takes .abort formNone () (say "ABORT" halted)
    ∧ Takes .abort formNone () (say "ABORT" (engine .halted (atLine 99 false true))) :=
  ⟨by decide +kernel, by decide +kernel, by decide +kernel, takes (by decide +kernel), takes (by decide +kernel)⟩

/-- A step of a FEED move, and the step at which its guard trips, N being 1000. -/
theorem test_witness_FeedKeyMovesMedia_steps :
    ((feeding 1500).powered = true ∧ (feeding 1500).pe.engine = .feedingOut ∧ (feeding 1500).pe.label = none
      ∧ (feeding 1500).pe.feedMove = some 1000 ∧ (feeding 1500).pe.stock ≠ .cont
      ∧ (feeding 1500).pe.tops.head? = some 2216 ∧ (feeding 1500).pe.position < 2216)
    ∧ (∀ k, noticeOwed (feeding 1500) k = false)
    ∧ Stepped .low (feeding 1500).pe { (feeding 1500).pe with position := 1501, furthest := 1501, sensor := .low }
    ∧ ∃ s : State, s = withPe (fun pe => { pe with tops := [], furthest := 2823 }) (feeding 2823)
      ∧ Stepped .low s.pe { s.pe with position := 2824, furthest := 2824, sensor := .low }
      ∧ s.pe.calibrated = true ∧ s.pe.tops = [] ∧ (1000 : Int) + (3 * s.pe.pitch / 2 : Nat) ≤ s.pe.position + 1 :=
  ⟨by decide +kernel, quiet rfl, by unfold Stepped; rw [if_neg (by decide +kernel)]; rfl, _, rfl,
    by unfold Stepped; rw [if_neg (by decide +kernel)]; rfl, by decide +kernel⟩

/-- A feed-out whose target a capture makes known, one whose guard trips, and one whose capture is the seventh violation.
-/
def topless (position : Int) (gapStart capture : Option Int) (violations : Nat) : State :=
  withPe (fun pe => { pe with
      tops := [], furthest := position, sensor := .high, lastGapStart := gapStart, lastCapture := capture,
      violations := violations })
    (feedingOut position true)

theorem test_witness_FeedOutPresentsLabel_steps :
    (feedTarget (topless 2119 none none 0) outLabel = none ∧ (topless 2119 none none 0).pe.engine = .feedingOut
      ∧ (topless 2119 none none 0).pe.label = some outLabel)
    ∧ (∀ k, noticeOwed (topless 2119 none none 0) k = false)
    ∧ Stepped .low (topless 2119 none none 0).pe { (topless 2119 none none 0).pe with
        position := 2120, furthest := 2120, sensor := .low, lastCapture := some 2120, tops := [2216] }
    ∧ (Stepped .high (topless 2823 none none 0).pe { (topless 2823 none none 0).pe with
        position := 2824, furthest := 2824 }
      ∧ outLabel.top + (3 * outLabel.pitch / 2 : Nat) ≤ (topless 2823 none none 0).pe.position + 1
      ∧ (topless 2823 none none 0).pe.calibrated = true ∧ (topless 2823 none none 0).pe.stock ≠ .cont
      ∧ copyOf (topless 2823 none none 0) copy1 = some (copyIn 1 .printing))
    ∧ (∃ s : State, s = topless 2119 (some 1200) (some 1120) 6 ∧ s.pe.furthest < s.pe.position + 1
      ∧ SensorLevel.low ≠ s.pe.sensor ∧ SensorLevel.low ≠ s.pe.sense.gapLevel ∧ s.pe.lastGapStart = some 1200
      ∧ s.pe.lastCapture = some 1120 ∧ (1200 : Int) - 1120 ≤ s.pe.position + 1 - 1200 ∧ 6 ≤ s.pe.violations
      ∧ s.pe.position + 1 < outLabel.top + (3 * outLabel.pitch / 2 : Nat)) := by
  refine ⟨by decide +kernel, quiet rfl, ?_, ⟨?_, by decide +kernel⟩, _, rfl, by decide +kernel⟩
  · unfold Stepped
    rw [if_pos (by decide +kernel), if_neg (by decide +kernel)]
    exact ⟨0, rfl, .inr (.inr ⟨fun _ _ h => (nomatch h), rfl⟩)⟩
  · unfold Stepped
    rw [if_neg (by decide +kernel)]
    rfl

/-- A defect verdict at the target, of a copy with marks, of one without and of no copy, and a mismatch in the closing
shift of a label that awaits it. -/
theorem test_witness_FeedOutPresentsLabel_defect :
    (∀ m ∈ [({ defect := true } : Marks), {}], ∃ s : State,
      s = withHi (fun hi => { hi with verdictDue := true, verdict := some true }) (marked m)
        ∧ s.hi.verdict = some true ∧ feedTarget s outLabel = some 2256 ∧ s.pe.cal = none
        ∧ copyOf s copy1 = some { copyIn 1 .printing with marks := m }
        ∧ ∃ j, jobOf s copy1.tag = some j ∧ ∃ x ∈ j.copies, x.number ≠ copy1.number ∧ x.state.isTerminal = false)
    ∧ (∃ s : State, s = closing { outLabel with arrived := true } true ∧ s.pe.engine = .feedingOut
      ∧ s.hi.owed = true ∧ (1 : Dots) ≠ s.hi.lastMask ∧ s.hi.defect = false ∧ s.pe.cal = none
      ∧ copyOf s copy1 = some (copyIn 1 .printing)
      ∧ ∃ j, jobOf s copy1.tag = some j ∧ ∃ x ∈ j.copies, x.number ≠ copy1.number ∧ x.state.isTerminal = false) := by
  refine ⟨?_, _, rfl, by decide +kernel, by decide +kernel, by decide +kernel, by decide +kernel, by decide +kernel,
    by decide +kernel, _, rfl, copyIn 2 .waiting, by decide +kernel, by decide⟩
  intro m hm
  simp only [List.mem_cons, List.not_mem_nil, or_false] at hm
  rcases hm with rfl | rfl <;>
    exact ⟨_, rfl, by decide +kernel, by decide +kernel, by decide +kernel, by decide +kernel, _, rfl,
      copyIn 2 .waiting, by decide +kernel, by decide⟩

/-- A feed-out that the guard halted resumes by GO or by the PAUSE key, and the key on a label halted between lines. -/
def haltedOut (pause : PauseSet) : State :=
  withPe (fun pe => { pe with engine := .halted, calibrated := false, tops := [], pause := pause }) (feedingOut 2824 true)

theorem test_witness_PauseReasonsFollowRecords_resumes :
    (Takes .go formNone () (say "GO" (haltedOut { host := true })) ∧ (haltedOut { host := true }).pe.engine = .halted
      ∧ (haltedOut { host := true }).pe.label = some outLabel ∧ outLabel.phase = .feedOut
      ∧ ({ (haltedOut { host := true }).pe.pause with host := false } : PauseSet).isEmpty = true)
    ∧ ((haltedOut { panel := true }).powered = true ∧ (haltedOut { panel := true }).ss.start = .running
      ∧ (haltedOut { panel := true }).pe.engine = .halted ∧ (haltedOut { panel := true }).pe.pause.panel = true
      ∧ ({ (haltedOut { panel := true }).pe.pause with panel := false } : PauseSet).isEmpty = true
      ∧ ({ (haltedOut { panel := true, host := true }).pe.pause with panel := false } : PauseSet).isEmpty = false)
    ∧ ∃ s : State, s = withPe (fun pe => { pe with pause := { panel := true } }) halted ∧ s.pe.engine = .halted
      ∧ s.ss.start = .running ∧ s.pe.label = some (theLabel 99) ∧ (theLabel 99).phase = .print :=
  ⟨⟨takes (by decide +kernel), by decide +kernel⟩, by decide +kernel, _, rfl, by decide +kernel⟩

end Sys2Proof.Tests
end

section
/-!
Rotation (R43): the map of a frame onto the label, its inverse `framePosition`, and the dot set between them.
-/
namespace Sys2Proof.Machine

/-- The label dot on which the frame dot (u, v) lands: the table of R43, read forwards. -/
def LaidField.landing (f : LaidField) (u v : Nat) : Nat × Nat :=
  match f.rot with
  | .r0 => (f.x + u, f.y + v)
  | .r90 => (f.x + f.frameV - 1 - v, f.y + u)
  | .r180 => (f.x + f.frameU - 1 - u, f.y + f.frameV - 1 - v)
  | .r270 => (f.x + v, f.y + f.frameU - 1 - u)

/-- The label dot (x, y) lies in the field's occupied rectangle (R43). -/
def LaidField.Occupies (f : LaidField) (x y : Nat) : Prop :=
  f.x ≤ x ∧ x < f.x + (occupied f.rot f.frameU f.frameV).1 ∧ f.y ≤ y ∧ y < f.y + (occupied f.rot f.frameU f.frameV).2

/-- The frame dot that lands on the label dot (x, y) of the occupied rectangle. -/
def LaidField.frameDot (f : LaidField) (x y : Nat) : Nat × Nat := framePosition f (x - f.x) (y - f.y)

theorem inDotSet_eq_true_iff {s : State} {f : LaidField} {x y : Nat} :
    inDotSet s f x y = true ↔ f.Occupies x y ∧ frameMarks s f (f.frameDot x y).1 (f.frameDot x y).2 = true := by
  simp [inDotSet, LaidField.Occupies, LaidField.frameDot]

namespace LaidField

variable {f : LaidField} {u v x y : Nat}

/-- The occupied rectangle is the frame's, upright or upside down, and the exchanged one under a quarter turn. -/
theorem occupies_iff :
    f.Occupies x y ↔ f.x ≤ x ∧ f.y ≤ y
      ∧ (f.rot = .r0 ∨ f.rot = .r180 → x < f.x + f.frameU ∧ y < f.y + f.frameV)
      ∧ (f.rot = .r90 ∨ f.rot = .r270 → x < f.x + f.frameV ∧ y < f.y + f.frameU) := by
  cases hrot : f.rot <;> simp [Occupies, occupied, hrot] <;> omega

theorem occupies_landing (hu : u < f.frameU) (hv : v < f.frameV) :
    f.Occupies (f.landing u v).1 (f.landing u v).2 := by
  cases hrot : f.rot <;> simp only [Occupies, occupied, landing, hrot] <;> omega

theorem frameDot_landing (hu : u < f.frameU) (hv : v < f.frameV) :
    f.frameDot (f.landing u v).1 (f.landing u v).2 = (u, v) := by
  cases hrot : f.rot <;> simp only [frameDot, framePosition, landing, hrot, Prod.mk.injEq] <;> omega

theorem frameDot_lt (h : f.Occupies x y) : (f.frameDot x y).1 < f.frameU ∧ (f.frameDot x y).2 < f.frameV := by
  cases hrot : f.rot <;> simp only [Occupies, occupied, frameDot, framePosition, hrot] at h ⊢ <;> omega

theorem landing_frameDot (h : f.Occupies x y) : f.landing (f.frameDot x y).1 (f.frameDot x y).2 = (x, y) := by
  cases hrot : f.rot <;>
    simp only [Occupies, occupied, frameDot, framePosition, landing, hrot, Prod.mk.injEq] at h ⊢ <;> omega

end LaidField

/-- The dot set is the image of the marked frame dots under the table. -/
theorem inDotSet_landing {s : State} {f : LaidField} {u v : Nat} (hu : u < f.frameU) (hv : v < f.frameV) :
    inDotSet s f (f.landing u v).1 (f.landing u v).2 = frameMarks s f u v := by
  rw [Bool.eq_iff_iff, inDotSet_eq_true_iff, LaidField.frameDot_landing hu hv]
  exact and_iff_right (LaidField.occupies_landing hu hv)

theorem exists_landing_of_inDotSet {s : State} {f : LaidField} {x y : Nat} (h : inDotSet s f x y = true) :
    ∃ u v, u < f.frameU ∧ v < f.frameV ∧ frameMarks s f u v = true ∧ f.landing u v = (x, y) := by
  obtain ⟨hocc, hmark⟩ := inDotSet_eq_true_iff.mp h
  obtain ⟨hu, hv⟩ := LaidField.frameDot_lt hocc
  exact ⟨_, _, hu, hv, hmark, LaidField.landing_frameDot hocc⟩

theorem inDotSet_of_empty_frame {s : State} {f : LaidField} (hempty : f.frameU = 0 ∨ f.frameV = 0) (x y : Nat) :
    inDotSet s f x y = false := by
  rw [Bool.eq_false_iff]
  intro h
  obtain ⟨u, v, hu, hv, -, -⟩ := exists_landing_of_inDotSet h
  omega

/-- Settles O36: `frameDot` and `landing` are inverse between the frame and the occupied rectangle. -/
theorem rotationPlacesDots : Obligations.RotationPlacesDots := fun _ _ =>
  ⟨fun _ _ => inDotSet_landing, fun _ _ => exists_landing_of_inDotSet,
    fun _ _ h => LaidField.occupies_iff.mp (inDotSet_eq_true_iff.mp h).1, inDotSet_of_empty_frame⟩

end Sys2Proof.Machine
end

section
/-!
Serial counters (R59, R61): the rows of a WRAP step, where its value ends up, and the cascade of a wrap.
-/
namespace Sys2Proof.Machine

/-- A WRAP counter whose value lies within its limits and whose step is no longer than their range (R56, R58). -/
structure Counter.WrapReady (c : Counter) : Prop where
  mode : c.mode = .wrap
  low_le : c.low ≤ c.value
  le_high : c.value ≤ c.high
  step_le : c.step.natAbs ≤ c.high - c.low + 1

/-- A WRAP step writes the value alone, whatever the counter holds. -/
theorem stepCounter_wrap_frame {c : Counter} (hmode : c.mode = .wrap) :
    (stepCounter c).1 = { c with value := (stepCounter c).1.value } := by
  simp only [stepCounter, hmode]
  split
  · rfl
  · split <;> rfl

/-- One link of a cascade (R61): the counter steps, and its wrap hands on to the target, if it has one. -/
theorem stepCascade_succ {fuel i : Nat} {cb : Vector Counter 8} {c : Counter} (h : cb[i]? = some c) :
    stepCascade (fuel + 1) i cb = match (stepCounter c).2, c.cascade with
      | true, some j => stepCascade fuel j (cb.setIfInBounds i (stepCounter c).1)
      | _, _ => cb.setIfInBounds i (stepCounter c).1 := by
  simp only [stepCascade, h] <;> rfl

namespace Counter.WrapReady

variable {c : Counter}

/-- The first row of R59's table. -/
theorem step_above (hc : c.WrapReady) (habove : (c.value : Int) + c.step > c.high) :
    ((stepCounter c).1.value : Int) = c.low + (c.value + c.step - c.high - 1) ∧ (stepCounter c).2 = true := by
  simp only [stepCounter, hc.mode, if_pos habove, and_true]
  omega

/-- The second row of R59's table; as the step is no longer than the range, the model's `toNat` cuts nothing off. -/
theorem step_below (hc : c.WrapReady) (hbelow : (c.value : Int) + c.step < c.low) :
    ((stepCounter c).1.value : Int) = c.high - (c.low - (c.value + c.step) - 1) ∧ (stepCounter c).2 = true := by
  obtain ⟨hmode, hlow, hhigh, hstep⟩ := hc
  have hnot : ¬ (c.value : Int) + c.step > c.high := by omega
  simp only [stepCounter, hmode, if_neg hnot, if_pos hbelow, and_true]
  omega

/-- The last row of R59's table. -/
theorem step_within (hc : c.WrapReady) (hlow : c.low ≤ (c.value : Int) + c.step)
    (hhigh : (c.value : Int) + c.step ≤ c.high) :
    ((stepCounter c).1.value : Int) = c.value + c.step ∧ (stepCounter c).2 = false := by
  simp only [stepCounter, hc.mode, if_neg hhigh.not_gt, if_neg hlow.not_gt, and_true]
  omega

theorem step_mem_limits (hc : c.WrapReady) :
    c.low ≤ (stepCounter c).1.value ∧ (stepCounter c).1.value ≤ c.high := by
  have ⟨_, hlow, hhigh, hstep⟩ := hc
  by_cases habove : (c.value : Int) + c.step > c.high
  · have ⟨hvalue, _⟩ := hc.step_above habove
    omega
  by_cases hbelow : (c.value : Int) + c.step < c.low
  · have ⟨hvalue, _⟩ := hc.step_below hbelow
    omega
  · have ⟨hvalue, _⟩ := hc.step_within (not_lt.mp hbelow) (not_lt.mp habove)
    omega

/-- A full-range step leaves the limits whichever way it goes, and the wrap brings it back to where it began. -/
theorem step_full_range (hc : c.WrapReady) (hfull : c.step.natAbs = c.high - c.low + 1) :
    (stepCounter c).1.value = c.value ∧ (stepCounter c).2 = true := by
  have ⟨_, hlow, hhigh, _⟩ := hc
  obtain hup | hdown := Int.natAbs_eq c.step
  · have ⟨hvalue, hwrap⟩ := hc.step_above (by omega)
    exact ⟨by omega, hwrap⟩
  · have ⟨hvalue, hwrap⟩ := hc.step_below (by omega)
    exact ⟨by omega, hwrap⟩

end Counter.WrapReady

/-- Settles O26: each row of the table, and what the rows together say of the limits and of a full-range step. -/
theorem wrapStepFollowsTable : Obligations.WrapStepFollowsTable := by
  intro c hmode hlow hhigh _ hstep
  have hc : c.WrapReady := ⟨hmode, hlow, hhigh, hstep⟩
  have ⟨hge, hle⟩ := hc.step_mem_limits
  exact ⟨hc.step_above, hc.step_below, hc.step_within, hge, hle, stepCounter_wrap_frame hmode, hc.step_full_range,
    fun _ _ _ => stepCascade_succ⟩

end Sys2Proof.Machine
end

section
/-!
Strobe widths (R128, R132) and their phases (R133): how the width lies in its clamp, and how the phases share it.
-/
namespace Sys2Proof.Machine

theorem clampNat_cast (lo hi : Nat) (x : Int) : (clampNat lo hi x : Int) = max (lo : Int) (min hi x) := by
  simp only [clampNat, clampInt]
  omega

/-- Tc is at most 80, whether the sensor is valid or not. -/
theorem tempC_le (u : StrobeUnit) : tempC u ≤ 80 := by
  simp only [tempC, clampInt]
  split <;> omega

section Width

variable {e : Energy} {tc : Int}

/-- The width of R132 before its clamp. -/
def unclampedWidth (e : Energy) (tc : Int) : Int := e.basew * (32 + e.dark) * (153 - tc) / 4096

theorem strobeWidth_cast (e : Energy) (tc : Int) :
    (strobeWidth e tc : Int) = max 50 (min 2000 (unclampedWidth e tc)) :=
  clampNat_cast 50 2000 _

/-- Each factor of the product is least where the head is hottest and the energy lowest: 200 × 16 × 73 / 4096 is 57. -/
theorem le_unclampedWidth (hbase : 200 ≤ e.basew) (hdark : -16 ≤ e.dark) (hhot : tc ≤ 80) :
    57 ≤ unclampedWidth e tc := by
  have hbase' : (200 : Int) ≤ e.basew := by exact_mod_cast hbase
  have hdark' : 16 ≤ 32 + e.dark := by omega
  have hhot' : 73 ≤ 153 - tc := by omega
  have hproduct : 200 * 16 * 73 ≤ e.basew * (32 + e.dark) * (153 - tc) := by gcongr
  simp only [unclampedWidth]
  omega

/-- The lower limit of the clamp is never reached over the ranges of R125. -/
theorem strobeWidth_bounds (he : legalEnergy e) (hhot : tc ≤ 80) :
    57 ≤ strobeWidth e tc ∧ strobeWidth e tc ≤ 2000 := by
  obtain ⟨-, -, -, hdark, -, hbase, -⟩ := he
  have hleast := le_unclampedWidth hbase hdark hhot
  have hwidth := strobeWidth_cast e tc
  omega

end Width

section Phases

variable {e : Energy}

/-- R125 keeps HB at most 60 − HA, so C has at least four 64ths of the width. -/
theorem legalEnergy.shares_le (he : legalEnergy e) : e.ha + e.hb ≤ 60 := by
  obtain ⟨-, -, -, -, -, -, -, -, hha, -, hhb, -⟩ := he
  omega

/-- The floors of A and B take no more than their 64ths, so C has what is left of the 64, and what the floors drop. -/
theorem strobePhases_share (hshare : e.ha + e.hb ≤ 60) (w : Nat) :
    let p := strobePhases e w
    p.a + p.b + p.c = w ∧ w * 4 ≤ p.c * 64 := by
  have hparts : w * e.ha + w * e.hb ≤ w * 60 := by
    rw [← mul_add]
    exact Nat.mul_le_mul_left w hshare
  simp only [strobePhases]
  omega

/-- A width and a split at which C is its least (R133). -/
theorem strobePhases_least (hha : e.ha = 24) (hhb : e.hb = 36) :
    strobePhases e 57 = { w := 57, a := 21, b := 32, c := 4 } := by
  simp [strobePhases, hha, hhb]

end Phases

/-- Settles O38: the width lies in 57 to 2000, C has four 64ths of it, and four 64ths of 57 are more than 3. -/
theorem phasesShareWidth : Obligations.PhasesShareWidth := by
  intro e u he p
  obtain ⟨hleast, hmost⟩ : 57 ≤ p.w ∧ p.w ≤ 2000 := strobeWidth_bounds he (tempC_le u)
  obtain ⟨hsum, hshare⟩ : p.a + p.b + p.c = p.w ∧ p.w * 4 ≤ p.c * 64 := strobePhases_share he.shares_le p.w
  have hc : 4 ≤ p.c := by omega
  exact ⟨strobeWidth_cast e (tempC u), rfl, rfl, rfl, hsum, hshare, hc, hleast, hmost, strobePhases_least rfl rfl⟩

end Sys2Proof.Machine
end

section
/-!
What no operation over the object store spoils: the block store's canonical form (R19) and the one LIVE entry of a
name (R24).
-/
namespace Sys2Proof.Machine

/-- The properties of the store that every command keeps. -/
structure StoreKept (os os' : ObjectStore) : Prop where
  blocks : Memory.wf os.blocks = true → Memory.wf os'.blocks = true
  names : liveNamesOnce os → liveNamesOnce os'

theorem StoreKept.refl (os : ObjectStore) : StoreKept os os := ⟨id, id⟩

theorem StoreKept.trans {a b c : ObjectStore} (h : StoreKept a b) (h' : StoreKept b c) : StoreKept a c :=
  ⟨h'.blocks ∘ h.blocks, h'.names ∘ h.names⟩

/-- A fold keeps what each of its steps keeps. -/
theorem StoreKept.foldl {α : Type} {f : ObjectStore → α → ObjectStore} (hf : ∀ os a, StoreKept os (f os a))
    (l : List α) (os : ObjectStore) : StoreKept os (l.foldl f os) := by
  induction l generalizing os with
  | nil => exact .refl os
  | cons a l ih => exact (hf os a).trans (ih _)

/-- A directory whose LIVE entries were LIVE under their names before. -/
def LiveWithin (os os' : ObjectStore) : Prop :=
  ∀ i e, ramEntry os' i = some e → e.state = .live →
    ∃ e0, ramEntry os i = some e0 ∧ e0.state = .live ∧ e0.name = e.name

theorem LiveWithin.names {os os' : ObjectStore} (h : LiveWithin os os') (h0 : liveNamesOnce os) :
    liveNamesOnce os' := by
  intro i j e f he hf hel hfl hn
  obtain ⟨e0, he0, hel0, hen0⟩ := h i e he hel
  obtain ⟨f0, hf0, hfl0, hfn0⟩ := h j f hf hfl
  exact h0 i j e0 f0 he0 hf0 hel0 hfl0 (by rw [hen0, hfn0, hn])

/-- One RAM entry replaced by none, by one that is not LIVE, or by one of the name it was LIVE under. -/
theorem liveWithin_of_entry {os os' : ObjectStore} {i : Nat} (hother : ∀ j, j ≠ i → ramEntry os' j = ramEntry os j)
    (hself : ∀ e, ramEntry os' i = some e → e.state = .live →
      ∃ e0, ramEntry os i = some e0 ∧ e0.state = .live ∧ e0.name = e.name) : LiveWithin os os' := by
  intro j e he hlive
  by_cases hj : j = i
  · subst hj
    exact hself e he hlive
  · exact ⟨e, hother j hj ▸ he, hlive, rfl⟩

/-- What an entry holds once one was replaced, be its number one of the 48 or not. -/
theorem ramEntry_setEntry_cases {i : Nat} {o : Option Entry} {os : ObjectStore} {e : Entry}
    (h : ramEntry (setEntry i o os) i = some e) : o = some e := by
  have hi := ramEntry_lt h
  rwa [ramEntry_setEntry_self i o os hi] at h

theorem setEntry_kept {i : Nat} {o : Option Entry} {os : ObjectStore}
    (h : ∀ e, o = some e → e.state = .live → ∃ e0, ramEntry os i = some e0 ∧ e0.state = .live ∧ e0.name = e.name) :
    StoreKept os (setEntry i o os) :=
  ⟨id, (liveWithin_of_entry (fun j hj => ramEntry_setEntry_of_ne i j o os hj)
    fun e he hl => h e (ramEntry_setEntry_cases he) hl).names⟩

@[simp] theorem freeEntry_blocks (i : Nat) (os : ObjectStore) : (freeEntry i os).blocks = os.blocks := by
  unfold freeEntry
  split <;> rfl

theorem freeEntry_kept (i : Nat) (os : ObjectStore) : StoreKept os (freeEntry i os) := by
  refine ⟨by simp, (liveWithin_of_entry (i := i) (fun j hj => ?_) fun e he => ?_).names⟩
  · simp [ramEntry_freeEntry, hj]
  · simp [ramEntry_freeEntry] at he

/-- The definition state and the ROM entries' counts do not matter to what is kept. -/
theorem StoreKept.congr {os a b : ObjectStore} (h : StoreKept os a) (hb : b.blocks = a.blocks) (hr : b.ram = a.ram) :
    StoreKept os b := by
  refine ⟨fun h0 => hb ▸ h.blocks h0, fun h0 => ?_⟩
  have hentry : ∀ i, ramEntry b i = ramEntry a i := fun i => by simp [ramEntry, hr]
  simpa only [liveNamesOnce, hentry] using h.names h0

theorem retireEntry_kept {i : Nat} {e : Entry} {os : ObjectStore} : StoreKept os (retireEntry i e os) := by
  unfold retireEntry
  split
  · exact setEntry_kept fun e' he hl => by cases he; cases hl
  · exact freeEntry_kept i os

theorem abandonLoad_kept (os : ObjectStore) : StoreKept os (abandonLoad os) := by
  unfold abandonLoad
  split
  · exact (freeEntry_kept _ os).congr rfl rfl
  · exact (StoreKept.refl os).congr rfl rfl

theorem mapRefs_kept (f : Nat → Nat) (os : ObjectStore) (r : EntryRef) : StoreKept os (mapRefs f os r) := by
  cases r with
  | ram i =>
    simp only [mapRefs]
    split
    · rename_i e he
      exact setEntry_kept fun e' h hl => by cases h; exact ⟨e, he, hl, rfl⟩
    · exact .refl os
  | rom font => cases font <;> exact (StoreKept.refl os).congr rfl rfl

theorem takeRef_kept (os : ObjectStore) (r : EntryRef) : StoreKept os (takeRef os r) := mapRefs_kept _ os r

theorem freeIfRetired_kept (os : ObjectStore) (r : EntryRef) : StoreKept os (freeIfRetired os r) := by
  cases r with
  | ram i =>
    simp only [freeIfRetired]
    split
    · split
      · exact freeEntry_kept i os
      · exact .refl os
    · exact .refl os
  | rom font => exact .refl os

theorem dropRef_kept (os : ObjectStore) (r : EntryRef) : StoreKept os (dropRef os r) :=
  (mapRefs_kept _ os r).trans (freeIfRetired_kept _ r)

theorem releaseJob_kept (os : ObjectStore) (j : Job) : StoreKept os (releaseJob os j) :=
  .foldl dropRef_kept j.refs os

/-- An allocation changes the chains and the entry's first block. -/
theorem allocBlock_entry {i : Nat} {e e' : Entry} {os os' : ObjectStore} (h : allocBlock i e os = some (e', os')) :
    os'.blocks = os.blocks ∧ os'.ram = os.ram.setIfInBounds i (some e') ∧ e'.state = e.state ∧ e'.name = e.name := by
  unfold allocBlock at h
  split at h
  · cases h
  · dsimp only at h
    split at h <;> · cases h; exact ⟨rfl, rfl, rfl, rfl⟩

/-- Bytes appended change the contents, the chains and the one entry, which keeps its name and its state. -/
theorem appendBytes_ram {i : Nat} {e : Entry} {bytes : List Byte} {os os' : ObjectStore}
    (h : appendBytes i e bytes os = some os') :
    ∃ e', os'.ram = os.ram.setIfInBounds i (some e') ∧ e'.state = e.state ∧ e'.name = e.name := by
  unfold appendBytes at h
  dsimp only at h
  split at h
  · cases h
  · rename_i e1 os1 hroom
    cases h
    split at hroom
    · obtain ⟨-, hram, hst, hn⟩ := allocBlock_entry hroom
      refine ⟨?_, ?ram, ?_, ?_⟩
      case ram => simp only [hram, Vector.setIfInBounds_setIfInBounds]; rfl
      · exact hst
      · exact hn
    · cases hroom
      exact ⟨_, rfl, rfl, rfl⟩

/-- Bytes appended to an entry that was not LIVE. -/
theorem appendBytes_kept {i : Nat} {e : Entry} {bytes : List Byte} {os os' : ObjectStore} (hl : e.state ≠ .live)
    (h : appendBytes i e bytes os = some os') : StoreKept os os' := by
  obtain ⟨e', hram, hst, -⟩ := appendBytes_ram h
  refine ⟨fun h0 => appendBytes_wf i e bytes os os' h0 h, ?_⟩
  have hset : StoreKept os (setEntry i (some e') os) := setEntry_kept fun x hx hlive => by
    cases hx
    exact absurd (hst ▸ hlive) hl
  exact (hset.congr (b := { os' with blocks := os.blocks }) rfl hram).names

/-- What the directory holds after a removal from a name (R29, R32). -/
theorem ramEntry_retireEntry {i : Nat} {e : Entry} {os : ObjectStore} (h : ramEntry os i = some e) (j : Nat) :
    ramEntry (retireEntry i e os) j =
      if j = i then (if e.refs > 0 then some { e with state := .retired } else none) else ramEntry os j := by
  unfold retireEntry
  by_cases hr : e.refs > 0 <;> by_cases hj : j = i
  · subst hj; simp [hr, ramEntry_setEntry_self _ _ _ (ramEntry_lt h)]
  · simp [hr, hj, ramEntry_setEntry_of_ne _ _ _ _ hj]
  · simp [hr, hj, ramEntry_freeEntry]
  · simp [hr, hj, ramEntry_freeEntry]

/-- A directory stays free of a second LIVE entry of a name where entry `i` may become LIVE, under a name that no other
LIVE entry has, and no other entry does. -/
theorem liveNamesOnce_of_one {os os' : ObjectStore} {i : Nat} {name : Text} (h0 : liveNamesOnce os)
    (hself : ∀ g, ramEntry os' i = some g → g.name = name)
    (hother : ∀ k g, k ≠ i → ramEntry os' k = some g → g.state = .live → ramEntry os k = some g ∧ g.name ≠ name) :
    liveNamesOnce os' := by
  intro a b x y hx hy hxl hyl hxy
  by_cases ha : a = i <;> by_cases hb : b = i
  · rw [ha, hb]
  · subst ha
    exact absurd (hxy ▸ hself x hx) (hother b y hb hy hyl).2
  · subst hb
    exact absurd (hxy ▸ hself y hy) (hother a x ha hx hxl).2
  · exact h0 a b x y (hother a x ha hx hxl).1 (hother b y hb hy hyl).1 hxl hyl hxy

/-- A load that completes leaves its entry the one LIVE entry of its name: the earlier one retires or is freed (R29). -/
theorem completeLoad_kept {i : Nat} {e : Entry} {n : Nat} {f : Option Format} {os : ObjectStore}
    (he : ramEntry os i = some e) (hl : e.state ≠ .live) : StoreKept os (completeLoad i e n f os) := by
  unfold completeLoad
  dsimp only
  generalize hlive : ({ e with
    state := .live, length := n, generation := nextGeneration (liveEntry os e.name), format := f } : Entry) = live
  have hset : ∀ k, k ≠ i → ramEntry { setEntry i (some live) os with defn := none } k = ramEntry os k :=
    fun k hk => ramEntry_setEntry_of_ne i k _ os hk
  have hself : ramEntry { setEntry i (some live) os with defn := none } i = some live :=
    ramEntry_setEntry_self i _ os (ramEntry_lt he)
  have hname : live.name = e.name := by rw [← hlive]
  cases hprev : liveEntry os e.name with
  | none =>
    refine ⟨id, fun h0 => liveNamesOnce_of_one (i := i) (name := e.name) h0 (fun g hg => ?_) fun k g hk hg hgl => ?_⟩
    · rw [hself] at hg
      cases hg
      exact hname
    · rw [hset k hk] at hg
      refine ⟨hg, fun hn => ?_⟩
      simpa [hgl, hn] using findEntry_none hprev k g hg
  | some jp =>
    obtain ⟨j, p⟩ := jp
    obtain ⟨hp, hpl⟩ := findEntry_some hprev
    simp only [Bool.and_eq_true, beq_iff_eq] at hpl
    have hji : j ≠ i := by
      rintro rfl
      rw [he] at hp
      cases hp
      exact hl hpl.1
    have hram := ramEntry_retireEntry ((hset j hji).trans hp)
    refine ⟨(retireEntry_kept (os := { setEntry i (some live) os with defn := none })).blocks, fun h0 =>
      liveNamesOnce_of_one (i := i) (name := e.name) h0 (fun g hg => ?_) fun k g hk hg hgl => ?_⟩
    · rw [hram, if_neg hji.symm, hself] at hg
      cases hg
      exact hname
    · rw [hram] at hg
      split at hg
      · split at hg <;> cases hg
        cases hgl
      · rename_i hkj
        rw [hset k hk] at hg
        exact ⟨hg, fun hn => hkj (h0 k j g p hg hp hgl hpl.1 (hn.trans hpl.2.symm))⟩

end Sys2Proof.Machine
end

section
/-!
What every command keeps, command by command: the bound of the report queue (R14), one notice of a kind (R198), the
store's properties, the ranges of counters and settings (R56, R200), the coherence of the fault flags with the pause
reasons (R167, R191), and the model's own queue and power-on count. `Kept` collects them, so that each operation is
gone through once.
-/
namespace Sys2Proof.Machine

/-- The pause reason that stands while a STOP kind is active (R167, R192). -/
def stopReason : FaultKind → Option PauseReason
  | .mediaOut => some .media
  | .headHot => some .hot
  | .headFault => some .headFault
  | .headWarm | .headSensor | .calFail | .headData | .senseFlip | .lineConflict | .lineOverrun | .lineSequence
  | .applyTimeout | .late | .linkError | .settingsLost => none

/-- A fault record that R191 allows for its kind. -/
def FaultRecord.Coherent (k : FaultKind) (r : FaultRecord) : Prop :=
  (r.active = true → r.latched = true) ∧ (k.group ≠ .condition → r.active = r.latched)

/-- R191 and R167 for one fault table and pause set. -/
def FlagsSound (fm : Vector FaultRecord 15) (p : PauseSet) : Prop :=
  ∀ k : FaultKind, fm[k.index].Coherent k ∧ ∀ r, stopReason k = some r → p.has r = fm[k.index].active

theorem flagsSound_iff (s : State) : FlagsSound s.fm s.pe.pause ↔ flagsCoherent s ∧ stopsPause s := by
  constructor
  · intro h
    exact ⟨fun k => (h k).1, (h .headHot).2 _ rfl, (h .mediaOut).2 _ rfl, (h .headFault).2 _ rfl⟩
  · rintro ⟨h, hot, media, fault⟩ k
    refine ⟨h k, fun r hr => ?_⟩
    cases k <;> cases hr
    exacts [media, hot, fault]

theorem FaultKind.index_injective {j k : FaultKind} (h : (j.index : Nat) = k.index) : j = k := by
  cases j <;> cases k <;> first | rfl | exact absurd h (by decide)

/-- A kind's record replaced by a coherent one, with its reason. -/
theorem FlagsSound.set {fm : Vector FaultRecord 15} {p p' : PauseSet} {k : FaultKind} {r : FaultRecord}
    (h : FlagsSound fm p) (hr : r.Coherent k) (hk : ∀ x, stopReason k = some x → p'.has x = r.active)
    (hp : ∀ x, stopReason k ≠ some x → p'.has x = p.has x) : FlagsSound (fm.set k.index r) p' := by
  intro j
  by_cases hj : j = k
  · subst hj
    simpa using ⟨hr, hk⟩
  · have hne : (k.index : Nat) ≠ j.index := fun hi => hj (FaultKind.index_injective hi).symm
    obtain ⟨hc, hs⟩ := h j
    refine ⟨by simpa [Vector.getElem_set, hne] using hc, fun x hx => ?_⟩
    have hkx : stopReason k ≠ some x := by
      intro hkx
      cases j <;> cases hx <;> cases k <;> first | exact hj rfl | cases hkx
    simpa [Vector.getElem_set, hne, hp x hkx] using hs x hx

/-- No kind active and no STOP kind's reason present. -/
theorem FlagsSound.clear {p : PauseSet} (hp : ∀ k r, stopReason k = some r → p.has r = false) :
    FlagsSound (Vector.replicate 15 clearFault) p := by
  intro k
  simp only [Fin.getElem_fin, Vector.getElem_replicate]
  exact ⟨⟨fun h => absurd h Bool.false_ne_true, fun _ => rfl⟩, hp k⟩

/-- What the properties are about: nothing else of a state matters to them. -/
structure Watched where
  reports : List Report
  waiting : List Report
  os : ObjectStore
  cb : Vector Counter 8
  settings : Settings
  fm : Vector FaultRecord 15
  pause : PauseSet
  pending : List Instr
  fresh : Nat

def watched (s : State) : Watched :=
  { reports := s.jl.reports, waiting := s.jl.waiting, os := s.os, cb := s.cb, settings := s.ss.settings, fm := s.fm,
    pause := s.pe.pause, pending := s.pending, fresh := s.fresh }

/-- The properties that a command's operations keep, of what is watched of a state. -/
structure Watched.Kept (x y : Watched) : Prop where
  reports : x.reports.length ≤ 16 → y.reports.length ≤ 16
  notices : (∀ k, x.waiting.countP (isNoticeOf k) ≤ 1) → ∀ k, y.waiting.countP (isNoticeOf k) ≤ 1
  store : StoreKept x.os y.os
  counters : legalCounters x.cb → legalCounters y.cb
  settings : legalSettings x.settings → legalSettings y.settings
  flags : FlagsSound x.fm x.pause → FlagsSound y.fm y.pause
  pending : y.pending = x.pending
  fresh : y.fresh = x.fresh

/-- `t` keeps what every command keeps of `s`. -/
def Kept (s t : State) : Prop := (watched s).Kept (watched t)

theorem Watched.Kept.refl (x : Watched) : x.Kept x := ⟨id, id, .refl _, id, id, id, rfl, rfl⟩

theorem Watched.Kept.trans {x y z : Watched} (h : x.Kept y) (h' : y.Kept z) : x.Kept z :=
  ⟨h'.reports ∘ h.reports, h'.notices ∘ h.notices, h.store.trans h'.store, h'.counters ∘ h.counters,
    h'.settings ∘ h.settings, h'.flags ∘ h.flags, h'.pending.trans h.pending, h'.fresh.trans h.fresh⟩

namespace Kept

variable {s0 s : State}

theorem refl (s : State) : Kept s s := Watched.Kept.refl _

theorem trans {a b c : State} (h : Kept a b) (h' : Kept b c) : Kept a c := Watched.Kept.trans h h'

/-- A change of what is not watched. -/
theorem same {t : State} (h : Kept s0 s) (e : watched t = watched s) : Kept s0 t := by
  unfold Kept at *
  rwa [e]

theorem ite {c : Prop} [Decidable c] {a b : State} (ha : c → Kept s0 a) (hb : ¬ c → Kept s0 b) :
    Kept s0 (if c then a else b) := by
  split
  · exact ha ‹_›
  · exact hb ‹_›

/-- A fold keeps what each of its steps keeps. -/
theorem foldl {α : Type} {f : State → α → State} (hf : ∀ s a, Kept s (f s a)) (l : List α) (s : State) :
    Kept s (l.foldl f s) := by
  induction l generalizing s with
  | nil => exact refl s
  | cons a l ih => exact (hf s a).trans (ih _)

/-! ### Reports and the job link -/

theorem ofStore {t : State} (h : Kept s0 s) (hos : StoreKept s.os t.os)
    (e : watched t = { watched s with os := t.os }) : Kept s0 t := by
  refine h.trans ?_
  unfold Kept
  rw [e]
  exact ⟨id, id, hos, id, id, id, rfl, rfl⟩

theorem freeSlot (tag : Nat) (h : Kept s0 s) : Kept s0 (freeSlot tag s) := by
  refine h.ofStore ?_ (by simp [watched])
  unfold Machine.freeSlot
  split
  · exact releaseJob_kept _ _
  · exact .refl _

theorem onEnter (r : Report) (h : Kept s0 s) : Kept s0 (onEnter r s) := by
  cases r <;> first | exact h | exact h.freeSlot _

theorem beginCharacter (h : Kept s0 s) : Kept s0 (beginCharacter s) := h.same (by simp [watched])

/-- A report enters a queue that has room. -/
theorem enterReport (r : Report) (hroom : s.jl.reports.length < 16) (h : Kept s0 s) : Kept s0 (enterReport r s) := by
  refine (onEnter r (s := { s with jl := { s.jl with reports := s.jl.reports ++ [r] } }) ?_).beginCharacter
  refine h.trans ⟨fun _ => ?_, id, .refl _, id, id, id, rfl, rfl⟩
  simp only [watched, List.length_append, List.length_singleton]
  omega

/-- A report joins the waiting list: not a notice of a kind that waits. -/
theorem wait (r : Report) (hr : ∀ k, isNoticeOf k r = true → s.jl.waiting.any (isNoticeOf k) = false)
    (h : Kept s0 s) : Kept s0 { s with jl := { s.jl with waiting := s.jl.waiting ++ [r] } } := by
  refine h.trans ⟨id, fun hk k => ?_, .refl _, id, id, id, rfl, rfl⟩
  specialize hk k
  simp only [watched, List.countP_append, List.countP_singleton] at hk ⊢
  split
  · rename_i hnotice
    have hnone : s.jl.waiting.countP (isNoticeOf k) = 0 := by
      simpa [List.countP_eq_zero] using hr k hnotice
    omega
  · omega

theorem offerReport (r : Report) (hr : ∀ k, isNoticeOf k r = true → s.jl.waiting.any (isNoticeOf k) = false)
    (h : Kept s0 s) : Kept s0 (offerReport r s) := by
  obtain ⟨hroom, -, e⟩ | ⟨-, e⟩ := offerReport_cases r s
  · rw [e]; exact h.enterReport r hroom
  · rw [e]; exact h.wait r hr

theorem endRateSwitch (h : Kept s0 s) : Kept s0 (endRateSwitch s) := by
  unfold Machine.endRateSwitch
  repeat' split
  exacts [h.same rfl, h, h]

theorem requestRate (rate : Nat) (h : Kept s0 s) : Kept s0 (requestRate rate s) := by
  unfold Machine.requestRate
  split
  · exact h
  · exact endRateSwitch (h.same rfl)

/-! ### Fault flags and pause reasons -/

/-- A kind's record replaced by a coherent one, its reason with it. -/
theorem setFault {k : FaultKind} {r : FaultRecord} {p : PauseSet} (h : Kept s0 s)
    (hr : FlagsSound s.fm s.pe.pause → r.Coherent k)
    (hk : FlagsSound s.fm s.pe.pause → ∀ x, stopReason k = some x → p.has x = r.active)
    (hp : ∀ x, stopReason k ≠ some x → p.has x = s.pe.pause.has x) :
    Kept s0 { setFault k r s with pe := { s.pe with pause := p } } :=
  h.trans ⟨id, id, .refl _, id, id, fun hf => hf.set (hr hf) (hk hf) hp, rfl, rfl⟩

theorem raiseFlags {k : FaultKind} (hk : stopReason k = none) (h : Kept s0 s) : Kept s0 (raiseFlags k s) :=
  (h.setFault (k := k) (p := s.pe.pause) (fun _ => ⟨fun _ => rfl, fun _ => rfl⟩) (fun _ x hx => by simp [hk] at hx)
    fun _ _ => rfl).same rfl

theorem clearFlags {k : FaultKind} (hk : stopReason k = none) (h : Kept s0 s) : Kept s0 (clearFlags k s) :=
  (h.setFault (k := k) (p := s.pe.pause) (fun _ => ⟨fun h => absurd h Bool.false_ne_true, fun _ => rfl⟩) (fun _ x hx => by simp [hk] at hx)
    fun _ _ => rfl).same rfl

theorem endCondition {k : FaultKind} (hk : k.group = .condition) (h : Kept s0 s) : Kept s0 (endCondition k s) := by
  refine (h.setFault (k := k) (p := s.pe.pause) (r := { faultOf s k with active := false })
    (fun _ => ⟨fun h => absurd h Bool.false_ne_true, fun hn => absurd hk hn⟩) (fun _ x hx => ?_) fun _ _ => rfl).same rfl
  have hnone : stopReason k = none := by cases k <;> first | rfl | cases hk
  cases hnone.symm.trans hx

theorem has_put (p : PauseSet) (r x : PauseReason) (b : Bool) : (p.put r b).has x = if x = r then b else p.has x := by
  cases r <;> cases x <;> rfl

/-- A STOP kind raised with its reason. -/
theorem raiseStop {k : FaultKind} {r : PauseReason} (hk : stopReason k = some r) (h : Kept s0 s) :
    Kept s0 (addReason r (Machine.raiseFlags k s)) :=
  (h.setFault (k := k) (p := s.pe.pause.put r true) (fun _ => ⟨fun _ => rfl, fun _ => rfl⟩)
    (fun _ x hx => by simp [has_put, Option.some.inj (hk.symm.trans hx)])
    fun x hx => by rw [has_put, if_neg fun e : x = r => hx (e ▸ hk)]).same rfl

/-- A STOP kind cleared with its reason. -/
theorem clearStop {k : FaultKind} {r : PauseReason} (hk : stopReason k = some r) (h : Kept s0 s) :
    Kept s0 (dropReason r (Machine.clearFlags k s)) :=
  (h.setFault (k := k) (p := s.pe.pause.put r false) (fun _ => ⟨fun h => absurd h Bool.false_ne_true, fun _ => rfl⟩)
    (fun _ x hx => by simp [has_put, Option.some.inj (hk.symm.trans hx)])
    fun x hx => by rw [has_put, if_neg fun e : x = r => hx (e ▸ hk)]).same rfl

/-- A reason that stands for no STOP kind. -/
theorem putReason {r : PauseReason} {b : Bool} (hr : ∀ k, stopReason k ≠ some r) (h : Kept s0 s) :
    Kept s0 { s with pe := { s.pe with pause := s.pe.pause.put r b } } := by
  refine h.trans ⟨id, id, .refl _, id, id, fun hf k => ⟨(hf k).1, fun x hx => ?_⟩, rfl, rfl⟩
  have hxr : x ≠ r := fun e => hr k (e ▸ hx)
  simpa [watched, has_put, hxr] using (hf k).2 x hx

theorem reported (k : FaultKind) (b : Bool) (h : Kept s0 s) :
    Kept s0 (Machine.setFault k { faultOf s k with reported := b } s) :=
  (h.setFault (k := k) (p := s.pe.pause) (r := { faultOf s k with reported := b }) (fun hf => (hf k).1)
    (fun hf => (hf k).2) fun _ _ => rfl).same rfl

theorem offerNotice (k : FaultKind) (h : Kept s0 s) : Kept s0 (offerNotice k s) := by
  unfold Machine.offerNotice
  split
  · rename_i howed
    refine (h.reported k _).offerReport _ fun j hj => ?_
    have hjk : k = j := by simpa [isNoticeOf] using hj
    subst hjk
    simp only [noticeOwed, Bool.and_eq_true, Bool.not_eq_true'] at howed
    exact howed.2
  · exact h

theorem offerNotices (h : Kept s0 s) : Kept s0 (offerNotices s) :=
  h.trans (foldl (fun s k => (refl s).offerNotice k) _ s)

theorem raiseFault {k : FaultKind} (hk : stopReason k = none) (h : Kept s0 s) : Kept s0 (raiseFault k s) :=
  (h.raiseFlags hk).offerNotice k

/-- A report that is no notice of any kind. -/
theorem offerOther {r : Report} (hr : ∀ k, isNoticeOf k r = false) (h : Kept s0 s) : Kept s0 (Machine.offerReport r s) :=
  h.offerReport r fun k hk => by simp [hr] at hk

theorem fillFreedPosition (h : Kept s0 s) : Kept s0 (fillFreedPosition s) := by
  unfold Machine.fillFreedPosition
  split
  · exact h
  · rename_i r rest hw
    split
    · rename_i hroom
      have hdrop : Kept s0 { s with jl := { s.jl with waiting := rest } } := by
        refine h.trans ⟨id, fun hk k => ?_, .refl _, id, id, id, rfl, rfl⟩
        have := hk k
        simp only [watched, hw, List.countP_cons] at this ⊢
        omega
      have henter := enterReport r (s := { s with jl := { s.jl with waiting := rest } }) hroom hdrop
      cases r <;> first | exact henter | exact henter.offerNotice _
    · exact h

theorem leaveReport (h : Kept s0 s) : Kept s0 (leaveReport s) := by
  refine fillFreedPosition (endRateSwitch (h.trans ⟨fun hr => ?_, id, .refl _, id, id, id, rfl, rfl⟩))
  simp only [watched, List.length_tail] at hr ⊢
  omega

end Kept

end Sys2Proof.Machine
end

section
/-! The operations of the print engine and of the line port keep what every command keeps. -/
namespace Sys2Proof.Machine

/-- An operation that leaves JL, the store, the flags and the settings alone, and the pause set. -/
theorem watched_congr {s t : State} (hr : t.jl = s.jl) (hos : t.os = s.os) (hcb : t.cb = s.cb) (hss : t.ss = s.ss)
    (hfm : t.fm = s.fm) (hp : t.pe.pause = s.pe.pause) (hq : t.pending = s.pending) (hf : t.fresh = s.fresh) :
    watched t = watched s := by
  simp [watched, *]

@[simp] theorem takeGeometry_pause (s : State) : (takeGeometry s).pe.pause = s.pe.pause := by
  obtain ⟨-, -, -, -, -, h, -⟩ := takeGeometry_pe s
  exact h

@[simp] theorem enterIdle_pause (s : State) : (enterIdle s).pe.pause = s.pe.pause := by
  simp [enterIdle]

@[simp] theorem watched_takeGeometry (s : State) : watched (takeGeometry s) = watched s := by simp [watched]
@[simp] theorem watched_enterIdle (s : State) : watched (enterIdle s) = watched s := by simp [watched]
@[simp] theorem watched_halt (s : State) : watched (halt s) = watched s := rfl
@[simp] theorem watched_stepMedia (l : SensorLevel) (s : State) : watched (stepMedia l s) = watched s := rfl
@[simp] theorem watched_forgetStock (s : State) : watched (forgetStock s) = watched s := rfl
@[simp] theorem watched_stopIdleTimer (s : State) : watched (stopIdleTimer s) = watched s := rfl
@[simp] theorem watched_markLabel (f : Marks → Marks) (s : State) : watched (markLabel f s) = watched s := by
  simp [watched]
@[simp] theorem watched_mapCopy (id : CopyId) (f : Copy → Copy) (s : State) : watched (mapCopy id f s) = watched s := rfl
@[simp] theorem watched_setCopyState (id : CopyId) (st : CopyState) (s : State) :
    watched (setCopyState id st s) = watched s := rfl
@[simp] theorem watched_setBound (id : CopyId) (b : Bool) (s : State) : watched (setBound id b s) = watched s := rfl
@[simp] theorem watched_endCopy (id : CopyId) (r : CopyResult) (s : State) : watched (endCopy id r s) = watched s := rfl
@[simp] theorem watched_releaseCopy (id : CopyId) (s : State) : watched (releaseCopy id s) = watched s := by
  simp [watched]
@[simp] theorem watched_endUnprinted (id : CopyId) (r : CopyResult) (s : State) :
    watched (endUnprinted id r s) = watched s := by
  simp [endUnprinted]
@[simp] theorem watched_freeLabelBands (l : LabelContext) (s : State) : watched (freeLabelBands l s) = watched s := by
  simp [watched]
@[simp] theorem watched_freePrintingBand (s : State) : watched (freePrintingBand s) = watched s := by
  unfold freePrintingBand
  (repeat' split) <;> rfl
@[simp] theorem watched_beginLine (l : LabelContext) (b : Nat) (s : State) : watched (beginLine l b s) = watched s := rfl
@[simp] theorem watched_beginClosing (s : State) : watched (beginClosing s) = watched s := by simp [watched]
@[simp] theorem watched_startCalibration (o : CalOrigin) (c : Option CopyId) (s : State) :
    watched (startCalibration o c s) = watched s := rfl
@[simp] theorem watched_headLabelStart (s : State) : watched (headLabelStart s) = watched s := rfl
@[simp] theorem watched_spoilPresented (s : State) : watched (spoilPresented s) = watched s := rfl
@[simp] theorem watched_mapParcels (f : List Parcel → List Parcel) (s : State) : watched (mapParcels f s) = watched s :=
  rfl
@[simp] theorem watched_requestMiss (s : State) : watched (requestMiss s) = watched s := rfl
@[simp] theorem watched_allocateBand (c : RenderContext) (s : State) : watched (allocateBand c s) = watched s := by
  simp [watched]

/-- The state after a forward step with its edge, before the guard is looked at (R160 steps 1 and 2). -/
def steppedState (level : SensorLevel) (s : State) : State :=
  if stepShowsEdge level s then takeEdge level (stepMedia level s) else stepMedia level s

theorem guardedStep_eq (level : SensorLevel) (s : State) :
    guardedStep level s =
      if guardTrips (steppedState level s) then (offerNotices (tripGuard (steppedState level s)), true)
      else (offerNotices (steppedState level s), false) := rfl

namespace Kept

variable {s0 s : State}

/-! ### Copies, media steps and the guard -/

theorem takeGeometry (h : Kept s0 s) : Kept s0 (takeGeometry s) := h.same (by simp)

theorem enterIdle (h : Kept s0 s) : Kept s0 (enterIdle s) := h.same (by simp)

theorem halt (h : Kept s0 s) : Kept s0 (halt s) := h.same rfl

theorem endCopy (id : CopyId) (r : CopyResult) (h : Kept s0 s) : Kept s0 (endCopy id r s) := h.same (by simp)

theorem endUnprinted (id : CopyId) (r : CopyResult) (h : Kept s0 s) : Kept s0 (endUnprinted id r s) := h.same (by simp)

theorem offerDone (tag : Nat) (h : Kept s0 s) : Kept s0 (offerDone tag s) := by
  unfold Machine.offerDone
  repeat' split
  exacts [h.offerOther fun _ => rfl, h, h]

theorem takeEdge (level : SensorLevel) (h : Kept s0 s) : Kept s0 (takeEdge level s) := by
  unfold Machine.takeEdge takeCapture
  exact ite (fun _ => ite (fun _ => h.same rfl) fun _ => ite (fun _ => raiseFlags rfl (h.same rfl))
    fun _ => h.same rfl) fun _ => h

theorem tripGuard (h : Kept s0 s) : Kept s0 (tripGuard s) := by
  have hstop : Kept s0 (addReason .media (Machine.raiseFlags .mediaOut (forgetStock s))) := raiseStop rfl (h.same rfl)
  unfold Machine.tripGuard
  dsimp only
  split
  · exact hstop.same (by simp; rfl)
  · exact hstop.same (by simp; rfl)

theorem guardedStep (level : SensorLevel) (h : Kept s0 s) : Kept s0 (guardedStep level s).1 := by
  have hstep : Kept s0 (steppedState level s) :=
    ite (fun _ => takeEdge level (h.same rfl)) fun _ => h.same rfl
  rw [guardedStep_eq]
  split <;> dsimp only
  · exact hstep.tripGuard.offerNotices
  · exact hstep.offerNotices

/-! ### Presentation and the boundary -/

theorem presentCopy (copy : Option CopyId) (h : Kept s0 s) : Kept s0 (presentCopy copy s).1 := by
  unfold Machine.presentCopy
  split
  · exact h
  · split
    · exact h
    · split
      · exact (h.endCopy _ _).offerDone _
      · exact h.same rfl

theorem applyVerdict (h : Kept s0 s) : Kept s0 (applyVerdict s) := by
  unfold Machine.applyVerdict
  dsimp only
  split
  · exact h.same rfl
  · exact h.same rfl
  · exact ite (fun _ => raiseStop rfl (raiseFlags rfl (h.same rfl))) fun _ => raiseFlags rfl (h.same rfl)

theorem present (l : LabelContext) (h : Kept s0 s) : Kept s0 (present l s) :=
  ((h.presentCopy l.copy).applyVerdict.offerNotices).same (by simp only [Machine.present, watched])

theorem completeFeedOut (l : LabelContext) (h : Kept s0 s) : Kept s0 (completeFeedOut l s) :=
  ite (fun _ => h.same rfl) fun _ => h.present l

theorem startFeedOut (l : LabelContext) (h : Kept s0 s) : Kept s0 (startFeedOut l s) :=
  ite (fun _ => completeFeedOut _ (h.same rfl)) fun _ => h.same rfl

theorem decideBoundary (h : Kept s0 s) : Kept s0 (decideBoundary s) := by
  unfold Machine.decideBoundary
  repeat' split
  exacts [h, h.startFeedOut _, h.halt, startFeedOut _ (h.same (by simp)), h.halt, h.halt, h.same rfl, h.same (by simp)]

theorem stopLabel (h : Kept s0 s) : Kept s0 (stopLabel s) := by
  have hfreed : Kept s0 (beginClosing (if lineInProgress s then s else freePrintingBand s)) :=
    same (ite (fun _ => h) fun _ => h.same (watched_freePrintingBand s)) (watched_beginClosing _)
  exact ite (fun _ => hfreed.decideBoundary) fun _ => hfreed

theorem withdraw (id : CopyId) (h : Kept s0 s) : Kept s0 (withdraw id s) :=
  ite (fun _ => h) fun _ => stopLabel (h.same (by simp [addMark]))

/-! ### Calibration, label starts and the pause set -/

theorem contCalibrate (h : Kept s0 s) : Kept s0 (contCalibrate s) :=
  offerOther (fun _ => rfl) (endCondition rfl (h.same rfl))

theorem failCalibration (c : Calibration) (h : Kept s0 s) : Kept s0 (failCalibration c s) := by
  have hfail : Kept s0 (Machine.offerReport (.cal none) (Machine.raiseFault .calFail
      (Machine.enterIdle { s with pe := { s.pe with cal := none, calibrated := false } }))) :=
    offerOther (fun _ => rfl) (raiseFault rfl (enterIdle (h.same rfl)))
  unfold Machine.failCalibration
  dsimp only
  repeat' split
  exacts [hfail, (hfail.endUnprinted _ _).offerDone _, hfail]

theorem succeedCalibration (s1 s2 : Int) (gap : SensorLevel) (h : Kept s0 s) :
    Kept s0 (succeedCalibration s1 s2 gap s) :=
  enterIdle (offerOther (fun _ => rfl) (endCondition rfl (h.same rfl)))

theorem startLabel (id : CopyId) (h : Kept s0 s) : Kept s0 (startLabel id s) := by
  unfold Machine.startLabel
  split
  · exact h
  · exact ite (fun _ => h.same rfl) fun _ => decideBoundary (h.same rfl)

theorem testLabelStart (h : Kept s0 s) : Kept s0 (testLabelStart s) := by
  unfold Machine.testLabelStart
  repeat' split
  exacts [h, h.startLabel _, h, h.contCalibrate.startLabel _, h.same rfl]

theorem resume (h : Kept s0 s) : Kept s0 (resume s) := by
  unfold Machine.resume
  repeat' split
  exacts [h.startFeedOut _, h.decideBoundary, h, h.testLabelStart, h, h, h, h, h]

theorem resumeIfEmptied (before : State) (h : Kept s0 s) : Kept s0 (resumeIfEmptied before s) :=
  ite (fun _ => h.resume) fun _ => h

theorem addReason {r : PauseReason} (hr : ∀ k, stopReason k ≠ some r) (h : Kept s0 s) : Kept s0 (addReason r s) :=
  h.putReason hr

theorem removeReason {r : PauseReason} (hr : ∀ k, stopReason k ≠ some r) (h : Kept s0 s) : Kept s0 (removeReason r s) :=
  resumeIfEmptied s (h.putReason hr)

/-- HOST, PANEL and LINE stand for no STOP kind. -/
theorem stopReason_host (k : FaultKind) : stopReason k ≠ some .host := by cases k <;> decide
theorem stopReason_panel (k : FaultKind) : stopReason k ≠ some .panel := by cases k <;> decide
theorem stopReason_line (k : FaultKind) : stopReason k ≠ some .line := by cases k <;> decide

theorem readSensorForMediaOut (level : SensorLevel) (h : Kept s0 s) : Kept s0 (readSensorForMediaOut level s) :=
  ite (fun _ => ite (fun _ => clearStop rfl (h.same rfl)) fun _ => h.same rfl) fun _ => h

theorem removePresented (h : Kept s0 s) : Kept s0 (removePresented s) := by
  exact testLabelStart (ite (fun _ => enterIdle (h.same rfl)) fun _ => h.same rfl)

theorem wastePresented (id : CopyId) (h : Kept s0 s) : Kept s0 (wastePresented id s) := (h.endCopy id .wasted).same rfl

theorem withdrawCopy (id : CopyId) (h : Kept s0 s) : Kept s0 (withdrawCopy id s) := by
  unfold Machine.withdrawCopy
  split
  exacts [h.endUnprinted _ _, h.endUnprinted _ _, h.endUnprinted _ _, h.withdraw _, h.wastePresented _, h, h, h]

theorem endFeedMove (h : Kept s0 s) : Kept s0 (endFeedMove s) := testLabelStart (enterIdle (h.same rfl))

theorem startFeedMove (h : Kept s0 s) : Kept s0 (startFeedMove s) := by
  unfold Machine.startFeedMove
  split
  · exact h
  · exact ite (fun _ => endFeedMove (h.same rfl)) fun _ => h.same rfl

/-! ### The line port -/

theorem bindOne {t : State} (ht : bindOne s = some t) (h : Kept s0 s) : Kept s0 t := by
  unfold Machine.bindOne at ht
  split at ht
  · simp only [Option.some.injEq] at ht
    subst ht
    split
    · exact h.same rfl
    · exact offerDone _ (withdrawCopy _ (h.same rfl))
  · cases ht

theorem bindAll (fuel : Nat) (h : Kept s0 s) : Kept s0 (bindAll fuel s) := by
  induction fuel generalizing s with
  | zero => exact h
  | succ fuel ih =>
    unfold Machine.bindAll
    split
    · rename_i t ht
      exact ih (h.bindOne ht)
    · exact h

theorem bindEvent (h : Kept s0 s) : Kept s0 (bindEvent s) := (h.bindAll _).testLabelStart

theorem handleEntry (e : Parcel) (h : Kept s0 s) : Kept s0 (handleEntry e s) := by
  have hmiss : Kept s0 (missEntry s) := h.same rfl
  have hunprinted : ∀ id : CopyId, Kept s0 (Machine.raiseFault .late
      (Machine.offerDone id.tag (Machine.endUnprinted id .missedUnprinted (missEntry s)))) := fun id =>
    raiseFault rfl ((hmiss.endUnprinted id _).offerDone _)
  unfold Machine.handleEntry
  split
  · split
    exacts [h.same rfl, raiseFault rfl (hmiss.same rfl), hunprinted _, hunprinted _, hunprinted _, hmiss.raiseFault rfl,
      hmiss.raiseFault rfl, hmiss.raiseFault rfl]
  · exact hmiss.raiseFault rfl

theorem handleApplyPoints (fuel : Nat) (h : Kept s0 s) : Kept s0 (handleApplyPoints fuel s) := by
  induction fuel generalizing s with
  | zero => exact h
  | succ fuel ih =>
    unfold Machine.handleApplyPoints
    repeat' split
    exacts [ih (h.handleEntry _), h, h]

theorem takeTrigger (w : ConflictWindow) (h : Kept s0 s) : Kept s0 (takeTrigger w s) :=
  ite (fun _ => ite (fun _ => testLabelStart (handleApplyPoints _ (bindEvent (h.same rfl))))
    fun _ => bindEvent (h.same rfl)) fun _ => raiseFault rfl (h.same rfl)

theorem portOff (h : Kept s0 s) : Kept s0 (portOff s) := h.same rfl

theorem portOn (h : Kept s0 s) : Kept s0 (portOn s) :=
  ite (fun _ => addReason stopReason_line (h.same rfl)) fun _ => h.same rfl

theorem endApplyWait (id : CopyId) (r : CopyResult) (h : Kept s0 s) : Kept s0 (endApplyWait id r s) := h.same rfl

end Kept

end Sys2Proof.Machine
end

section
/-! The ranges of the counters (R56) and of the settings (R200): what CTR and SET write, what a step makes of a counter,
and what a load takes from an image. -/
namespace Sys2Proof.Machine

/-! ## Counters -/

theorem defaultCounter_legal (n : Nat) : legalCounter n defaultCounter :=
  ⟨by decide, by decide, by decide, by decide, by decide, by decide, by decide, nofun, by decide, by decide, nofun⟩

theorem defaultCounters_legal : legalCounters (Vector.replicate 8 defaultCounter) := by
  intro n c h
  rw [Vector.getElem?_replicate] at h
  split at h
  · cases h
    exact defaultCounter_legal n
  · cases h

theorem defaultSettings_legal : legalSettings defaultSettings := by
  simp only [legalSettings, legalEnergy]
  decide

/-- One record replaced by a legal one. -/
theorem legalCounters.set {cb : Vector Counter 8} (h : legalCounters cb) {i : Nat} {c : Counter}
    (hc : legalCounter i c) : legalCounters (cb.setIfInBounds i c) := by
  intro n d hd
  rw [Vector.getElem?_setIfInBounds] at hd
  split at hd
  · split at hd
    · cases hd
      subst i
      exact hc
    · cases hd
  · exact h n d hd

/-- A step keeps every field but the value and the flag. -/
theorem stepCounter_legal {n : Nat} {c : Counter} (h : legalCounter n c) : legalCounter n (stepCounter c).1 := by
  obtain ⟨hlh, hh, hlv, hvh, hs0, hs, hsr, hcas, hd1, hd9, hex⟩ := h
  cases hm : c.mode with
  | wrap =>
    obtain ⟨hlow, hhigh⟩ := (Counter.WrapReady.mk hm hlv hvh hsr).step_mem_limits
    rw [stepCounter_wrap_frame hm]
    have hnot : c.exhausted ≠ true := fun he => by
      obtain ⟨hhold, -⟩ := hex he
      rw [hm] at hhold
      cases hhold
    exact ⟨hlh, hh, hlow, hhigh, hs0, hs, hsr, hcas, hd1, hd9, fun he => absurd he hnot⟩
  | hold =>
    simp only [stepCounter, hm]
    split
    · exact ⟨hlh, hh, hlv, hvh, hs0, hs, hsr, hcas, hd1, hd9, hex⟩
    · rename_i hnot
      split
      · exact ⟨hlh, hh, hlh, le_refl _, hs0, hs, hsr, hcas, hd1, hd9,
          fun _ => ⟨rfl, (if_pos (show 0 < c.step by omega)).symm⟩⟩
      · split
        · exact ⟨hlh, hh, le_refl _, hlh, hs0, hs, hsr, hcas, hd1, hd9,
            fun _ => ⟨rfl, (if_neg (show ¬ 0 < c.step by omega)).symm⟩⟩
        · exact ⟨hlh, hh, by dsimp only; omega, by dsimp only; omega, hs0, hs, hsr, hcas, hd1, hd9,
            fun he => absurd he hnot⟩

theorem stepCascade_legal (fuel i : Nat) {cb : Vector Counter 8} (h : legalCounters cb) :
    legalCounters (stepCascade fuel i cb) := by
  induction fuel generalizing i cb with
  | zero => exact h
  | succ fuel ih =>
    cases hc : cb[i]? with
    | none => simpa [stepCascade, hc] using h
    | some c =>
      have hset : legalCounters (cb.setIfInBounds i (stepCounter c).1) := h.set (stepCounter_legal (h i c hc))
      rw [stepCascade_succ hc]
      split
      · exact ih _ hset
      · exact hset

theorem serveCounters_legal {fields : List Field} {cb cb' : Vector Counter 8} {read : List (Nat × Counter)}
    (h : legalCounters cb) (hs : serveCounters fields cb = some (read, cb')) : legalCounters cb' := by
  simp only [serveCounters] at hs
  split at hs
  · cases hs
  · cases hs
    clear * - h
    generalize referredCounters fields = ns
    induction ns generalizing cb with
    | nil => exact h
    | cons n ns ih => exact ih (stepCascade_legal 8 n h)

theorem clampInt_bounds {lo hi : Int} (h : lo ≤ hi) (x : Int) : lo ≤ clampInt lo hi x ∧ clampInt lo hi x ≤ hi := by
  unfold clampInt
  omega

theorem clampNat_bounds {lo hi : Nat} (h : lo ≤ hi) (x : Int) : lo ≤ clampNat lo hi x ∧ clampNat lo hi x ≤ hi := by
  have := clampNat_cast lo hi x
  omega

/-- The step that R58 step 3 leaves is 0 only where the given one is, and no longer than 999 and the range. -/
theorem clampStep_bounds {low high : Nat} {v : Int} (h : low ≤ high) (hv : v ≠ 0) :
    clampStep low high v ≠ 0 ∧ (clampStep low high v).natAbs ≤ 999
      ∧ (clampStep low high v).natAbs ≤ high - low + 1 := by
  unfold clampStep
  dsimp only
  split <;> omega

/-- What CTR programs after its checks is what R56 allows (R57, R58). -/
theorem programCounter_legal {f : CtrForm} (h : ctrRefused f = false) :
    legalCounter f.number.toNat (programCounter f) := by
  simp only [ctrRefused, Bool.or_eq_false_iff, decide_eq_false_iff_not, not_lt, beq_eq_false_iff_ne] at h
  obtain ⟨⟨⟨h0, h7⟩, hnext⟩, hstep⟩ := h
  obtain ⟨-, hlow⟩ := clampNat_bounds (lo := 0) (hi := 999999999) (by omega) (f.low.getD 0)
  obtain ⟨hlh, hh⟩ := clampNat_bounds hlow (f.high.getD 999999999)
  obtain ⟨hlv, hvh⟩ := clampNat_bounds hlh (f.value.getD (clampNat 0 999999999 (f.low.getD 0)))
  obtain ⟨hd1, hd9⟩ := clampNat_bounds (lo := 1) (hi := 9) (by omega) (f.digits.getD 9)
  have hv : f.step.getD 1 ≠ 0 := by
    cases hs : f.step with
    | none => decide
    | some v => simpa [hs] using hstep
  obtain ⟨hs0, hs9, hsr⟩ := clampStep_bounds hlh hv
  refine ⟨hlh, hh, hlv, hvh, hs0, hs9, hsr, fun j hj => ?_, hd1, hd9, fun he => by cases he⟩
  simp only [programCounter, Option.map_eq_some_iff] at hj
  obtain ⟨x, hx, rfl⟩ := hj
  simp only [hx, Option.any_some, Bool.or_eq_false_iff, decide_eq_false_iff_not] at hnext
  omega

/-! ## Settings -/

theorem rateFor_mem (v : Int) : rateFor v ∈ rates := by
  unfold rateFor
  (repeat' split) <;> decide

theorem speedFor_bounds (v : Int) : 50 ≤ speedFor v ∧ speedFor v ≤ 300 ∧ speedFor v % 25 = 0 := by
  have := clampNat_cast 50 300 (v / 25 * 25)
  unfold speedFor
  omega

/-- A settings record whose every value but HB is what SET can store; the least HB fits every HA (R125). -/
def LegalButHb (x : Settings) : Prop := legalSettings { x with energy := { x.energy with hb := 4 } }

theorem legalSettings.butHb {x : Settings} (h : legalSettings x) : LegalButHb x := by
  obtain ⟨hr, ⟨h1, h2, h3, h4, h5, h6, h7, h8, h9, -, -, h12, h13⟩, hs⟩ := h
  exact ⟨hr, ⟨h1, h2, h3, h4, h5, h6, h7, h8, h9, le_refl 4, by dsimp only; omega, h12, h13⟩, hs⟩

/-- HB fitted to HA completes a record (R125). -/
theorem LegalButHb.withHb {x : Settings} (h : LegalButHb x) (v : Int) :
    legalSettings { x with energy := { x.energy with hb := hbFor x.energy.ha v } } := by
  obtain ⟨hr, ⟨h1, h2, h3, h4, h5, h6, h7, h8, h9, -, h11, h12, h13⟩, hs⟩ := h
  obtain ⟨hb4, hb60⟩ := clampNat_bounds (lo := 4) (hi := 60 - x.energy.ha) h11 v
  exact ⟨hr, ⟨h1, h2, h3, h4, h5, h6, h7, h8, h9, hb4, hb60, h12, h13⟩, hs⟩

theorem LegalButHb.writeItem {x : Settings} (h : LegalButHb x) (i : SetItem) : LegalButHb (writeItem x i) := by
  have clamp : ∀ (lo hi : Nat) (v : Int), lo ≤ hi → lo ≤ clampNat lo hi v ∧ clampNat lo hi v ≤ hi :=
    fun _ _ v h => clampNat_bounds h v
  have ⟨hr, he, hi10, hi600, hp8, hp2400, hpeel, hstart, ha1, ha2⟩ := h
  have ⟨h1, h2, h3, h4, h5, h6, h7, h8, h9, h10, h11, h12, h13⟩ := he
  cases i with
  | rate v => exact ⟨rateFor_mem v, he, hi10, hi600, hp8, hp2400, hpeel, hstart, ha1, ha2⟩
  | speed v =>
    obtain ⟨hs1, hs2, hs3⟩ := speedFor_bounds v
    exact ⟨hr, ⟨hs1, hs2, hs3, h4, h5, h6, h7, h8, h9, h10, h11, h12, h13⟩, hi10, hi600, hp8, hp2400, hpeel, hstart,
      ha1, ha2⟩
  | dark v =>
    obtain ⟨hd1, hd2⟩ := clampInt_bounds (lo := -16) (hi := 15) (by decide) v
    exact ⟨hr, ⟨h1, h2, h3, hd1, hd2, h6, h7, h8, h9, h10, h11, h12, h13⟩, hi10, hi600, hp8, hp2400, hpeel, hstart,
      ha1, ha2⟩
  | basew v =>
    obtain ⟨hb1, hb2⟩ := clamp 200 2000 v (by decide)
    exact ⟨hr, ⟨h1, h2, h3, h4, h5, hb1, hb2, h8, h9, h10, h11, h12, h13⟩, hi10, hi600, hp8, hp2400, hpeel, hstart,
      ha1, ha2⟩
  | ha v =>
    obtain ⟨hh1, hh2⟩ := clamp 24 56 v (by decide)
    exact ⟨hr, ⟨h1, h2, h3, h4, h5, h6, h7, hh1, hh2, h10, by dsimp only [Machine.writeItem]; omega, h12, h13⟩, hi10,
      hi600, hp8, hp2400, hpeel, hstart, ha1, ha2⟩
  | hb _ => exact h
  | split v =>
    obtain ⟨hs1, hs2⟩ := clamp 208 832 v (by decide)
    exact ⟨hr, ⟨h1, h2, h3, h4, h5, h6, h7, h8, h9, h10, h11, hs1, hs2⟩, hi10, hi600, hp8, hp2400, hpeel, hstart, ha1,
      ha2⟩
  | idle v =>
    obtain ⟨hv1, hv2⟩ := clamp 10 600 v (by decide)
    exact ⟨hr, he, hv1, hv2, hp8, hp2400, hpeel, hstart, ha1, ha2⟩
  | media _ => exact h
  | pitch v =>
    obtain ⟨hv1, hv2⟩ := clamp 8 2400 v (by decide)
    exact ⟨hr, he, hi10, hi600, hv1, hv2, hpeel, hstart, ha1, ha2⟩
  | peel v => exact ⟨hr, he, hi10, hi600, hp8, hp2400, (clamp 0 240 v (by decide)).2, hstart, ha1, ha2⟩
  | start v => exact ⟨hr, he, hi10, hi600, hp8, hp2400, hpeel, (clamp 0 16 v (by decide)).2, ha1, ha2⟩
  | mode _ => exact h
  | applyd v =>
    obtain ⟨hv1, hv2⟩ := clamp 1 65535 v (by decide)
    exact ⟨hr, he, hi10, hi600, hp8, hp2400, hpeel, hstart, hv1, hv2⟩
  | route _ _ => exact h

/-- What SET leaves in the settings record is what SET can store (R125, R200). -/
theorem writeItems_legal (items : List SetItem) {x : Settings} (h : legalSettings x) :
    legalSettings (writeItems items x) := by
  have hfold : ∀ (l : List SetItem) (y : Settings), LegalButHb y → LegalButHb (l.foldl writeItem y) := by
    intro l
    induction l with
    | nil => exact fun _ hy => hy
    | cons i l ih => exact fun y hy => ih _ (hy.writeItem i)
  exact (hfold items x h.butHb).withHb _

/-! ## What a load takes from an image -/

theorem readCounter_legal {bytes : List Byte} {n : Nat} {c : Counter} (h : readCounter bytes n = some c) :
    legalCounter n c := by
  unfold readCounter at h
  dsimp only at h
  split at h
  · rw [Option.ite_none_right_eq_some, Option.ite_none_right_eq_some] at h
    obtain ⟨⟨hlh, hh, hlv, hvh, hs0, hs, hsr, hcas, hd1, hd9⟩, hex, hc⟩ := h
    cases hc
    refine ⟨hlh, hh, hlv, hvh, hs0, hs, hsr, fun j hj => ?_, hd1, hd9, fun he => ?_⟩
    · rw [Option.ite_none_left_eq_some, Option.some.injEq] at hj
      omega
    · dsimp only at he
      simpa [exhaustedSound, he] using hex
  · cases h

/-- What a list of reads gives, where each of them reads something. -/
theorem mapM_eq_some_iff {α β : Type} {f : α → Option β} {l : List α} {r : List β} :
    l.mapM f = some r ↔ l.map f = r.map some := by
  induction l generalizing r with
  | nil => cases r <;> simp
  | cons a l ih =>
    cases hf : f a with
    | none => cases r <;> simp [hf]
    | some b =>
      cases r with
      | nil => simp [hf, Option.bind_eq_some_iff]
      | cons c r => simp [hf, ← ih, Option.bind_eq_some_iff, and_comm]

theorem readCounters_legal {bytes : List Byte} {cb : Vector Counter 8} (h : readCounters bytes = some cb) :
    legalCounters cb := by
  unfold readCounters at h
  split at h
  · rename_i l hl
    cases h
    intro n c hc
    have hn : n < 8 := by
      by_contra hn
      simp [Vector.getElem?_eq_none (Nat.not_lt.1 hn)] at hc
    have hread : (l.map some)[n]? = some (readCounter bytes n) := by
      rw [← mapM_eq_some_iff.1 hl]
      simp [hn]
    rw [List.getElem?_map, Option.map_eq_some_iff] at hread
    obtain ⟨d, hd, hread⟩ := hread
    rw [Vector.getElem?_ofFn] at hc
    simp only [hn, ↓reduceDIte, List.getD_eq_getElem?_getD, hd, Option.getD_some, Option.some.injEq] at hc
    exact hc ▸ readCounter_legal hread.symm
  · cases h

theorem fromBytes_lt (l : List Byte) : fromBytes l < 256 ^ l.length := by
  induction l with
  | nil => simp [fromBytes]
  | cons b l ih =>
    have := b.isLt
    simp only [fromBytes, List.length_cons, Nat.pow_succ]
    omega

theorem imageNumber_lt (bytes : List Byte) (off k : Nat) : imageNumber bytes off k < 256 ^ k :=
  (fromBytes_lt _).trans_le (Nat.pow_le_pow_right (by decide) (List.length_take_le _ _))

theorem readEnergy_legal {bytes : List Byte} {e : Energy} (h : readEnergy bytes = some e) : legalEnergy e := by
  unfold readEnergy at h
  dsimp only at h
  split at h
  · cases h
    assumption
  · cases h

theorem readSettings_legal {bytes : List Byte} {x : Settings} (h : readSettings bytes = some x) : legalSettings x := by
  unfold readSettings at h
  dsimp only at h
  split at h
  · split at h
    · rename_i rate energy _ _ _ hrate henergy _ _ _ hr
      cases h
      obtain ⟨h1, h2, h3, h4, h5, h6, h7⟩ := hr
      refine ⟨List.mem_of_getElem? hrate, readEnergy_legal henergy, h1, h2, h3, h4, h5, h6, h7, ?_⟩
      exact Nat.le_of_lt_succ (imageNumber_lt bytes 22 2)
    · cases h
  · cases h

/-- What a load reads is legal. -/
theorem loadedImage_legal {ss : SettingsStore} {x : Settings} {cb : Vector Counter 8}
    (h : loadedImage ss = some (x, cb)) : legalSettings x ∧ legalCounters cb := by
  unfold loadedImage judgeImage at h
  split at h
  · cases h
  · split at h
    · split at h
      · rename_i hx hcb
        cases h
        exact ⟨readSettings_legal hx, readCounters_legal hcb⟩
      · cases h
    · cases h

end Sys2Proof.Machine
end

section
/-! Every command keeps what `Kept` collects; POWER_ON begins anew with all of it. The invariants that the statements
name follow, and that the queue of commands and the power-on count are left alone. -/
namespace Sys2Proof.Machine

/-- An abandoned context leaves the report queue alone. -/
@[simp] theorem abandonContext_reports (s : State) : (abandonContext s).jl.reports = s.jl.reports := by
  unfold abandonContext
  dsimp only
  split <;> rfl

@[simp] theorem closeIfCloser_reports (k : Keyword) (s : State) : (closeIfCloser k s).jl.reports = s.jl.reports := by
  unfold closeIfCloser
  split <;> simp

@[simp] theorem removeRecord_reports (s : State) : (removeRecord s).jl.reports = s.jl.reports := by
  simp [removeRecord]

theorem ctsAfterStore_reports (jl : JobLink) :
    (ctsAfterStore jl).reports = jl.reports ∧ (ctsAfterStore jl).waiting = jl.waiting := by
  unfold ctsAfterStore
  split <;> exact ⟨rfl, rfl⟩

/-- The receive side leaves the transmit side's queues alone. -/
theorem receiveCharacter_reports (c : Byte) (good : Bool) (jl : JobLink) :
    (receiveCharacter c good jl).reports = jl.reports ∧ (receiveCharacter c good jl).waiting = jl.waiting := by
  unfold receiveCharacter
  dsimp only
  (repeat' split) <;> simp [ctsAfterStore_reports, completeRecord]

theorem loadingEntry_some {os : ObjectStore} {i : Nat} {e : Entry} (h : loadingEntry os = some (i, e)) :
    ramEntry os i = some e ∧ e.state = .loading := by
  obtain ⟨he, hp⟩ := findEntry_some h
  exact ⟨he, by simpa using hp⟩

/-- The parser takes a record only where a reply has room (R16). -/
theorem room_of_ready {s : State} (h : parserReady s = true) : s.jl.reports.length < 16 := by
  simp only [parserReady, Bool.and_eq_true, decide_eq_true_eq] at h
  obtain ⟨⟨⟨⟨-, hlt⟩, -⟩, -⟩, -⟩ := h
  exact hlt

namespace Kept

variable {s0 s : State}

/-! ### Records -/

theorem removeRecord (h : Kept s0 s) : Kept s0 (removeRecord s) :=
  h.same (by simp [watched, Machine.removeRecord])

theorem abandonContext (h : Kept s0 s) : Kept s0 (abandonContext s) := by
  unfold Machine.abandonContext
  dsimp only
  split
  · exact h.same rfl
  · exact h.same rfl
  · exact h.ofStore (abandonLoad_kept s.os) rfl
  · exact h.ofStore (abandonLoad_kept s.os) rfl

theorem refuse (code : ErrCode) (k : Keyword) (hroom : s.jl.reports.length < 16) (h : Kept s0 s) :
    Kept s0 (refuse code k s) := h.enterReport _ hroom

/-- A refusal that abandons the open context. -/
theorem refuseAbandoned (code : ErrCode) (k : Keyword) (hroom : s.jl.reports.length < 16) (h : Kept s0 s) :
    Kept s0 (Machine.refuse code k (Machine.abandonContext s)) :=
  h.abandonContext.refuse code k (by rwa [abandonContext_reports])

theorem closeIfCloser (k : Keyword) (h : Kept s0 s) : Kept s0 (closeIfCloser k s) :=
  ite (fun _ => h.abandonContext) fun _ => h

theorem refuseForm (code : ErrCode) (k : Keyword) (hroom : s.jl.reports.length < 16) (h : Kept s0 s) :
    Kept s0 (refuseForm code k s) :=
  (h.closeIfCloser k).refuse code k (by rwa [closeIfCloser_reports])

/-- A record command keeps what its owner keeps of a state with room for a reply (R14, R16). -/
theorem onRecord {α : Type} {k : Keyword} {form : List Param → FormCheck α} {owner : α → State → State}
    (howner : ∀ v s, s.jl.reports.length < 16 → Kept s0 s → Kept s0 (owner v s)) (h : Kept s0 s) :
    Kept s0 (onRecord k form owner s) := by
  by_cases hn : frontRest k s = none
  · rwa [onRecord_of_none hn]
  obtain ⟨rest, hr⟩ := Option.ne_none_iff_exists'.1 hn
  have hroom : (Machine.removeRecord s).jl.reports.length < 16 := by
    rw [removeRecord_reports]
    exact room_of_ready (ready_of_frontRest hr)
  obtain ⟨-, e⟩ | ⟨-, e⟩ | ⟨code, -, e⟩ | ⟨v, -, e⟩ := onRecord_cases k form owner s
  · rwa [e]
  · rw [e]; exact h.removeRecord.refuse _ _ hroom
  · rw [e]; exact h.removeRecord.refuseForm _ _ hroom
  · rw [e]; exact howner v _ hroom h.removeRecord

/-! ### The object store's and the format compiler's records -/

theorem takeObj (f : ObjForm) (hroom : s.jl.reports.length < 16) (h : Kept s0 s) : Kept s0 (takeObj f s) := by
  unfold Machine.takeObj
  split
  · exact h.refuse _ _ hroom
  · split
    · exact h.refuse _ _ hroom
    · exact h.ofStore (setEntry_kept fun e he hl => by cases he; cases hl) rfl

theorem takeBlk (bytes : List Byte) (hroom : s.jl.reports.length < 16) (h : Kept s0 s) : Kept s0 (takeBlk bytes s) := by
  unfold Machine.takeBlk
  split
  · exact h
  · rename_i i e hload
    split
    · exact h.refuseAbandoned _ _ hroom
    · split
      · exact h.refuseAbandoned _ _ hroom
      · rename_i os happ
        exact h.ofStore (appendBytes_kept (by simp [(loadingEntry_some hload).2]) happ) rfl

theorem takeEob (u : Unit) (hroom : s.jl.reports.length < 16) (h : Kept s0 s) : Kept s0 (takeEob u s) := by
  unfold Machine.takeEob
  split
  · exact h.same rfl
  · rename_i i e hload
    obtain ⟨he, hst⟩ := loadingEntry_some hload
    exact ite (fun _ => h.refuseAbandoned _ _ hroom) fun _ =>
      ite (fun _ => h.ofStore (completeLoad_kept he (by simp [hst])) rfl) fun _ => h.refuseAbandoned _ _ hroom

theorem takeDel (name : Text) (hroom : s.jl.reports.length < 16) (h : Kept s0 s) : Kept s0 (takeDel name s) := by
  unfold Machine.takeDel
  split
  · exact h.ofStore retireEntry_kept rfl
  · exact ite (fun _ => h.refuse _ _ hroom) fun _ => h.refuse _ _ hroom

theorem takeFmt (f : FmtForm) (hroom : s.jl.reports.length < 16) (h : Kept s0 s) : Kept s0 (takeFmt f s) := by
  unfold Machine.takeFmt
  dsimp only
  split
  · exact h.refuse _ _ hroom
  · split
    · exact h.refuse _ _ hroom
    · refine h.ofStore ((setEntry_kept (i := _) (o := some (newEntry f.name .format 0)) fun e he hl => ?_).congr rfl rfl) rfl
      cases he
      cases hl

theorem takeField (k : Keyword) (build : Format → Option Field) (hroom : s.jl.reports.length < 16) (h : Kept s0 s) :
    Kept s0 (takeField k build s) := by
  unfold Machine.takeField
  split
  · rename_i d i e _ hload
    refine ite (fun _ => h.refuse _ _ hroom) fun _ => ?_
    split
    · exact h.refuse _ _ hroom
    · refine ite (fun _ => h.refuse _ _ hroom) fun _ => ?_
      dsimp only
      split
      · exact h.refuseAbandoned _ _ hroom
      · rename_i os happ
        exact h.ofStore ((appendBytes_kept (by simp [(loadingEntry_some hload).2]) happ).congr rfl rfl) rfl
  · exact h

theorem takeFend (u : Unit) (hroom : s.jl.reports.length < 16) (h : Kept s0 s) : Kept s0 (takeFend u s) := by
  unfold Machine.takeFend
  split
  · rename_i d i e _ hload
    obtain ⟨he, hst⟩ := loadingEntry_some hload
    split
    · exact h.refuseAbandoned _ _ hroom
    · rename_i os happ
      have hos : StoreKept s.os os := appendBytes_kept (by simp [hst]) happ
      split
      · rename_i e' he'
        obtain ⟨e2, hram, hst2, -⟩ := appendBytes_ram happ
        have hee : e' = e2 := by
          have hi := ramEntry_lt he'
          simpa [ramEntry, hram, Vector.getElem?_eq_getElem hi, eq_comm] using he'
        exact h.ofStore (hos.trans (completeLoad_kept he' (by simp [hee, hst2, hst]))) rfl
      · exact h.ofStore hos rfl
  · exact h.same rfl

/-! ### Counters, jobs and settings -/

theorem ofCounters {t : State} (h : Kept s0 s) (hcb : legalCounters s.cb → legalCounters t.cb)
    (e : watched t = { watched s with cb := t.cb }) : Kept s0 t := by
  refine h.trans ?_
  unfold Kept
  rw [e]
  exact ⟨id, id, .refl _, hcb, id, id, rfl, rfl⟩

theorem takeCtr (f : CtrForm) (hroom : s.jl.reports.length < 16) (h : Kept s0 s) : Kept s0 (takeCtr f s) := by
  unfold Machine.takeCtr
  split
  · exact h.refuse _ _ hroom
  · rename_i hok
    exact h.ofCounters (fun hl => hl.set (programCounter_legal (by simpa using hok))) rfl

theorem takeJob (f : JobForm) (hroom : s.jl.reports.length < 16) (h : Kept s0 s) : Kept s0 (takeJob f s) :=
  ite (fun _ => h.refuse _ _ hroom) fun _ => ite (fun _ => h.refuse _ _ hroom) fun _ =>
    ite (fun _ => h.refuse _ _ hroom) fun _ => h.same rfl

theorem takeDat (f : Int × Text) (hroom : s.jl.reports.length < 16) (h : Kept s0 s) : Kept s0 (takeDat f s) :=
  ite (fun _ => h.refuse _ _ hroom) fun _ => ite (fun _ => h.refuse _ _ hroom) fun _ => h.same rfl

theorem acceptJob (j : Job) (h : Kept s0 s) : Kept s0 (acceptJob j s) :=
  h.ofStore (.foldl takeRef_kept _ _) rfl

theorem takeEoj (u : Unit) (hroom : s.jl.reports.length < 16) (h : Kept s0 s) : Kept s0 (takeEoj u s) := by
  unfold Machine.takeEoj
  split
  · exact h.same rfl
  · split
    · exact h.refuseAbandoned _ _ hroom
    · split
      · exact h.refuseAbandoned _ _ hroom
      · exact bindEvent (acceptJob _ (h.same rfl))

theorem withdrawAll (tag : Nat) (copies : List Copy) (h : Kept s0 s) : Kept s0 (withdrawAll tag copies s) :=
  h.trans (foldl (fun s _ => (refl s).withdrawCopy _) copies s)

theorem takeCan (tag : Int) (hroom : s.jl.reports.length < 16) (h : Kept s0 s) : Kept s0 (takeCan tag s) := by
  unfold Machine.takeCan
  split
  · exact h.refuse _ _ hroom
  · split
    · exact h.refuse _ _ hroom
    · exact ((h.withdrawAll _ _).offerDone _).testLabelStart

theorem discardJobs (h : Kept s0 s) : Kept s0 (discardJobs s) := h.ofStore (.foldl releaseJob_kept _ _) rfl

theorem performAbort (h : Kept s0 s) : Kept s0 (performAbort s) := stopLabel (h.discardJobs.same rfl)

theorem takeAbort (u : Unit) (hroom : s.jl.reports.length < 16) (h : Kept s0 s) : Kept s0 (takeAbort u s) :=
  (h.abandonContext.enterReport _ (by rwa [abandonContext_reports])).performAbort

theorem ofSettings {t : State} (h : Kept s0 s) (hss : legalSettings s.ss.settings → legalSettings t.ss.settings)
    (e : watched t = { watched s with settings := t.ss.settings }) : Kept s0 t := by
  refine h.trans ?_
  unfold Kept
  rw [e]
  exact ⟨id, id, .refl _, id, hss, id, rfl, rfl⟩

theorem handOver (before : State) (h : Kept s0 s) : Kept s0 (handOver before s) := by
  have hidle : Kept s0 (if s.ss.settings.idle = before.ss.settings.idle then s
      else restartIdleTimer s.ss.settings.idle s) := ite (fun _ => h) fun _ => h.same rfl
  have hrefresh : ∀ (s : State) k, Kept s (refreshReported before k s) := fun s k =>
    ite (fun _ => (refl s).reported k false) fun _ => refl s
  have hrate := requestRate s.ss.settings.rate hidle.takeGeometry
  have hnotices := (hrate.trans (foldl hrefresh FaultKind.all _)).offerNotices
  exact ite (fun _ => hnotices) fun _ => hnotices.testLabelStart

theorem takeSet (items : List SetItem) (hroom : s.jl.reports.length < 16) (h : Kept s0 s) : Kept s0 (takeSet items s) :=
  ite (fun _ => h.refuse _ _ hroom) fun _ => handOver s (h.ofSettings (writeItems_legal items) rfl)

theorem takeSave (u : Unit) (hroom : s.jl.reports.length < 16) (h : Kept s0 s) : Kept s0 (takeSave u s) :=
  ite (fun _ => h.refuse _ _ hroom) fun _ => h.same rfl

theorem fillSettings (h : Kept s0 s) : Kept s0 (fillSettings s) := by
  unfold Machine.fillSettings
  split
  · rename_i x cb hload
    obtain ⟨hx, hcb⟩ := loadedImage_legal hload
    exact h.trans ⟨id, id, .refl _, fun _ => hcb, fun _ => hx, id, rfl, rfl⟩
  · exact h.trans ⟨id, id, .refl _, fun _ => defaultCounters_legal, fun _ => defaultSettings_legal, id, rfl, rfl⟩

theorem reloadSettings (h : Kept s0 s) : Kept s0 (reloadSettings s) := by
  have hstu : Kept s0 { Machine.fillSettings s with
      stu := (Machine.fillSettings s).stu.load (Machine.fillSettings s).ss.settings.energy } :=
    h.fillSettings.same rfl
  refine ite (fun _ => ?_) fun _ => hstu
  exact (hstu.setFault (k := .settingsLost) (p := (Machine.fillSettings s).pe.pause)
    (fun _ => ⟨fun _ => rfl, fun _ => rfl⟩) (fun _ x hx => by cases hx) fun _ _ => rfl).same rfl

theorem reloadAfterReset (h : Kept s0 s) : Kept s0 (reloadAfterReset s) :=
  offerNotices (offerOther (fun _ => rfl) (requestRate _ (reloadSettings (h.same rfl))))

theorem completeWrite (h : Kept s0 s) : Kept s0 (completeWrite s) :=
  ite (fun _ => reloadAfterReset (h.same rfl)) fun _ => h.same rfl

theorem clearAllFaults (h : Kept s0 s) : Kept s0 (clearAllFaults s) :=
  h.trans ⟨id, id, .refl _, id, id, fun _ => .clear fun k r hr => by cases k <;> cases hr <;> rfl, rfl, rfl⟩

theorem presentArrived (h : Kept s0 s) : Kept s0 (presentArrived s) := by
  unfold Machine.presentArrived
  split
  · exact ite (fun _ => h.present _) fun _ => h
  · exact h

theorem takeReset (u : Unit) (h : Kept s0 s) : Kept s0 (takeReset u s) := by
  have habort : Kept s0 (Machine.performAbort (headReset s)) := performAbort (h.same rfl)
  have hclear := resumeIfEmptied s (clearAllFaults habort.portOff).presentArrived
  exact ite (fun _ => hclear.same rfl) fun _ => hclear.reloadAfterReset

theorem takeCal (u : Unit) (hroom : s.jl.reports.length < 16) (h : Kept s0 s) : Kept s0 (takeCal u s) :=
  ite (fun _ => ite (fun _ => h.contCalibrate.testLabelStart) fun _ => h.same rfl) fun _ => h.refuse _ _ hroom

theorem clearHeadFault (h : Kept s0 s) : Kept s0 (clearHeadFault s) :=
  ite (fun _ => (clearStop (k := .headFault) (r := .headFault) rfl h).same rfl) fun _ => h

theorem takeClr (level : SensorLevel) (h : Kept s0 s) : Kept s0 (takeClr level s) :=
  resumeIfEmptied s (h.readSensorForMediaOut level).clearHeadFault.offerNotices

theorem clearByStat (h : Kept s0 s) : Kept s0 (clearByStat s) := by
  refine h.trans (foldl (fun s k => ite (fun hc => ?_) fun _ => refl s) _ s)
  have hk : stopReason k = none := by
    cases k <;> first | rfl | simp [clearedByStat, FaultKind.group] at hc
  exact (refl s).clearFlags hk

theorem takeStat (u : Unit) (hroom : s.jl.reports.length < 16) (h : Kept s0 s) : Kept s0 (takeStat u s) :=
  (h.enterReport _ hroom).clearByStat.offerNotices

theorem takeLine (on : Bool) (h : Kept s0 s) : Kept s0 (takeLine on s) :=
  ite (fun _ => h) fun _ => ite (fun _ => h.portOn) fun _ => (removeReason stopReason_line h.portOff).testLabelStart

theorem takeDamaged (hroom : s.jl.reports.length < 16) (h : Kept s0 s) : Kept s0 (takeDamaged s) := by
  refine raiseFault rfl (enterReport _ ?_ h.removeRecord.abandonContext)
  rwa [abandonContext_reports, removeRecord_reports]

theorem takeUnknown (kw : Option Text) (hroom : s.jl.reports.length < 16) (h : Kept s0 s) : Kept s0 (takeUnknown kw s) := by
  unfold Machine.takeUnknown
  dsimp only
  split
  · exact (h.removeRecord.closeIfCloser _).enterReport _ (by rwa [closeIfCloser_reports, removeRecord_reports])
  · exact h.removeRecord.enterReport _ (by rwa [removeRecord_reports])

/-! ### Events -/

theorem completeSample (reading : Int) (h : Kept s0 s) : Kept s0 (completeSample reading s) := by
  have hhot : ∀ {s : State}, Kept s0 s → Kept s0 (followHot s) := fun {s} h =>
    ite (fun _ => ite (fun _ => h) fun _ => raiseStop (k := .headHot) rfl h) fun _ => clearStop (k := .headHot) rfl h
  have hwarm : ∀ {s : State}, Kept s0 s → Kept s0 (followWarm s) := fun {s} h =>
    ite (fun _ => ite (fun _ => h) fun _ => h.raiseFlags rfl) fun _ => h.endCondition rfl
  exact resumeIfEmptied s (offerNotices
    (ite (fun _ => endCondition rfl (hwarm (hhot (h.same rfl)))) fun _ => raiseFlags rfl (h.same rfl)))

theorem completeSettle (h : Kept s0 s) : Kept s0 (completeSettle s) :=
  ite (fun _ => h.same (by simp [watched])) fun _ => ite (fun _ => decideBoundary (h.same rfl)) fun _ => h.same rfl

theorem compareReadback (readback : Dots) (h : Kept s0 s) : Kept s0 (compareReadback readback s) :=
  h.same (by simp [watched])

theorem completeShift (readback : Dots) (h : Kept s0 s) : Kept s0 (completeShift readback s) := by
  unfold Machine.completeShift
  split
  · exact h
  · split
    · exact h
    · exact (h.compareReadback readback).same rfl

theorem completeStrobe (h : Kept s0 s) : Kept s0 (completeStrobe s) := by
  unfold Machine.completeStrobe
  split
  · exact h
  · exact ite (fun _ => h) fun _ => ite (fun _ => h.same (watched_beginClosing _)) fun _ => h.same rfl

theorem completeClosing (readback : Dots) (h : Kept s0 s) : Kept s0 (completeClosing readback s) := by
  have hclosed : Kept s0 { Machine.compareReadback readback s with hi := { (Machine.compareReadback readback s).hi with
      closing := false, lastMask := 0, owed := false
      verdict := some (Machine.compareReadback readback s).hi.defect } } := (h.compareReadback readback).same rfl
  unfold Machine.completeClosing
  dsimp only
  split
  · exact ite (fun _ => hclosed.present _) fun _ => hclosed
  · exact hclosed

theorem completeBackfeed (h : Kept s0 s) : Kept s0 (completeBackfeed s) := by
  unfold Machine.completeBackfeed
  split
  · exact h
  · exact decideBoundary (h.same rfl)

theorem releasePrinted (l : LabelContext) (h : Kept s0 s) : Kept s0 (releasePrinted l s) :=
  ite (fun _ => h.same (by simp)) fun _ => ite (fun _ => h.same (by simp)) fun _ => h

theorem completeLine (level : SensorLevel) (l : LabelContext) (h : Kept s0 s) : Kept s0 (completeLine level l s) := by
  have hstep := guardedStep (s0 := s0) level
    (s := { s with hi := { s.hi with line := none }, pe := { s.pe with stepTime := 0 } }) (h.same rfl)
  have hadvanced := (hstep.releasePrinted l).same (t := advanceLine _) rfl
  exact ite (fun _ => hadvanced) fun _ => hadvanced.decideBoundary

theorem calibrationStep (level : SensorLevel) (c : Calibration) (h : Kept s0 s) :
    Kept s0 (calibrationStep level c s) := by
  unfold Machine.calibrationStep
  dsimp only
  split
  · exact testLabelStart (failCalibration _ (h.same rfl))
  · exact h.same rfl
  · exact h.same rfl

theorem feedOutStep (level : SensorLevel) (l : LabelContext) (h : Kept s0 s) : Kept s0 (feedOutStep level l s) := by
  have hstep := h.guardedStep level
  unfold Machine.feedOutStep
  dsimp only
  split
  · exact ite (fun _ => hstep.completeFeedOut _) fun _ => hstep
  · exact hstep

theorem feedMoveStep (level : SensorLevel) (n : Int) (h : Kept s0 s) : Kept s0 (feedMoveStep level n s) :=
  ite (fun _ => (h.guardedStep level).testLabelStart) fun _ =>
    ite (fun _ => (h.guardedStep level).endFeedMove) fun _ => h.guardedStep level

theorem moveStep (level : SensorLevel) (h : Kept s0 s) : Kept s0 (moveStep level s) := by
  unfold Machine.moveStep
  split
  · split
    · exact ite (fun _ => h) fun _ => h.calibrationStep _ _
    · exact h
  · split
    · exact ite (fun _ => h) fun _ => h.feedOutStep _ _
    · exact ite (fun _ => h) fun _ => h.feedMoveStep _ _
    · exact h
  all_goals exact h

theorem feedFirstPart (level : SensorLevel) (h : Kept s0 s) : Kept s0 (feedFirstPart level s) :=
  resumeIfEmptied s (h.readSensorForMediaOut level).offerNotices

theorem feedSecondPart (h : Kept s0 s) : Kept s0 (feedSecondPart s) := by
  unfold Machine.feedSecondPart
  repeat' split
  exacts [h.startFeedMove, h.contCalibrate.testLabelStart, h.same rfl, h, h]

theorem endStarvation (id : CopyId) (h : Kept s0 s) : Kept s0 (endStarvation id s) :=
  ite (fun _ => h.decideBoundary) fun _ => h

theorem completeFill (c : RenderContext) (b : Nat) (h : Kept s0 s) : Kept s0 (completeFill c b s) :=
  testLabelStart (endStarvation _ (ite (fun _ => h.same rfl) fun _ => h.same (watched_allocateBand _ _)))

theorem failValidation (id : CopyId) (h : Kept s0 s) : Kept s0 (failValidation id s) :=
  testLabelStart (offerDone _ (h.endCopy _ _))

theorem validateCopy (j : Job) (id : CopyId) (h : Kept s0 s) : Kept s0 (validateCopy j id s) := by
  unfold Machine.validateCopy
  split
  · exact h.failValidation id
  · split
    · exact h.failValidation id
    · rename_i read cb hserve
      have hcb : Kept s0 (recordSerial id.tag read { s with cb := cb }) := by
        refine (h.ofCounters (t := { s with cb := cb }) (fun hl => serveCounters_legal hl hserve) rfl).same ?_
        unfold recordSerial
        split <;> rfl
      dsimp only
      split
      · exact hcb.failValidation id
      · exact hcb.same (by simp)

theorem beginCopy (h : Kept s0 s) : Kept s0 (beginCopy s) := by
  unfold Machine.beginCopy
  split
  · exact h
  · split
    · exact h
    · exact validateCopy _ _ (h.same rfl)

theorem triggerRises (k : ParcelKind) (h : Kept s0 s) : Kept s0 (triggerRises k s) := by
  refine ite (fun _ => ?_) fun _ => h
  split
  · exact h.same rfl
  · exact ite (fun _ => h) fun _ => raiseFault rfl (h.same rfl)

theorem holdChanges (rising : Bool) (h : Kept s0 s) : Kept s0 (holdChanges rising s) :=
  ite (fun _ => ite (fun _ => h.addReason stopReason_line) fun _ => h.removeReason stopReason_line) fun _ => h

theorem expireApplyWait (w : ApplyWait) (h : Kept s0 s) : Kept s0 (expireApplyWait w s) :=
  offerDone _ (endApplyWait _ _ ((h.raiseFault rfl).same (watched_spoilPresented _)))

theorem takenRises (h : Kept s0 s) : Kept s0 (takenRises s) := by
  unfold Machine.takenRises takenPresented
  split
  · exact removePresented (offerDone _ (endApplyWait _ _ (ite (fun _ => h) fun _ => h.same rfl)))
  · split
    · split
      · exact ((h.wastePresented _).offerDone _).removePresented
      · exact h.removePresented
      · exact h.removePresented
    · exact h.raiseFault rfl

theorem cutWrite (h : Kept s0 s) : Kept s0 (cutWrite s) := ite (fun _ => h.same rfl) fun _ => h

theorem completeLoading (h : Kept s0 s) : Kept s0 (completeLoading s) := by
  have hload := takeGeometry (reloadSettings (s0 := s0) (s := { s with ss := { s.ss with start := .startRdy } })
    (h.same rfl))
  exact offerNotices (offerOther (fun _ => rfl) (hload.same (by simp [watched])))

theorem receiveCharacter (c : Byte) (good : Bool) (h : Kept s0 s) :
    Kept s0 { s with jl := receiveCharacter c good s.jl } := by
  obtain ⟨hr, hw⟩ := receiveCharacter_reports c good s.jl
  exact h.same (by simp [watched, hr, hw])

theorem characterDone (h : Kept s0 s) : Kept s0 (characterDone s) := by
  have hsent : Kept s0 { s with jl := { s.jl with sending := false, sent := s.jl.sent + 1 } } := h.same rfl
  unfold Machine.characterDone
  dsimp only
  split
  · refine beginCharacter ?_
    split
    · exact hsent.leaveReport
    · exact hsent
  · exact hsent

end Kept

/-! ### Every command -/

/-- An outcome whose next state, if it has one, keeps what every command keeps. -/
def KeepsAll (s : State) (r : Result) : Prop := ∀ t, r = .next t → Kept s t

theorem KeepsAll.next {s t : State} (h : Kept s t) : KeepsAll s (.next t) := by
  rintro _ ⟨⟩
  exact h

theorem KeepsAll.inEvent {s : State} {p : Bool} {f : State → State} (hf : ∀ t, Kept s t → Kept s (f t)) :
    KeepsAll s (inEvent p f s) :=
  .next (Kept.ite (fun _ => hf _ (Kept.refl s).takeGeometry) fun _ => .refl s)

theorem KeepsAll.record {s : State} {α : Type} {k : Keyword} {form : List Param → FormCheck α}
    {owner : α → State → State}
    (howner : ∀ v t, t.jl.reports.length < 16 → Kept s t → Kept s (owner v t)) :
    KeepsAll s (.next (onRecord k form owner s)) :=
  .next ((Kept.refl s).onRecord howner)

/-- Every command but POWER_ON keeps what `Kept` collects. -/
theorem exec_keepsAll {i : Instr} (hi : i ≠ .powerOn) (s : State) : KeepsAll s (exec i s) := by
  have hself := Kept.refl s
  cases i with
  | powerOn => exact absurd rfl hi
  | loadCompletion => exact .inEvent fun _ h => h.completeLoading
  | characterReceived c stopBit => exact .inEvent fun _ h => h.receiveCharacter c stopBit
  | hrdyRise =>
    exact .next (Kept.ite (fun _ => Kept.beginCharacter (Kept.takeGeometry (hself.same rfl))) fun _ => hself.same rfl)
  | characterSent => exact .inEvent fun _ h => h.characterDone
  | damagedRecord =>
    refine .next ?_
    split
    · rename_i r hr
      refine Kept.ite (fun _ => hself.takeDamaged (room_of_ready ?_)) fun _ => hself
      by_contra hn
      simp [frontRecord, hn] at hr
    · exact hself
  | unknownRecord =>
    refine .next ?_
    split
    · rename_i r hr
      refine Kept.ite (fun _ => hself) fun _ => ?_
      split
      · refine hself.takeUnknown _ (room_of_ready ?_)
        by_contra hn
        simp [frontRecord, hn] at hr
      · exact hself
    · exact hself
  | obj => exact .record fun f _ hr h => h.takeObj f hr
  | blk => exact .record fun b _ hr h => h.takeBlk b hr
  | eob => exact .record fun u _ hr h => h.takeEob u hr
  | del => exact .record fun n _ hr h => h.takeDel n hr
  | fmt => exact .record fun f _ hr h => h.takeFmt f hr
  | txt => exact .record fun _ _ hr h => h.takeField _ _ hr
  | bar => exact .record fun _ _ hr h => h.takeField _ _ hr
  | box => exact .record fun _ _ hr h => h.takeField _ _ hr
  | img => exact .record fun _ _ hr h => h.takeField _ _ hr
  | fend => exact .record fun u _ hr h => h.takeFend u hr
  | ctr => exact .record fun f _ hr h => h.takeCtr f hr
  | job => exact .record fun f _ hr h => h.takeJob f hr
  | dat => exact .record fun f _ hr h => h.takeDat f hr
  | eoj => exact .record fun u _ hr h => h.takeEoj u hr
  | can => exact .record fun n _ hr h => h.takeCan n hr
  | abort => exact .record fun u _ hr h => h.takeAbort u hr
  | set => exact .record fun x _ hr h => h.takeSet x hr
  | save => exact .record fun u _ hr h => h.takeSave u hr
  | writeCompletion => exact .inEvent fun _ h => h.completeWrite
  | reset => exact .record fun u _ _ h => h.takeReset u
  | cal => exact .record fun u _ hr h => h.takeCal u hr
  | pause => exact .record fun _ _ _ h => h.addReason Kept.stopReason_host
  | go => exact .record fun _ _ _ h => h.removeReason Kept.stopReason_host
  | lineOn => exact .next (Kept.ite (fun _ => hself) fun _ => hself.onRecord fun on _ _ h => h.takeLine on)
  | lineOff => exact .next (Kept.ite (fun _ => hself) fun _ => hself.onRecord fun on _ _ h => h.takeLine on)
  | clr level => exact .record fun _ _ _ h => h.takeClr level
  | stat => exact .record fun u _ hr h => h.takeStat u hr
  | beginCopy => exact .inEvent fun _ h => h.beginCopy
  | fillCompletion =>
    show KeepsAll s (execFillCompletion s)
    unfold execFillCompletion
    refine .inEvent fun t h => ?_
    split
    · split
      · exact h.completeFill _ _
      · exact h
    · exact h
  | waitBandAllocation =>
    show KeepsAll s (execWaitBandAllocation s)
    unfold execWaitBandAllocation
    refine .inEvent fun t h => ?_
    split
    · exact h.same (by simp)
    · exact h
  | settleCompletion => exact .inEvent fun _ h => h.completeSettle
  | idleTimerExpiry =>
    show KeepsAll s (execIdleTimerExpiry s)
    unfold execIdleTimerExpiry
    exact .inEvent fun _ h => h.same rfl
  | backfeedCompletion => exact .inEvent fun _ h => h.completeBackfeed
  | shiftCompletion readback => exact .inEvent fun _ h => h.completeShift readback
  | strobeCompletion => exact .inEvent fun _ h => h.completeStrobe
  | closingCompletion readback => exact .inEvent fun _ h => h.completeClosing readback
  | lineCompletion level =>
    show KeepsAll s (execLineCompletion level s)
    unfold execLineCompletion
    refine .inEvent fun t h => ?_
    split
    · exact h.completeLine _ _
    · exact h
  | mediaStep level => exact .inEvent fun _ h => h.moveStep level
  | calibrationSuccess =>
    show KeepsAll s (execCalibrationSuccess s)
    unfold execCalibrationSuccess
    refine .inEvent fun t h => ?_
    split
    · refine Kept.ite (fun _ => ?_) fun _ => h
      split
      · exact (h.succeedCalibration _ _ _).testLabelStart
      · exact h
      · exact h
    · exact h
  | feedOutCompletion =>
    show KeepsAll s (execFeedOutCompletion s)
    unfold execFeedOutCompletion
    refine .inEvent fun t h => ?_
    split
    · exact Kept.ite (fun _ => h.completeFeedOut _) fun _ => h
    · exact h
  | feedMoveCompletion =>
    show KeepsAll s (execFeedMoveCompletion s)
    unfold execFeedMoveCompletion
    refine .inEvent fun t h => ?_
    split
    · exact Kept.ite (fun _ => h.endFeedMove) fun _ => h
    · exact h
  | sampleCompletion reading => exact .inEvent fun _ h => h.completeSample reading
  | feedKey level => exact .inEvent fun _ h => (h.feedFirstPart level).feedSecondPart
  | pauseKey =>
    exact .inEvent fun _ h => Kept.ite (fun _ => h.removeReason Kept.stopReason_panel) fun _ => h.addReason Kept.stopReason_panel
  | triggerEdge input =>
    simp only [exec, execTriggerEdge]
    split
    · rintro _ ⟨⟩
    · exact .inEvent fun _ h => Kept.triggerRises _ (h.same rfl)
  | conflictWindowExpiry =>
    show KeepsAll s (execConflictWindowExpiry s)
    unfold execConflictWindowExpiry
    refine .inEvent fun t h => ?_
    split
    · exact Kept.takeTrigger _ (h.same rfl)
    · exact h
  | holdEdge rising =>
    show KeepsAll s (execHoldEdge rising s)
    unfold execHoldEdge
    exact .inEvent fun t h => Kept.holdChanges rising (s := setLevel .hold rising t) (h.same rfl)
  | encPulse =>
    exact .inEvent fun _ h => (Kept.testLabelStart (Kept.handleApplyPoints _ (h.same rfl)) : Kept s (conveyorStep _))
  | pulseBegin output =>
    simp only [exec, execPulseBegin]
    split
    · rintro _ ⟨⟩
    · exact .inEvent fun _ h => h.same rfl
  | pulseEnd output =>
    simp only [exec, execPulseEnd]
    split
    · rintro _ ⟨⟩
    · exact .inEvent fun _ h => h.same rfl
  | applyWaitExpiry =>
    show KeepsAll s (execApplyWaitExpiry s)
    unfold execApplyWaitExpiry
    refine .inEvent fun t h => ?_
    split
    · exact h.expireApplyWait _
    · exact h
  | taken =>
    show KeepsAll s (execTaken s)
    unfold execTaken
    exact .inEvent fun t h => Kept.takenRises (s := setLevel .taken true t) (h.same rfl)
  | hrdyFall =>
    refine .next (Kept.same (s := if s.powered then takeGeometry s else s) ?_ ?_)
    · exact Kept.ite (fun _ => hself.takeGeometry) fun _ => hself
    · by_cases hp : s.powered = true <;> simp [watched, hp]
  | fallingEdge input =>
    simp only [exec, execFallingEdge]
    split
    · exact .inEvent fun _ h => h.same rfl
    · rintro _ ⟨⟩
  | powerLoss => exact .next (Kept.ite (fun _ => hself.cutWrite.same rfl) fun _ => hself)

/-! ### POWER_ON -/

theorem liveNamesOnce_of_empty {os : ObjectStore} (h : ∀ i, ramEntry os i = none) : liveNamesOnce os := by
  intro i j e f he
  simp [h i] at he

theorem ramEntry_reset (i : Nat) : ramEntry State.reset.os i = none := by
  have hram : State.reset.os.ram = Vector.replicate 48 none := rfl
  rw [ramEntry, hram, Vector.getElem?_replicate]
  split <;> rfl

theorem reset_flagsSound : FlagsSound (Vector.replicate 15 clearFault) {} :=
  .clear fun _ r _ => by cases r <;> rfl

/-- A property that every command keeps, where it holds right after POWER_ON and what `Kept` collects keeps it. -/
theorem kept_of_exec {P : State → Prop} (hkept : ∀ s t, Kept s t → P s → P t) (hpower : ∀ s, P (powerUp s))
    {i : Instr} {s t : State} (hs : P s) (h : exec i s = .next t) : P t := by
  by_cases hi : i = .powerOn
  · subst hi
    cases h
    exact hpower _
  · exact hkept s t (exec_keepsAll hi s t h) hs

/-! ### The invariants -/

/-- Settles O12: no operation of a command but the reply to a record enters a report without looking for room, and a
record is taken only where there is room. -/
theorem reportQueueStaysBounded : Obligations.ReportQueueStaysBounded := fun _ _ _ =>
  kept_of_exec (P := fun s => s.jl.reports.length ≤ 16) (fun _ _ hk => hk.reports) fun _ => Nat.zero_le _

/-- Settles O13: a notice joins the waiting list only where none of its kind waits. -/
theorem oneNoticeOfAKindWaits : Obligations.OneNoticeOfAKindWaits := fun _ _ _ =>
  kept_of_exec (P := oneNoticeEach) (fun _ _ hk => hk.notices) fun _ _ => Nat.zero_le _

/-- Settles O22: bytes are written by BLK, the field records and FEND alone, each at its place among the addresses. -/
theorem blockStoreStaysCanonical : Obligations.BlockStoreStaysCanonical := fun _ _ _ =>
  kept_of_exec (P := fun s => Memory.wf s.os.blocks = true) (fun _ _ hk => hk.store.blocks) fun _ => rfl

/-- Settles O23: an entry becomes LIVE only at EOB and FEND, which take the name from the entry that had it. -/
theorem liveNamesStayUnique : Obligations.LiveNamesStayUnique := fun _ _ _ =>
  kept_of_exec (P := fun s => liveNamesOnce s.os) (fun _ _ hk => hk.store.names)
    fun _ => liveNamesOnce_of_empty ramEntry_reset

/-- Settles O28: CTR, SET and a load write legal values alone, and a step keeps a legal counter legal. -/
theorem countersAndSettingsStayLegal : Obligations.CountersAndSettingsStayLegal := fun _ _ _ hcb hss =>
  kept_of_exec (P := fun s => legalCounters s.cb ∧ legalSettings s.ss.settings)
    (fun _ _ hk h => ⟨hk.counters h.1, hk.settings h.2⟩) (fun _ => ⟨defaultCounters_legal, defaultSettings_legal⟩)
    ⟨hcb, hss⟩

/-- Settles O57: every change of a fault record leaves it one that R191 allows, and a STOP kind changes with its
reason. -/
theorem faultsAndReasonsStayCoherent : Obligations.FaultsAndReasonsStayCoherent := fun _ _ _ hflags hstops =>
  kept_of_exec (P := fun s => flagsCoherent s ∧ stopsPause s)
    (fun s t hk h => (flagsSound_iff t).1 (hk.flags ((flagsSound_iff s).2 h)))
    (fun s => (flagsSound_iff (powerUp s)).1 reset_flagsSound) ⟨hflags, hstops⟩

/-- Settles O2: what every command keeps covers the queue and the count; POWER_ON takes the queue over. -/
theorem commandsLeaveQueueAlone : Obligations.CommandsLeaveQueueAlone := by
  intro i s t h
  by_cases hi : i = .powerOn
  · subst hi
    cases h
    refine ⟨?_, fun hn => absurd rfl hn⟩
    show (if s.powered then cutWrite s else s).pending = s.pending
    unfold cutWrite
    (repeat' split) <;> rfl
  · have hk := exec_keepsAll hi s t h
    exact ⟨hk.pending, fun _ => hk.fresh⟩

/-- Settles O24: every property of `Kept` at reset, and the directory of R23. -/
theorem keptPropertiesHoldAtReset : Obligations.KeptPropertiesHoldAtReset := by
  obtain ⟨hflags, hstops⟩ := (flagsSound_iff State.reset).1 reset_flagsSound
  refine ⟨rfl, liveNamesOnce_of_empty ramEntry_reset, defaultCounters_legal, defaultSettings_legal, Nat.zero_le _,
    fun _ => Nat.zero_le _, hflags, hstops, rfl, fun f => ⟨?_, ?_⟩, fun i => ?_⟩
  · rw [directoryEntry_rom]
    cases f <;> rfl
  · unfold shadowed
    cases hlive : liveEntry State.reset.os f.name with
    | none => rfl
    | some p =>
      obtain ⟨he, -⟩ := findEntry_some hlive
      rw [ramEntry_reset] at he
      cases he
  · rw [directoryEntry, ramEntry_reset]
    rfl

end Sys2Proof.Machine
end

section
/-!
No line begins while a pause reason is present (R159, R168).

A line begins in `beginLine` alone, which `decideBoundary` calls with the pause set empty and which leaves the engine
PRINTING with a line in progress. `Still` says that the event so far has begun no line; `Quiet` that it has begun none,
or that it stands as `beginLine` left it: no operation that an event makes after it adds a reason to such a state.
-/
namespace Sys2Proof.Machine

/-- The line in progress, where no mask of it was shifted and it was not strobed, is the old one. -/
def Still (old : Option LineStrobe) (t : State) : Prop :=
  ∀ l, t.hi.line = some l → l.shifted = 0 → l.strobed = false → old = some l

/-- No line was begun, or one was, with no pause reason present. -/
def Quiet (old : Option LineStrobe) (t : State) : Prop :=
  Still old t ∨ (t.hi.line.isSome = true ∧ t.pe.pause.isEmpty = true ∧ t.pe.engine = .printing)

variable {old : Option LineStrobe} {s t : State}

theorem Still.quiet (h : Still old s) : Quiet old s := .inl h

theorem Still.line (h : Still old s) (e : t.hi.line = s.hi.line) : Still old t := by
  unfold Still
  rwa [e]

/-- An operation that leaves the line, the pause set and the engine's state alone. -/
theorem Quiet.same (h : Quiet old s) (hl : t.hi.line = s.hi.line) (hp : t.pe.pause = s.pe.pause)
    (he : t.pe.engine = s.pe.engine) : Quiet old t := by
  unfold Quiet Still
  rw [hl, hp, he]
  exact h

theorem Quiet.ite {c : Prop} [Decidable c] {a b : State} (ha : c → Quiet old a) (hb : ¬ c → Quiet old b) :
    Quiet old (if c then a else b) := by
  split
  · exact ha ‹_›
  · exact hb ‹_›

theorem Still.ite {c : Prop} [Decidable c] {a b : State} (ha : c → Still old a) (hb : ¬ c → Still old b) :
    Still old (if c then a else b) := by
  split
  · exact ha ‹_›
  · exact hb ‹_›

/-- Where the engine does not print, no line was begun. -/
theorem Quiet.still (h : Quiet old s) (he : s.pe.engine ≠ .printing) : Still old s :=
  h.resolve_right fun ⟨_, _, hp⟩ => he hp

/-! ### Operations that leave the line in progress alone -/

@[simp] theorem line_enterIdle (s : State) : (enterIdle s).hi.line = s.hi.line := by
  unfold enterIdle startIdleTimer
  split <;> rfl

@[simp] theorem line_halt (s : State) : (halt s).hi.line = s.hi.line := rfl

@[simp] theorem line_compareReadback (readback : Dots) (s : State) :
    (compareReadback readback s).hi.line = s.hi.line := by
  unfold compareReadback
  split <;> simp

@[simp] theorem line_beginClosing (s : State) : (beginClosing s).hi.line = s.hi.line := by
  unfold beginClosing
  split <;> rfl

@[simp] theorem line_applyVerdict (s : State) : (applyVerdict s).hi.line = s.hi.line := by
  unfold applyVerdict
  dsimp only
  (repeat' split) <;> rfl

@[simp] theorem line_tripGuard (s : State) : (tripGuard s).hi.line = s.hi.line := by
  unfold tripGuard
  dsimp only
  split <;> simp

@[simp] theorem line_steppedState (level : SensorLevel) (s : State) : (steppedState level s).hi.line = s.hi.line := by
  unfold steppedState takeEdge takeCapture
  dsimp only
  (repeat' split) <;> rfl

@[simp] theorem line_guardedStep (level : SensorLevel) (s : State) : (guardedStep level s).1.hi.line = s.hi.line := by
  rw [guardedStep_eq]
  split <;> simp

@[simp] theorem line_presentCopy (copy : Option CopyId) (s : State) : (presentCopy copy s).1.hi.line = s.hi.line := by
  simp

@[simp] theorem line_present (l : LabelContext) (s : State) : (present l s).hi.line = s.hi.line := by
  simp [present]

@[simp] theorem line_completeFeedOut (l : LabelContext) (s : State) : (completeFeedOut l s).hi.line = s.hi.line := by
  unfold completeFeedOut
  split <;> simp

@[simp] theorem line_startFeedOut (l : LabelContext) (s : State) : (startFeedOut l s).hi.line = s.hi.line := by
  unfold startFeedOut
  dsimp only
  split <;> split <;> simp

@[simp] theorem line_freePrintingBand (s : State) : (freePrintingBand s).hi = s.hi := by
  simp

/-! ### Operations that can begin a line -/

theorem Still.decideBoundary (h : Still old s) : Quiet old (decideBoundary s) := by
  unfold Machine.decideBoundary
  split
  · exact h.quiet
  · refine .ite (fun _ => .ite (fun _ => .inl (h.line (by simp))) fun _ => .inl (h.line rfl)) fun _ =>
      .ite (fun _ => .inl (h.line (by simp))) fun _ => .ite (fun _ => .inl (h.line rfl)) fun hpause => ?_
    split
    · exact .inl (h.line rfl)
    · exact .ite (fun _ => .inl (h.line rfl)) fun _ => .inr ⟨rfl, show s.pe.pause.isEmpty = true by simpa using hpause, rfl⟩

/-- A stopped label begins no line. -/
theorem Still.decideBoundary_stopped (h : Still old s) (hstop : ∀ l, s.pe.label = some l → labelStopped s l = true) :
    Still old (Machine.decideBoundary s) := by
  unfold Machine.decideBoundary
  split
  · exact h
  · rename_i l hl
    rw [if_pos (hstop l hl)]
    split
    · exact h.line (by simp)
    · exact h.line rfl

/-- A line just begun is in progress, so that no boundary is decided. -/
theorem Quiet.stopLabel (h : Quiet old s) : Quiet old (stopLabel s) := by
  obtain h | ⟨hline, hpause, hengine⟩ := h
  · have hfreed : Still old (beginClosing (if lineInProgress s then s else freePrintingBand s)) := by
      refine h.line ?_
      rw [line_beginClosing]
      split <;> simp
    exact .ite (fun _ => hfreed.decideBoundary) fun _ => hfreed.quiet
  · have hprogress : lineInProgress s = true := hline
    have hat : atBoundary (beginClosing s) = false := by
      simp [atBoundary, lineInProgress, hline]
    unfold Machine.stopLabel
    simp only [hprogress, if_true, hat, Bool.false_eq_true, if_false]
    exact .inr ⟨by simpa using hline, by simpa using hpause, by simpa using hengine⟩

theorem Quiet.withdraw (id : CopyId) (h : Quiet old s) : Quiet old (withdraw id s) :=
  .ite (fun _ => h) fun _ => Quiet.stopLabel (h.same (by simp) (by simp) (by simp))

theorem Quiet.withdrawCopy (id : CopyId) (h : Quiet old s) : Quiet old (withdrawCopy id s) := by
  have hend : Quiet old (endUnprinted id .voided s) := h.same (by simp) (by simp [endUnprinted]; rfl) (by simp [endUnprinted]; rfl)
  unfold Machine.withdrawCopy
  split
  exacts [hend, hend, hend, h.withdraw id, h.same rfl rfl rfl, h, h, h]

theorem Still.startLabel (id : CopyId) (h : Still old s) : Quiet old (startLabel id s) := by
  unfold Machine.startLabel
  split
  · exact h.quiet
  · exact .ite (fun _ => .inl (h.line rfl)) fun _ => Still.decideBoundary (h.line rfl)

theorem Still.testLabelStart (h : Still old s) : Quiet old (testLabelStart s) := by
  unfold Machine.testLabelStart
  split
  · exact h.quiet
  · exact .ite (fun _ => h.startLabel _) fun _ => .ite (fun _ => h.quiet) fun _ =>
      .ite (fun _ => Still.startLabel _ (h.line (by simp))) fun _ => .inl (h.line rfl)

/-- The label start condition does not hold of an engine that prints (R156). -/
theorem Quiet.testLabelStart (h : Quiet old s) : Quiet old (testLabelStart s) := by
  by_cases he : s.pe.engine = .printing
  · rwa [testLabelStart_of_busy (by simp [he])]
  · exact (h.still he).testLabelStart

theorem Still.resumeIfEmptied (before : State) (h : Still old s) : Quiet old (resumeIfEmptied before s) := by
  refine .ite (fun _ => ?_) fun _ => h.quiet
  unfold resume
  split
  · split
    · exact .ite (fun _ => .inl (h.line (by simp))) fun _ => h.decideBoundary
    · exact h.quiet
  · exact h.testLabelStart
  all_goals exact h.quiet

theorem Still.removeReason (r : PauseReason) (h : Still old s) : Quiet old (removeReason r s) :=
  Still.resumeIfEmptied s (h.line rfl)

theorem Still.endFeedMove (h : Still old s) : Quiet old (endFeedMove s) := Still.testLabelStart (h.line (by simp))

theorem Still.startFeedMove (h : Still old s) : Quiet old (startFeedMove s) := by
  unfold Machine.startFeedMove
  split
  · exact h.quiet
  · exact .ite (fun _ => Still.endFeedMove (h.line rfl)) fun _ => .inl (h.line rfl)

theorem Still.removePresented (h : Still old s) : Quiet old (removePresented s) := by
  refine Still.testLabelStart (h.line ?_)
  split <;> simp

/-! ### The line port -/

theorem Quiet.offerDone (tag : Nat) (h : Quiet old s) : Quiet old (offerDone tag s) :=
  h.same (by simp) (by simp) (by simp)

theorem Quiet.bindAll (fuel : Nat) (h : Quiet old s) : Quiet old (bindAll fuel s) := by
  induction fuel generalizing s with
  | zero => exact h
  | succ fuel ih =>
    unfold Machine.bindAll
    split
    · rename_i t ht
      refine ih ?_
      unfold bindOne at ht
      split at ht
      · simp only [Option.some.injEq] at ht
        subst ht
        split
        · exact h.same rfl rfl rfl
        · refine Quiet.offerDone _ (Quiet.withdrawCopy _ ?_)
          exact h.same rfl rfl rfl
      · cases ht
    · exact h

theorem Quiet.bindEvent (h : Quiet old s) : Quiet old (bindEvent s) := (h.bindAll _).testLabelStart

theorem Quiet.raiseFault (k : FaultKind) (h : Quiet old s) : Quiet old (raiseFault k s) :=
  h.same (by simp) (by simp) (by simp)

theorem Quiet.handleEntry (e : Parcel) (h : Quiet old s) : Quiet old (handleEntry e s) := by
  have hmiss : Quiet old (missEntry s) := h.same rfl rfl rfl
  have hunprinted : ∀ id : CopyId, Quiet old (Machine.raiseFault .late
      (Machine.offerDone id.tag (endUnprinted id .missedUnprinted (missEntry s)))) := fun id =>
    ((hmiss.same (by simp) (by simp [endUnprinted]; rfl) (by simp [endUnprinted]; rfl)).offerDone _).raiseFault _
  unfold Machine.handleEntry
  split
  · split
    exacts [h.same rfl rfl rfl, Quiet.raiseFault _ (hmiss.same rfl rfl rfl), hunprinted _, hunprinted _, hunprinted _,
      hmiss.raiseFault _, hmiss.raiseFault _, hmiss.raiseFault _]
  · exact hmiss.raiseFault _

theorem Quiet.handleApplyPoints (fuel : Nat) (h : Quiet old s) : Quiet old (handleApplyPoints fuel s) := by
  induction fuel generalizing s with
  | zero => exact h
  | succ fuel ih =>
    unfold Machine.handleApplyPoints
    repeat' split
    exacts [ih (h.handleEntry _), h, h]

theorem Quiet.takeTrigger (w : ConflictWindow) (h : Quiet old s) : Quiet old (takeTrigger w s) :=
  .ite (fun _ => .ite (fun _ => Quiet.testLabelStart (Quiet.handleApplyPoints _ (Quiet.bindEvent (h.same rfl rfl rfl))))
    fun _ => Quiet.bindEvent (h.same rfl rfl rfl)) fun _ => Quiet.raiseFault _ (h.same rfl rfl rfl)

/-! ### Records -/

@[simp] theorem line_abandonContext (s : State) : (abandonContext s).hi = s.hi := by simp

/-- A record begins a line only where its owner does. -/
theorem Still.onRecord {α : Type} {k : Keyword} {form : List Param → FormCheck α} {owner : α → State → State}
    (howner : ∀ v t, Still old t → Quiet old (owner v t)) (h : Still old s) : Quiet old (onRecord k form owner s) := by
  have hremoved : Still old (removeRecord s) := h.line (by simp)
  obtain ⟨-, e⟩ | ⟨-, e⟩ | ⟨code, -, e⟩ | ⟨v, -, e⟩ := onRecord_cases k form owner s <;> rw [e]
  · exact h.quiet
  · exact .inl (hremoved.line (by simp))
  · exact .inl (hremoved.line (by simp))
  · exact howner v _ hremoved

theorem Still.takeEoj (u : Unit) (h : Still old s) : Quiet old (takeEoj u s) := by
  unfold Machine.takeEoj
  split
  · exact .inl (h.line rfl)
  · split
    · exact .inl (h.line (by simp))
    · split
      · exact .inl (h.line (by simp))
      · refine Quiet.bindEvent (.inl ?_)
        exact h.line rfl

theorem Quiet.withdrawAll (tag : Nat) (copies : List Copy) (h : Quiet old s) : Quiet old (withdrawAll tag copies s) := by
  unfold Machine.withdrawAll
  induction copies generalizing s with
  | nil => exact h
  | cons c copies ih => exact ih (h.withdrawCopy _)

theorem Still.takeCan (tag : Int) (h : Still old s) : Quiet old (takeCan tag s) := by
  unfold Machine.takeCan
  refine .ite (fun _ => .inl (h.line (by simp))) fun _ => ?_
  split
  · exact .inl (h.line (by simp))
  · exact Quiet.testLabelStart (Quiet.offerDone _ (h.quiet.withdrawAll _ _))

/-- The band of a stopped label is freed, and nothing else of the label changes (R104, R105). -/
theorem freePrintingBand_label {l : LabelContext} (h : (freePrintingBand s).pe.label = some l) :
    ∃ l0, s.pe.label = some l0 ∧ l.copy = l0.copy := by
  unfold freePrintingBand at h
  split at h
  · rename_i l0 hl0
    split at h
    · cases h
      exact ⟨l0, hl0, rfl⟩
    · exact ⟨l, h, rfl⟩
  · exact ⟨l, h, rfl⟩

/-- A label without a copy is stopped (R161), so that no line of it begins. -/
theorem Still.stopLabel_discarded (h : Still old s) (hcopy : ∀ l, s.pe.label = some l → l.copy = none) :
    Still old (stopLabel s) := by
  have hfreed : ∀ l, (if lineInProgress s then s else freePrintingBand s).pe.label = some l → l.copy = none := by
    split
    · exact hcopy
    · intro l hl
      obtain ⟨l0, hl0, e⟩ := freePrintingBand_label hl
      rw [e, hcopy l0 hl0]
  have hclosed : Still old (beginClosing (if lineInProgress s then s else freePrintingBand s)) := by
    refine h.line ?_
    rw [line_beginClosing]
    split <;> simp
  exact .ite (fun _ => hclosed.decideBoundary_stopped fun l hl => by simp [labelStopped, hfreed l (by simpa using hl)])
    fun _ => hclosed

/-- An abort leaves the label without a copy (R86). -/
theorem Still.performAbort (h : Still old s) : Still old (performAbort s) := by
  refine Still.stopLabel_discarded (h.line rfl) fun l hl => ?_
  obtain ⟨l0, -, rfl⟩ := Option.map_eq_some_iff.1 (show s.pe.label.map _ = some l from hl)
  rfl

@[simp] theorem reloadAfterReset_pe (s : State) : (reloadAfterReset s).pe = s.pe := by simp [reloadAfterReset]

theorem Still.takeReset (u : Unit) (h : Still old s) : Quiet old (takeReset u s) := by
  have hreset : Still old (presentArrived (clearAllFaults (portOff (Machine.performAbort (headReset s))))) := by
    have habort : Still old (Machine.performAbort (headReset s)) := Still.performAbort (h.line rfl)
    refine habort.line ?_
    unfold presentArrived
    split
    · split
      · rw [line_present]; rfl
      · rfl
    · rfl
  have hresumed := hreset.resumeIfEmptied s
  exact .ite (fun _ => hresumed.same rfl rfl rfl) fun _ => hresumed.same (by simp) (by simp) (by simp)

theorem Still.handOver (before : State) (h : Still old s) : Quiet old (handOver before s) := by
  have hrefresh : ∀ s : State, (FaultKind.all.foldl (fun s k => refreshReported before k s) s).hi = s.hi :=
    foldl_keeps _ _ (fun s k => by unfold refreshReported; split <;> rfl) _
  have hidle : (if s.ss.settings.idle = before.ss.settings.idle then s
      else restartIdleTimer s.ss.settings.idle s).hi.line = s.hi.line := by
    split <;> rfl
  unfold Machine.handOver
  refine .ite (fun _ => .inl (h.line ?_)) fun _ => Still.testLabelStart (h.line ?_)
  all_goals simpa [hrefresh] using hidle

theorem Still.takeSet (items : List SetItem) (h : Still old s) : Quiet old (takeSet items s) :=
  .ite (fun _ => .inl (h.line (by simp))) fun _ => Still.handOver s (h.line rfl)

theorem Still.contCalibrate (h : Still old s) : Still old (contCalibrate s) := h.line (by simp)

theorem Still.takeCal (u : Unit) (h : Still old s) : Quiet old (takeCal u s) :=
  .ite (fun _ => .ite (fun _ => h.contCalibrate.testLabelStart) fun _ => .inl (h.line rfl))
    fun _ => .inl (h.line (by simp))

theorem Still.takeClr (level : SensorLevel) (h : Still old s) : Quiet old (takeClr level s) := by
  refine Still.resumeIfEmptied s (h.line ?_)
  unfold clearHeadFault
  simp only [offerNotices_frame]
  split <;> simp

theorem Still.takeLine (on : Bool) (h : Still old s) : Quiet old (takeLine on s) := by
  refine .ite (fun _ => h.quiet) fun _ => .ite (fun _ => .inl (h.line ?_)) fun _ =>
    Quiet.testLabelStart (Still.removeReason _ (h.line rfl))
  unfold portOn
  dsimp only
  split <;> rfl

/-! ### Events -/

theorem Still.completeSample (reading : Int) (h : Still old s) : Quiet old (completeSample reading s) := by
  refine Still.resumeIfEmptied s (h.line ?_)
  simp only [offerNotices_frame, followWarm, followHot]
  (repeat' split) <;> rfl

theorem Still.completeSettle (h : Still old s) : Quiet old (completeSettle s) := by
  refine .ite (fun _ => .inl (h.line ?_)) fun _ => .ite (fun _ => Still.decideBoundary (h.line rfl)) fun _ =>
    .inl (h.line rfl)
  unfold startIdleTimer
  split <;> rfl

theorem Still.completeShift (readback : Dots) (h : Still old s) : Still old (completeShift readback s) := by
  unfold Machine.completeShift
  split
  · exact h
  · split
    · exact h
    · intro l hl h0
      cases hl
      exact absurd h0 (Nat.succ_ne_zero _)

theorem Still.completeStrobe (h : Still old s) : Still old (completeStrobe s) := by
  unfold Machine.completeStrobe
  split
  · exact h
  · rename_i l _
    have hstrobed : ∀ t : State, t.hi.line = some { l with strobed := true } → Still old t := by
      intro t ht k hk _ hs
      cases ht.symm.trans hk
      cases hs
    exact .ite (fun _ => h) fun _ => .ite (fun _ => hstrobed _ (line_beginClosing _)) fun _ => hstrobed _ rfl

theorem line_completeClosing (readback : Dots) (s : State) : (completeClosing readback s).hi.line = s.hi.line := by
  unfold completeClosing
  dsimp only
  split
  · split <;> simp
  · simp

@[simp] theorem line_releasePrinted (l : LabelContext) (s : State) : (releasePrinted l s).hi = s.hi := by
  unfold releasePrinted
  (repeat' split) <;> simp

theorem Still.completeLine (level : SensorLevel) (l : LabelContext) (s : State) :
    Quiet old (completeLine level l s) := by
  have hstep : Still old (advanceLine (releasePrinted l
      (guardedStep level { s with hi := { s.hi with line := none }, pe := { s.pe with stepTime := 0 } }).1)) := by
    intro k hk
    simp at hk
  exact .ite (fun _ => hstep.quiet) fun _ => hstep.decideBoundary

theorem line_failCalibration (c : Calibration) (s : State) : (failCalibration c s).hi.line = s.hi.line := by
  unfold failCalibration
  dsimp only
  (repeat' split) <;> simp [endUnprinted]

theorem Still.calibrationStep (level : SensorLevel) (c : Calibration) (h : Still old s) :
    Quiet old (calibrationStep level c s) := by
  unfold Machine.calibrationStep
  dsimp only
  split
  · exact Still.testLabelStart (h.line (by rw [line_failCalibration]; rfl))
  · exact .inl (h.line rfl)
  · exact .inl (h.line rfl)

theorem line_feedOutStep (level : SensorLevel) (l : LabelContext) (s : State) :
    (feedOutStep level l s).hi.line = s.hi.line := by
  unfold feedOutStep
  dsimp only
  split
  · split <;> simp
  · simp

theorem Still.feedMoveStep (level : SensorLevel) (n : Int) (h : Still old s) : Quiet old (feedMoveStep level n s) := by
  have hstep : Still old (guardedStep level s).1 := h.line (by simp)
  exact .ite (fun _ => hstep.testLabelStart) fun _ => .ite (fun _ => hstep.endFeedMove) fun _ => hstep.quiet

theorem Still.moveStep (level : SensorLevel) (h : Still old s) : Quiet old (moveStep level s) := by
  unfold Machine.moveStep
  split
  · split
    · exact .ite (fun _ => h.quiet) fun _ => h.calibrationStep _ _
    · exact h.quiet
  · split
    · exact .ite (fun _ => h.quiet) fun _ => .inl (h.line (line_feedOutStep _ _ _))
    · exact .ite (fun _ => h.quiet) fun _ => h.feedMoveStep _ _
    · exact h.quiet
  all_goals exact h.quiet

theorem Still.feedKey (level : SensorLevel) (h : Still old s) :
    Quiet old (feedSecondPart (feedFirstPart level s)) := by
  have hfirst : Quiet old (feedFirstPart level s) := Still.resumeIfEmptied s (h.line (by simp))
  generalize feedFirstPart level s = t at hfirst
  unfold feedSecondPart
  split
  · rename_i hidle
    have ht : Still old t := hfirst.still (by simp [hidle.2.1])
    repeat' split
    exacts [ht.startFeedMove, ht.contCalibrate.testLabelStart, .inl (ht.line rfl), ht.quiet]
  · exact hfirst

theorem Still.completeFill (c : RenderContext) (b : Nat) (h : Still old s) : Quiet old (completeFill c b s) := by
  refine Quiet.testLabelStart (.ite (fun _ => Still.decideBoundary (h.line ?_)) fun _ => .inl (h.line ?_))
  all_goals split <;> simp [renderEnded]

theorem Still.failValidation (id : CopyId) (h : Still old s) : Quiet old (failValidation id s) :=
  Still.testLabelStart (h.line (by simp))

theorem Still.beginCopy (h : Still old s) : Quiet old (beginCopy s) := by
  unfold Machine.beginCopy validateCopy
  have hserial : ∀ tag read (s : State), (recordSerial tag read s).hi = s.hi := fun tag read s => by
    unfold recordSerial
    split <;> rfl
  split
  · exact h.quiet
  · split
    · exact h.quiet
    · split
      · exact Still.failValidation _ (h.line rfl)
      · split
        · exact Still.failValidation _ (h.line rfl)
        · dsimp only
          split
          · exact Still.failValidation _ (h.line (by rw [hserial]; rfl))
          · exact .inl (h.line (by simp [hserial]))

theorem Still.holdChanges (rising : Bool) (h : Still old s) : Quiet old (holdChanges rising s) :=
  .ite (fun _ => .ite (fun _ => .inl (h.line rfl)) fun _ => h.removeReason _) fun _ => h.quiet

theorem Still.takenRises (h : Still old s) : Quiet old (takenRises s) := by
  unfold Machine.takenRises takenPresented
  split
  · exact Still.removePresented (h.line (by simp))
  · split
    · split
      · exact Still.removePresented (h.line (by simp))
      · exact h.removePresented
      · exact h.removePresented
    · exact .inl (h.line (by simp))

@[simp] theorem takeField_hi (k : Keyword) (build : Format → Option Field) (s : State) :
    (takeField k build s).hi = s.hi := by
  unfold takeField
  dsimp only
  (repeat' split) <;> simp

@[simp] theorem leaveReport_hi (s : State) : (leaveReport s).hi = s.hi := by
  unfold leaveReport fillFreedPosition
  dsimp only
  (repeat' split) <;> simp

/-! ### Every command -/

/-- An outcome whose next state, if it has one, has begun no line under a pause reason. -/
def Calm (s : State) (r : Result) : Prop := ∀ t, r = .next t → Quiet s.hi.line t

theorem still_self (s : State) : Still s.hi.line s := fun _ h _ _ => h

theorem Calm.next (h : Quiet s.hi.line t) : Calm s (.next t) := by
  rintro _ ⟨⟩
  exact h

theorem Calm.inEvent {p : Bool} {f : State → State} (hf : ∀ t, Still s.hi.line t → Quiet s.hi.line (f t)) :
    Calm s (inEvent p f s) :=
  .next (.ite (fun _ => hf _ (still_self s)) fun _ => (still_self s).quiet)

theorem Calm.record {α : Type} {k : Keyword} {form : List Param → FormCheck α} {owner : α → State → State}
    (howner : ∀ v t, Still s.hi.line t → Quiet s.hi.line (owner v t)) : Calm s (.next (onRecord k form owner s)) :=
  .next ((still_self s).onRecord howner)

/-- A command that leaves the line in progress alone. -/
theorem Calm.alone {r : Result} (h : ∀ t, r = .next t → t.hi.line = s.hi.line) : Calm s r :=
  fun t ht => ((still_self s).line (h t ht)).quiet

/-- Every command begins a line only with the pause set empty. -/
theorem exec_calm {i : Instr} (s : State) : Calm s (exec i s) := by
  have hself := still_self s
  cases i with
  | powerOn => exact .next (.inl fun l hl => by cases hl)
  | loadCompletion => exact .inEvent fun _ h => .inl (h.line (by simp [completeLoading]))
  | characterReceived c stopBit =>
    show Calm s (execCharacterReceived c stopBit s)
    unfold execCharacterReceived
    exact .inEvent fun _ h => .inl (h.line rfl)
  | hrdyRise => exact .next (.ite (fun _ => .inl (hself.line (by simp))) fun _ => .inl (hself.line rfl))
  | characterSent =>
    refine .inEvent fun t h => .inl (h.line ?_)
    unfold characterDone
    dsimp only
    split
    · split <;> simp
    · rfl
  | damagedRecord =>
    refine .next ?_
    split
    · exact .ite (fun _ => .inl (hself.line (by simp [takeDamaged, reply]))) fun _ => hself.quiet
    · exact hself.quiet
  | unknownRecord =>
    refine .next ?_
    split
    · refine .ite (fun _ => hself.quiet) fun _ => ?_
      split
      · refine .inl (hself.line ?_)
        unfold takeUnknown
        dsimp only
        split <;> simp
      · exact hself.quiet
    · exact hself.quiet
  | obj =>
    refine .record fun f t h => .inl (h.line ?_)
    unfold takeObj
    (repeat' split) <;> simp
  | blk =>
    refine .record fun f t h => .inl (h.line ?_)
    unfold takeBlk
    (repeat' split) <;> simp
  | eob =>
    refine .record fun f t h => .inl (h.line ?_)
    unfold takeEob
    (repeat' split) <;> simp
  | del =>
    refine .record fun f t h => .inl (h.line ?_)
    unfold takeDel
    (repeat' split) <;> simp
  | fmt =>
    refine .record fun f t h => .inl (h.line ?_)
    unfold takeFmt
    dsimp only
    (repeat' split) <;> simp
  | txt => exact .record fun f t h => .inl (h.line (by rw [takeField_hi]))
  | bar => exact .record fun f t h => .inl (h.line (by rw [takeField_hi]))
  | box => exact .record fun f t h => .inl (h.line (by rw [takeField_hi]))
  | img => exact .record fun f t h => .inl (h.line (by rw [takeField_hi]))
  | fend =>
    refine .record fun f t h => .inl (h.line ?_)
    unfold takeFend
    (repeat' split) <;> simp
  | ctr => exact .record fun f t h => .ite (fun _ => .inl (h.line (by simp))) fun _ => .inl (h.line rfl)
  | job =>
    refine .record fun f t h => .inl (h.line ?_)
    unfold takeJob
    dsimp only
    (repeat' split) <;> simp
  | dat =>
    refine .record fun f t h => .inl (h.line ?_)
    unfold takeDat
    (repeat' split) <;> simp
  | eoj => exact .record fun u _ h => h.takeEoj u
  | can => exact .record fun n _ h => h.takeCan n
  | abort => exact .record fun u t h => .inl (Still.performAbort (h.line (by simp [reply])))
  | set => exact .record fun x _ h => h.takeSet x
  | save => exact .record fun u t h => .ite (fun _ => .inl (h.line (by simp))) fun _ => .inl (h.line rfl)
  | writeCompletion => exact .inEvent fun t h => .ite (fun _ => .inl (h.line (by simp))) fun _ => .inl (h.line rfl)
  | reset => exact .record fun u _ h => h.takeReset u
  | cal => exact .record fun u _ h => h.takeCal u
  | pause => exact .record fun _ _ h => .inl (h.line rfl)
  | go => exact .record fun _ _ h => h.removeReason _
  | lineOn => exact .next (.ite (fun _ => hself.quiet) fun _ => hself.onRecord fun on _ h => h.takeLine on)
  | lineOff => exact .next (.ite (fun _ => hself.quiet) fun _ => hself.onRecord fun on _ h => h.takeLine on)
  | clr level => exact .record fun _ _ h => h.takeClr level
  | stat =>
    refine .record fun u t h => .inl (h.line ?_)
    have hclear : ∀ s : State, (clearByStat s).hi = s.hi :=
      foldl_keeps _ _ (fun s k => by split <;> rfl) _
    simp [takeStat, hclear, reply]
  | beginCopy => exact .inEvent fun _ h => h.beginCopy
  | fillCompletion =>
    show Calm s (execFillCompletion s)
    unfold execFillCompletion
    refine .inEvent fun t h => ?_
    split
    · split
      · exact h.completeFill _ _
      · exact h.quiet
    · exact h.quiet
  | waitBandAllocation =>
    show Calm s (execWaitBandAllocation s)
    unfold execWaitBandAllocation
    refine .inEvent fun t h => .inl (h.line ?_)
    split <;> simp
  | settleCompletion => exact .inEvent fun _ h => h.completeSettle
  | idleTimerExpiry =>
    show Calm s (execIdleTimerExpiry s)
    unfold execIdleTimerExpiry
    exact .inEvent fun _ h => .inl (h.line rfl)
  | backfeedCompletion =>
    refine .inEvent fun t h => ?_
    unfold completeBackfeed
    split
    · exact h.quiet
    · exact Still.decideBoundary (h.line rfl)
  | shiftCompletion readback => exact .inEvent fun _ h => (h.completeShift readback).quiet
  | strobeCompletion => exact .inEvent fun _ h => h.completeStrobe.quiet
  | closingCompletion readback => exact .inEvent fun _ h => .inl (h.line (line_completeClosing readback _))
  | lineCompletion level =>
    show Calm s (execLineCompletion level s)
    unfold execLineCompletion
    refine .inEvent fun t h => ?_
    split
    · exact Still.completeLine _ _ _
    · exact h.quiet
  | mediaStep level => exact .inEvent fun _ h => h.moveStep level
  | calibrationSuccess =>
    show Calm s (execCalibrationSuccess s)
    unfold execCalibrationSuccess
    refine .inEvent fun t h => ?_
    split
    · refine .ite (fun _ => ?_) fun _ => h.quiet
      split
      · exact Still.testLabelStart (h.line (by simp [succeedCalibration]))
      · exact h.quiet
      · exact h.quiet
    · exact h.quiet
  | feedOutCompletion =>
    show Calm s (execFeedOutCompletion s)
    unfold execFeedOutCompletion
    refine .inEvent fun t h => .inl (h.line ?_)
    (repeat' split) <;> simp
  | feedMoveCompletion =>
    show Calm s (execFeedMoveCompletion s)
    unfold execFeedMoveCompletion
    refine .inEvent fun t h => ?_
    split
    · exact .ite (fun _ => h.endFeedMove) fun _ => h.quiet
    · exact h.quiet
  | sampleCompletion reading => exact .inEvent fun _ h => h.completeSample reading
  | feedKey level => exact .inEvent fun _ h => h.feedKey level
  | pauseKey =>
    show Calm s (execPauseKey s)
    unfold execPauseKey
    exact .inEvent fun _ h => .ite (fun _ => h.removeReason _) fun _ => .inl (h.line rfl)
  | triggerEdge input =>
    simp only [exec, execTriggerEdge]
    split
    · rintro _ ⟨⟩
    · refine .inEvent fun t h => .inl (h.line ?_)
      unfold triggerRises
      (repeat' split) <;> simp
  | conflictWindowExpiry =>
    show Calm s (execConflictWindowExpiry s)
    unfold execConflictWindowExpiry
    refine .inEvent fun t h => ?_
    split
    · exact Quiet.takeTrigger _ (.inl (h.line rfl))
    · exact h.quiet
  | holdEdge rising =>
    show Calm s (execHoldEdge rising s)
    unfold execHoldEdge
    exact .inEvent fun t h => Still.holdChanges rising (s := setLevel .hold rising t) (h.line rfl)
  | encPulse =>
    show Calm s (execEncPulse s)
    unfold execEncPulse conveyorStep
    exact .inEvent fun t h => Quiet.testLabelStart (Quiet.handleApplyPoints _ (.inl (h.line rfl)))
  | pulseBegin output =>
    simp only [exec, execPulseBegin]
    split
    · rintro _ ⟨⟩
    · exact .inEvent fun _ h => .inl (h.line rfl)
  | pulseEnd output =>
    simp only [exec, execPulseEnd]
    split
    · rintro _ ⟨⟩
    · exact .inEvent fun _ h => .inl (h.line rfl)
  | applyWaitExpiry =>
    show Calm s (execApplyWaitExpiry s)
    unfold execApplyWaitExpiry
    refine .inEvent fun t h => .inl (h.line ?_)
    split <;> simp [expireApplyWait]
  | taken =>
    show Calm s (execTaken s)
    unfold execTaken
    exact .inEvent fun t h => Still.takenRises (s := setLevel .taken true t) (h.line rfl)
  | hrdyFall =>
    refine .next (.inl (hself.line ?_))
    by_cases hp : s.powered = true <;> simp [hp]
  | fallingEdge input =>
    simp only [exec, execFallingEdge]
    split
    · exact .inEvent fun _ h => .inl (h.line rfl)
    · rintro _ ⟨⟩
  | powerLoss =>
    refine .next (.ite (fun _ => .inl (hself.line ?_)) fun _ => hself.quiet)
    unfold cutWrite
    split <;> rfl

/-- Settles O48: the line in progress that a command leaves unbegun is the one from before, or was begun with the pause
set empty. -/
theorem noLineBeginsWhilePaused : Obligations.NoLineBeginsWhilePaused := by
  intro i s t l h hl h0 hs hold
  obtain hstill | ⟨-, hpause, -⟩ := exec_calm s t h
  · exact absurd (hstill l hl h0 hs) hold
  · exact hpause

end Sys2Proof.Machine
end

section
/-! SUPPORT. What the machine's dispatch and the job link's events answer (Chapters 0 and 1). -/

namespace Sys2Proof.Machine

/-! ## Events and records in general -/

/-- An event that the part has acts on the state after the geometry it takes (R204). -/
theorem inEvent_of {p : Bool} {f : State → State} {s : State} (h : s.powered = true) (hp : p = true) :
    inEvent p f s = .next (f (takeGeometry s)) := by
  simp [inEvent, h, hp]

/-- An event that the part does not have changes nothing (log entry 1). -/
theorem inEvent_of_not {p : Bool} {f : State → State} {s : State} (hp : p = false) : inEvent p f s = .next s := by
  simp [inEvent, hp]

/-- Without power no event changes anything (log entry 30). -/
theorem inEvent_of_unpowered {p : Bool} {f : State → State} {s : State} (h : s.powered = false) :
    inEvent p f s = .next s := by
  simp [inEvent, h]

/-- Without power the parser takes nothing (log entry 30). -/
theorem parserReady_of_unpowered {s : State} (h : s.powered = false) : parserReady s = false := by
  simp [parserReady, h]

/-- A command that takes a record changes nothing where the parser may take none (R16, log entry 1). -/
theorem exec_of_stalled {i : Instr} {s : State} (hi : takesRecord i = true) (h : parserReady s = false) :
    exec i s = .next s := by
  have hr : frontRecord s = none := frontRecord_of_stalled h
  have hk : ∀ k, frontRest k s = none := fun _ => frontRest_of_stalled h
  have ho : ∀ {α : Type} (k : Keyword) (form : List Param → FormCheck α) (owner : α → State → State),
      (.next (onRecord k form owner s) : Result) = .next s := fun k form owner => by rw [onRecord_of_none (hk k)]
  have hl : lineWord s = none := by simp only [lineWord, hk]
  cases i
  case damagedRecord => show execDamagedRecord s = _; simp only [execDamagedRecord, hr]
  case unknownRecord => show execUnknownRecord s = _; simp only [execUnknownRecord, hr]
  case lineOn => show execLineOn s = _; simp only [execLineOn, hl, reduceCtorEq, if_false]; exact ho _ _ _
  case lineOff => show execLineOff s = _; simp only [execLineOff, hl, reduceCtorEq, if_false]; exact ho _ _ _
  all_goals first
    | exact ho _ _ _
    | cases hi

/-- Without power an event that no record and no power command is changes nothing (log entry 30). -/
theorem exec_event_of_unpowered {i : Instr} {s : State} (h : s.powered = false) (hw : i.wellFormed = true)
    (hr : takesRecord i = false) (hp : i ≠ .powerOn) (h1 : i ≠ .hrdyRise) (h2 : i ≠ .hrdyFall) :
    exec i s = .next s := by
  cases i
  case powerOn => exact absurd rfl hp
  case hrdyRise => exact absurd rfl h1
  case hrdyFall => exact absurd rfl h2
  case powerLoss => show execPowerLoss s = _; simp only [execPowerLoss, h, Bool.false_eq_true, if_false]
  case triggerEdge input =>
    show execTriggerEdge input s = _
    cases input <;> simp only [execTriggerEdge, triggerKind]
    case print => exact inEvent_of_unpowered h
    case purge => exact inEvent_of_unpowered h
    all_goals cases hw
  case fallingEdge input =>
    show execFallingEdge input s = _
    simp only [Instr.wellFormed] at hw
    simp only [execFallingEdge, hw, if_true]
    exact inEvent_of_unpowered h
  case pulseBegin output =>
    show execPulseBegin output s = _
    cases output <;> simp only [execPulseBegin, LinePort.pulse]
    case apply => exact inEvent_of_unpowered h
    case miss => exact inEvent_of_unpowered h
    all_goals cases hw
  case pulseEnd output =>
    show execPulseEnd output s = _
    cases output <;> simp only [execPulseEnd, LinePort.pulse]
    case apply => exact inEvent_of_unpowered h
    case miss => exact inEvent_of_unpowered h
    all_goals cases hw
  all_goals try cases hr
  all_goals
    simp only [exec, execLoadCompletion, execCharacterReceived, execCharacterSent, execWriteCompletion, execBeginCopy,
      execFillCompletion, execWaitBandAllocation, execSettleCompletion, execIdleTimerExpiry, execBackfeedCompletion,
      execShiftCompletion, execStrobeCompletion, execClosingCompletion, execLineCompletion, execMediaStep,
      execCalibrationSuccess, execFeedOutCompletion, execFeedMoveCompletion, execSampleCompletion, execFeedKey,
      execPauseKey, execConflictWindowExpiry, execHoldEdge, execEncPulse, execApplyWaitExpiry, execTaken, inEvent, h,
      Bool.false_and, Bool.false_eq_true, if_false]

/-! ## Received characters (R3, R5, R17) -/

/-- A received character is taken by the receive buffer, and a reloaded geometry takes its effect. -/
theorem exec_characterReceived {s : State} (c : Byte) (good : Bool) (h : s.powered = true)
    (hs : s.ss.start ≠ .loading) :
    exec (.characterReceived c good) s
      = .next { takeGeometry s with jl := receiveCharacter c good s.jl } := by
  show execCharacterReceived c good s = _
  unfold execCharacterReceived
  exact inEvent_of h (by simpa [linkOn] using hs)

/-- CTS after a character is stored, as one field (R3). -/
theorem ctsAfterStore_eq (jl : JobLink) :
    ctsAfterStore jl = { jl with cts := if 2048 - bufferUsed jl ≤ 256 then false else jl.cts } := by
  show (if 2048 - bufferUsed jl ≤ 256 then _ else _) = _
  by_cases h : 2048 - bufferUsed jl ≤ 256
  · rw [if_pos h, if_pos h]
  · rw [if_neg h, if_neg h]

/-- A sound record's LF takes one position more (R3). -/
theorem bufferUsed_completeRecord {jl : JobLink} (h : jl.receivingDamaged = false) :
    bufferUsed (completeRecord jl) = bufferUsed jl + 1 := by
  simp [bufferUsed, completeRecord, Record.positions, h]
  omega

/-- A stored character takes one position more (R3). -/
theorem bufferUsed_store (jl : JobLink) (c : Byte) (b : Bool) :
    bufferUsed { jl with receiving := jl.receiving ++ [c], receivingOverLong := b } = bufferUsed jl + 1 := by
  simp [bufferUsed]
  omega

/-- A sound character with a position free acts by what it is: a CR, an LF, or a character to store (R5). -/
theorem receiveCharacter_of_free {c : Byte} {jl : JobLink} (hd : jl.receivingDamaged = false)
    (hu : bufferUsed jl < 2048) :
    receiveCharacter c true jl =
      if c = 13 then jl
      else if c = 10 then if jl.receiving = [] then jl else ctsAfterStore (completeRecord jl)
      else if jl.receivingOverLong then jl
      else ctsAfterStore { jl with
        receiving := jl.receiving ++ [c], receivingOverLong := decide (512 ≤ jl.receiving.length + 1) } := by
  have hn : ¬((!true) = true ∨ Config.bufferSize ≤ bufferUsed jl) := by
    simpa [Config.bufferSize] using hu
  simp only [receiveCharacter, hd, Bool.false_eq_true, if_false, if_neg hn, List.length_append, List.length_singleton]

/-! ## The transmitter (R2, R4, R15) -/

/-- The transmitter does not look at the geometry. -/
theorem takeGeometry_withJl (s : State) (jl : JobLink) :
    takeGeometry { s with jl := jl } = { takeGeometry s with jl := jl } := by
  have h := takeGeometry_congr (s := { s with jl := jl }) (t := s) rfl rfl rfl
  show { s with jl := jl, pe := (takeGeometry { s with jl := jl }).pe } = { takeGeometry s with jl := jl }
  rw [h]
  rfl

/-- With HRDY low the transmitter begins no character. -/
theorem beginCharacter_of_low {s : State} (h : s.jl.hrdy = false) : beginCharacter s = s := by
  simp [beginCharacter, mayTransmit, h]

/-- A transmitter that sends already begins no further character. -/
theorem beginCharacter_of_sending {s : State} (h : s.jl.sending = true) : beginCharacter s = s := by
  simp only [beginCharacter_eq, h, Bool.true_or]
  rw [← h]

/-- A transmitter that sends exactly with HRDY high has nothing to begin. -/
theorem beginCharacter_of_same {s : State} (h : s.jl.hrdy = true → s.jl.sending = true) : beginCharacter s = s := by
  cases hh : s.jl.hrdy with
  | false => exact beginCharacter_of_low hh
  | true => exact beginCharacter_of_sending (h hh)

/-- With a report in the queue and no rate switch pending the transmitter sends where it did, and where HRDY is high. -/
theorem beginCharacter_of_open {s : State} (hs : s.ss.start ≠ .loading) (hr : s.jl.rateSwitch = none)
    (hq : s.jl.reports ≠ []) :
    beginCharacter s = { s with jl := { s.jl with sending := s.jl.sending || s.jl.hrdy } } := by
  have : mayTransmit s = s.jl.hrdy := by
    cases hc : s.jl.reports with
    | nil => exact absurd hc hq
    | cons r rs => simp [mayTransmit, linkOn, hs, hr, hc]
  rw [beginCharacter_eq, this]

/-- With no rate switch pending the transmitter sends where it did, and where HRDY is high and a report stands in the
queue. -/
theorem beginCharacter_of_no_switch {s : State} (hs : s.ss.start ≠ .loading) (hr : s.jl.rateSwitch = none) :
    beginCharacter s
      = { s with jl := { s.jl with sending := s.jl.sending || (s.jl.hrdy && !s.jl.reports.isEmpty) } } := by
  have : mayTransmit s = (s.jl.hrdy && !s.jl.reports.isEmpty) := by
    simp [mayTransmit, linkOn, bne_iff_ne.2 hs, hr]
  rw [beginCharacter_eq, this]

/-- The transmitter's start leaves HRDY. -/
@[simp] theorem beginCharacter_hrdy (s : State) : (beginCharacter s).jl.hrdy = s.jl.hrdy := by
  simp [beginCharacter_eq]

/-- A transmitter that sends keeps sending where a report enters. -/
theorem enterReport_sending (r : Report) (s : State) (h : s.jl.hrdy = true → s.jl.sending = true) :
    (enterReport r s).jl.hrdy = true → (enterReport r s).jl.sending = true := by
  simp only [enterReport, beginCharacter_eq, onEnter_jl, Bool.or_eq_true]
  exact fun hh => .inl (h hh)

/-- A transmitter that sends keeps sending where a notice is offered. -/
theorem offerNotice_sending (k : FaultKind) (s : State) (h : s.jl.hrdy = true → s.jl.sending = true) :
    (offerNotice k s).jl.hrdy = true → (offerNotice k s).jl.sending = true := by
  unfold offerNotice
  split
  · rcases offerReport_cases (.flt k (faultOf s k).latched)
      (setFault k { faultOf s k with reported := (faultOf s k).latched } s) with ⟨-, -, h'⟩ | ⟨-, h'⟩
    · rw [h']
      exact enterReport_sending _ _ h
    · rw [h']
      exact h
  · exact h

/-! ## Refused records (R6, R7, R11) -/

/-- What checks 2 and 3 refuse carries the keyword exactly where it is 2 to 5 capitals (log entry 14). -/
theorem headOf_refused {r : Record} {kw : Option Text} (h : headOf r = .refused kw) :
    (∀ k, kw = some k → k = r.chars.takeWhile (· != 32) ∧ keywordShaped k = true)
      ∧ (kw = none → keywordShaped (r.chars.takeWhile (· != 32)) = false) := by
  simp only [headOf] at h
  split at h
  next hk =>
    split at h
    · cases h
      exact ⟨fun k he => by cases he; exact ⟨rfl, hk⟩, nofun⟩
    · split at h
      · cases h
      · cases h
        exact ⟨fun k he => by cases he; exact ⟨rfl, hk⟩, nofun⟩
  next hk =>
    cases h
    exact ⟨nofun, fun _ => by simpa using hk⟩

/-- A sound record that checks 2 and 3 refuse is UNKNOWN_RECORD's. -/
theorem exec_unknownRecord {s : State} {r : Record} {kw : Option Text} (hf : frontRecord s = some r)
    (hd : r.damaged = false) (hh : headOf r = .refused kw) : exec .unknownRecord s = .next (takeUnknown kw s) := by
  show execUnknownRecord s = _
  simp only [execUnknownRecord, hf, hd, hh, Bool.false_eq_true, if_false]

/-- The context in which a record is taken is the one it was received in. -/
theorem removeRecord_context (s : State) : (removeRecord s).jl.context = s.jl.context := by simp

/-- The command of a keyword runs its owner's form and act, one form for the commands of one keyword; a LINE record's
only where it asks for neither state (log entry 15). -/
theorem exec_of_commandsOf {k : Keyword} {c : Instr} {s : State} (hc : c ∈ commandsOf k)
    (hl : k = .line → lineWord s = none) :
    ∃ (α : Type) (form : List Param → FormCheck α) (owner : α → State → State),
      (∀ ps, formResult k ps = (form ps).map fun _ => ()) ∧ exec c s = .next (onRecord k form owner s) := by
  have hu : ∀ x : FormCheck Unit, x = x.map fun _ => () := fun x => by cases x <;> rfl
  cases k
  case line =>
    refine ⟨Bool, formLine, takeLine, fun _ => rfl, ?_⟩
    have hw := hl rfl
    simp only [commandsOf, List.mem_cons, List.not_mem_nil, or_false] at hc
    rcases hc with rfl | rfl
    · show execLineOn s = _
      simp only [execLineOn, hw, reduceCtorEq, if_false]
    · show execLineOff s = _
      simp only [execLineOff, hw, reduceCtorEq, if_false]
  case clr =>
    simp only [commandsOf, List.mem_cons, List.not_mem_nil, or_false] at hc
    rcases hc with rfl | rfl <;> exact ⟨Unit, formNone, _, fun _ => hu _, rfl⟩
  all_goals
    simp only [commandsOf, List.mem_cons, List.not_mem_nil, or_false] at hc
    subst hc
    exact ⟨_, _, _, fun _ => by first | rfl | exact hu _, rfl⟩

/-- A form whose result is SYNTAX or RANGE has that outcome itself. -/
theorem map_unit_eq {α : Type} {x : FormCheck α} :
    ((x.map fun _ => ()) = .bad → x = .bad) ∧ ((x.map fun _ => ()) = .range → x = .range) := by
  cases x with
  | ok _ => exact ⟨nofun, nofun⟩
  | range => exact ⟨nofun, fun _ => rfl⟩
  | bad => exact ⟨fun _ => rfl, nofun⟩

end Sys2Proof.Machine
end

section
/-! The statements about the machine and the job link (Chapters 0 and 1). -/

namespace Sys2Proof.Machine

/-- Settles O1: `step` matches on the queue. -/
theorem stepTakesFrontCommand : Obligations.StepTakesFrontCommand := fun _ _ _ => ⟨rfl, rfl⟩

/-- Settles O3, by the command: only the edges and the pulses have an operand that a row does not admit. -/
theorem wellFormedCommandsRunOn : Obligations.WellFormedCommandsRunOn := by
  unfold Obligations.WellFormedCommandsRunOn
  intro i s
  have next : ∀ {i : Instr} {t : State}, i.wellFormed = true → exec i s = .next t →
      (i.wellFormed = true → ∃ t, exec i s = .next t) ∧ (i.wellFormed = false → exec i s = .fault .illFormed) :=
    fun hw h => ⟨fun _ => ⟨_, h⟩, fun hf => absurd (hw.symm.trans hf) (by decide)⟩
  have fault : ∀ {i : Instr}, i.wellFormed = false → exec i s = .fault .illFormed →
      (i.wellFormed = true → ∃ t, exec i s = .next t) ∧ (i.wellFormed = false → exec i s = .fault .illFormed) :=
    fun hw h => ⟨fun ht => absurd (ht.symm.trans hw) (by decide), fun _ => h⟩
  cases i
  case triggerEdge input =>
    cases input with
    | print | purge => exact next rfl rfl
    | hold | taken => exact fault rfl rfl
  case fallingEdge input =>
    cases input with
    | print | purge | taken => exact next rfl rfl
    | hold => exact fault rfl rfl
  case pulseBegin output =>
    cases output with
    | apply | miss => exact next rfl rfl
    | ready | waste | lineFault => exact fault rfl rfl
  case pulseEnd output =>
    cases output with
    | apply | miss => exact next rfl rfl
    | ready | waste | lineFault => exact fault rfl rfl
  all_goals exact next rfl rfl

/-- Settles O4: the parser takes no record without power, and no event is one. -/
theorem unpoweredPartIsInert : Obligations.UnpoweredPartIsInert := by
  unfold Obligations.UnpoweredPartIsInert
  intro i s h hw hp h1 h2
  cases hr : takesRecord i with
  | true => exact exec_of_stalled hr (parserReady_of_unpowered h)
  | false => exact exec_event_of_unpowered h hw hr hp h1 h2

/-- Settles O11: each condition of R16 that fails stalls the parser. -/
theorem stalledParserTakesNothing : Obligations.StalledParserTakesNothing := by
  unfold Obligations.StalledParserTakesNothing
  intro i s hi h
  refine exec_of_stalled hi ?_
  have hw : s.jl.waiting ≠ [] → s.jl.waiting.isEmpty = false := by simp
  have hr : s.jl.rateSwitch ≠ none → s.jl.rateSwitch.isNone = false := by
    cases s.jl.rateSwitch <;> simp
  have hs : s.ss.start ≠ .running → (s.ss.start == .running) = false := by simp
  rcases h with h | h | h | h | h
  · exact parserReady_of_unpowered h
  · simp [parserReady, Config.reportSlots, Nat.not_lt.2 h]
  · simp [parserReady, hw h]
  · simp [parserReady, hr h]
  · simp [parserReady, hs h]

/-- Settles O5, by the branches of the receive buffer's step. -/
theorem receivedCharacterStored : Obligations.ReceivedCharacterStored := by
  unfold Obligations.ReceivedCharacterStored
  intro c s h hs hd hu
  simp only [exec_characterReceived c true h hs, receiveCharacter_of_free hd hu]
  refine ⟨fun hc => ?_, fun hc he => ?_, fun hc he => ?_, fun hc hc' ho => ?_, fun hc hc' ho => ?_⟩
  · rw [if_pos hc]
    rfl
  · rw [if_neg (by simp [hc]), if_pos hc, if_pos he]
    rfl
  · rw [if_neg (by simp [hc]), if_pos hc, if_neg he, ctsAfterStore_eq, bufferUsed_completeRecord hd]
    simp only [completeRecord, hd]
  · rw [if_neg hc', if_neg hc, ho, if_neg Bool.false_ne_true, ctsAfterStore_eq, bufferUsed_store]
  · rw [if_neg hc', if_neg hc, ho, if_pos rfl]
    rfl

/-- Settles O6, by the branches of the receive buffer's step. -/
theorem linkErrorDamagesRecord : Obligations.LinkErrorDamagesRecord := by
  unfold Obligations.LinkErrorDamagesRecord
  intro c good s h hs
  simp only [exec_characterReceived c good h hs]
  refine ⟨fun hd hg => ?_, fun hd hg => ?_, fun hd hg hc => ?_⟩
  · have hn : (!good) = true ∨ Config.bufferSize ≤ bufferUsed s.jl := by
      simpa [Config.bufferSize] using hg
    simp only [receiveCharacter, hd, hn, Bool.false_eq_true, if_false, if_true]
  · have hn : ¬(good = true ∧ c = 10) := fun ⟨h1, h2⟩ => hg.elim (by simp [h1]) (absurd h2)
    simp only [receiveCharacter, hd, if_true, if_neg hn]
    rfl
  · simp only [receiveCharacter, hd, hg, hc, if_true, and_self, completeRecord]

/-- Settles O8. -/
theorem damagedRecordTaken : Obligations.DamagedRecordTaken := by
  unfold Obligations.DamagedRecordTaken
  intro s r hf hd
  refine ⟨?_, abandonContext_context _, by simp⟩
  show execDamagedRecord s = _
  simp only [execDamagedRecord, hf, hd, if_true, takeDamaged, reply]

/-- Settles O9, by what checks 2 and 3 make of the record. -/
theorem malformedRecordRefused : Obligations.MalformedRecordRefused := by
  unfold Obligations.MalformedRecordRefused
  intro s r hf hd
  refine ⟨fun kw hh hk => ?_, fun kw hh => headOf_refused hh, fun kw k hh hk hcl => ?_, fun k rest hh => ?_⟩
  · rw [exec_unknownRecord hf hd hh]
    unfold takeUnknown
    cases hb : kw.bind keywordOf with
    | none => rfl
    | some k => simp only [closeIfCloser, removeRecord_context, if_neg (hk k hb), reply]
  · rw [exec_unknownRecord hf hd hh]
    simp only [takeUnknown, Option.bind_some, hk, closeIfCloser, removeRecord_context, hcl, if_true, reply]
  · show execUnknownRecord s = _
    simp only [execUnknownRecord, hf, hd, hh, Bool.false_eq_true, if_false]

/-! ### The transmitter -/

/-- A character that is not the head report's last leaves it in the queue (R4). -/
theorem characterDone_of_short {s : State} {r : Report} {rs : List Report} (hs : s.ss.start ≠ .loading)
    (hr : s.jl.reports = r :: rs) (hw : s.jl.rateSwitch = none) (h : s.jl.sent + 1 < r.text.length) :
    characterDone s = { s with jl := { s.jl with sent := s.jl.sent + 1, sending := s.jl.hrdy } } := by
  simp only [characterDone, hr, List.head?_cons, if_neg (Nat.not_le.2 h)]
  rw [beginCharacter_of_open]
  · simp only [Bool.false_or]
  · exact hs
  · exact hw
  · simp

/-- The head report's last character frees its position (R4, R14). -/
theorem characterDone_of_last {s : State} {r : Report} {rs : List Report} (hr : s.jl.reports = r :: rs)
    (h : s.jl.sent + 1 = r.text.length) :
    characterDone s = beginCharacter (fillFreedPosition (endRateSwitch { s with jl := { s.jl with
      sending := false, reports := rs, sent := 0
      rateSwitch := s.jl.rateSwitch.map fun w => { w with noted := w.noted - 1 } } })) := by
  simp only [characterDone, hr, List.head?_cons, if_pos (Nat.le_of_eq h.symm), leaveReport, List.tail_cons]

/-- What the entry of the oldest waiting report changes, the transmitter apart: a DONE frees its job's slot, an RDY ends
the start, and the kind of an FLT notice is tested again. -/
def enteredFromWaiting (w : Report) (s : State) : State :=
  match w with
  | .done tag _ _ _ _ _ _ => match jobOf s tag with
    | some j => { s with
        os := releaseJob s.os j
        jq := { s.jq with jobs := withoutJob tag s.jq.jobs }
        lp := { s.lp with cursor := cursorWithout s.jq.jobs tag s.lp.cursor } }
    | none => s
  | .flt k _ => offerNotice k s
  | .rdy _ => { s with ss := { s.ss with start := .running } }
  | .err _ _ | .sts _ | .abt _ | .cal _ => s

/-- A transmitter that has begun what it may begins no more in the event. -/
theorem beginCharacter_twice {s : State} (hs : s.ss.start ≠ .loading) (hr : s.jl.rateSwitch = none)
    (hq : s.jl.reports ≠ []) (hn : s.jl.sending = false) :
    beginCharacter (beginCharacter s) = { s with jl := { s.jl with sending := s.jl.hrdy } } := by
  rw [beginCharacter_of_open hs hr hq, beginCharacter_of_same]
  · simp only [hn, Bool.false_or]
  · exact fun hh => by simpa using .inr hh

/-- A transmitter that has begun what it may begins no more behind a notice. -/
theorem beginCharacter_offerNotice {s : State} (k : FaultKind) (hs : s.ss.start ≠ .loading)
    (hr : s.jl.rateSwitch = none) (hq : s.jl.reports ≠ []) (hn : s.jl.sending = false) :
    beginCharacter (offerNotice k (beginCharacter s))
      = offerNotice k { s with jl := { s.jl with sending := s.jl.hrdy } } := by
  rw [beginCharacter_of_open hs hr hq]
  simp only [hn, Bool.false_or]
  exact beginCharacter_of_same (offerNotice_sending k _ id)

/-- The oldest waiting report takes a freed position, and its first character begins where HRDY is high (R15). -/
theorem fillFreedPosition_of_waiting {s : State} {w : Report} {ws : List Report} (hs : s.ss.start ≠ .loading)
    (hq : s.jl.waiting = w :: ws) (hr : s.jl.rateSwitch = none) (hl : s.jl.reports.length < 16)
    (hn : s.jl.sending = false) :
    beginCharacter (fillFreedPosition s) = enteredFromWaiting w { s with jl := { s.jl with
      reports := s.jl.reports ++ [w], waiting := ws, sending := s.jl.hrdy } } := by
  have hl' : s.jl.reports.length < Config.reportSlots := hl
  have hne : s.jl.reports ++ [w] ≠ [] := by simp
  simp only [fillFreedPosition, hq, if_pos hl', enterReport]
  cases w with
  | done tag a m x v f serials =>
    simp only [onEnter, freeSlot, enteredFromWaiting, jobOf]
    cases s.jq.jobs.find? fun j => j.tag == tag with
    | none => simp only []; rw [beginCharacter_twice] <;> assumption
    | some j => simp only []; rw [beginCharacter_twice] <;> assumption
  | flt k b =>
    simp only [onEnter, enteredFromWaiting]
    rw [beginCharacter_offerNotice] <;> assumption
  | rdy ok =>
    simp only [onEnter, enteredFromWaiting, endStart]
    rw [beginCharacter_twice]
    · exact nofun
    · exact hr
    · exact hne
    · exact hn
  | err _ _ | sts _ | abt _ | cal _ =>
    simp only [onEnter, enteredFromWaiting]
    rw [beginCharacter_twice] <;> assumption

/-- Where nothing waits a freed position stays free (R15). -/
theorem fillFreedPosition_of_none {s : State} (h : s.jl.waiting = []) : fillFreedPosition s = s := by
  simp only [fillFreedPosition, h]

/-- Settles O7: the head report's characters, its last one, and the report that takes its position. -/
theorem transmitterFollowsHrdy : Obligations.TransmitterFollowsHrdy := by
  unfold Obligations.TransmitterFollowsHrdy
  refine ⟨fun s h hs hr hw => ?_, fun s => rfl, fun s r rs h hs hse hr hw => ⟨fun hl => ?_, fun hl hq => ?_,
    fun w ws hl hq hc => ?_⟩, fun s r rs w h hs hse hr hw hn hq hl => ?_⟩
  · show execHrdyRise s = _
    unfold execHrdyRise
    dsimp only
    rw [if_pos h, takeGeometry_withJl, beginCharacter_of_open]
    · simp only [Bool.or_true]
    · exact hs
    · exact hw
    · exact hr
  all_goals
    have hx : exec .characterSent s = .next (characterDone (takeGeometry s)) := by
      show execCharacterSent s = _
      unfold execCharacterSent
      exact inEvent_of h hse
    rw [hx]
  · rw [characterDone_of_short (s := takeGeometry s) hs hr hw hl]
    rfl
  · rw [characterDone_of_last (s := takeGeometry s) hr hl]
    simp only [takeGeometry_jl, hw, Option.map_none, endRateSwitch]
    rw [fillFreedPosition_of_none, beginCharacter_of_no_switch]
    · simp only [Bool.false_or]
    · exact hs
    · rfl
    · exact hq
  · rw [characterDone_of_last (s := takeGeometry s) hr hl]
    simp only [takeGeometry_jl, hw, Option.map_none, endRateSwitch]
    rw [fillFreedPosition_of_waiting (w := w) (ws := ws)]
    · cases w <;> rfl
    · exact hs
    · exact hq
    · rfl
    · exact hc
    · rfl
  · rw [characterDone_of_last (s := takeGeometry s) hr hl]
    simp only [takeGeometry_jl, hw, Option.map_some, endRateSwitch, hn, Nat.sub_self, if_true]
    rw [fillFreedPosition_of_none, beginCharacter_of_no_switch]
    · simp only [Bool.false_or]
    · exact hs
    · rfl
    · exact hq

/-! ### Refused records -/

/-- A record of a known keyword outside its context is refused with SEQUENCE, unread (log entry 12). -/
theorem onRecord_of_not_admitted {α : Type} {k : Keyword} {form : List Param → FormCheck α}
    {owner : α → State → State} {s : State} {rest : Option Text} (h : frontRest k s = some rest)
    (ha : admitted k s.jl.context = false) :
    onRecord k form owner s = enterReport (.err .sequence (some k.text)) (removeRecord s) := by
  simp [onRecord, h, ha, refuse, reply]

/-- A record whose parameters do not match its form is refused, and closes the context it would have closed. -/
theorem refuseForm_removeRecord (code : ErrCode) (k : Keyword) (s : State) :
    refuseForm code k (removeRecord s) = enterReport (.err code (some k.text))
      (if k.closes = some s.jl.context then abandonContext (removeRecord s) else removeRecord s) := by
  simp only [refuseForm, refuse, reply, closeIfCloser, removeRecord_context]

/-- A record whose parameter list R6 or R7 refuses is SYNTAX. -/
theorem onRecord_of_unread {α : Type} {k : Keyword} {form : List Param → FormCheck α}
    {owner : α → State → State} {s : State} {rest : Option Text} (h : frontRest k s = some rest)
    (ha : admitted k s.jl.context = true) (hp : readParams rest = none) :
    onRecord k form owner s = refuseForm .syntaxErr k (removeRecord s) := by
  simp [onRecord, h, ha, hp]

/-- A record whose form finds SYNTAX or RANGE is refused with it. -/
theorem onRecord_of_misformed {α : Type} {k : Keyword} {form : List Param → FormCheck α}
    {owner : α → State → State} {s : State} {rest : Option Text} {ps : List Param} (h : frontRest k s = some rest)
    (ha : admitted k s.jl.context = true) (hp : readParams rest = some ps) :
    (form ps = .bad → onRecord k form owner s = refuseForm .syntaxErr k (removeRecord s))
      ∧ (form ps = .range → onRecord k form owner s = refuseForm .range k (removeRecord s)) :=
  ⟨fun hf => by simp [onRecord, h, ha, hp, hf], fun hf => by simp [onRecord, h, ha, hp, hf]⟩

/-- A LINE record that JL refuses asks for neither state (log entry 15). -/
theorem lineWord_of_refused {s : State} {rest : Option Text} (h : frontRest .line s = some rest)
    (hr : readParams rest = none ∨ ∃ ps, readParams rest = some ps ∧ ∀ b, formLine ps ≠ .ok b) :
    lineWord s = none := by
  rcases hr with hp | ⟨ps, hp, hf⟩
  · simp only [lineWord, h, hp]
  · simp only [lineWord, h, hp]
    cases hb : formLine ps with
    | ok b => exact absurd hb (hf b)
    | range => rfl
    | bad => rfl

/-- The form result of a LINE record is its form's. -/
theorem formLine_of_formResult {ps : List Param} {x : FormCheck Unit} (h : formResult .line ps = x)
    (hx : ∀ u, x ≠ .ok u) (b : Bool) : formLine ps ≠ .ok b := by
  intro hb
  simp only [formResult, hb, FormCheck.map] at h
  exact hx () h.symm

/-- Trailing parameters that are KEY=VALUE each, read against the keys accepted (R7). -/
theorem withKeys_of_keyvals {α : Type} (accepted : List Text) (ks : List Param) (kvs : List (Text × Text))
    (f : List (Text × Text) → FormCheck α) (h : keyvals ks = some kvs) :
    (accepted.length < kvs.length → withKeys accepted ks f = .bad)
      ∧ (kvs.length ≤ accepted.length → f (kvs.filter fun p => accepted.contains p.1) = .bad →
        withKeys accepted ks f = .bad)
      ∧ (kvs.length ≤ accepted.length → f (kvs.filter fun p => accepted.contains p.1) ≠ .bad →
        (∃ p ∈ kvs, p.1 ∉ accepted) → withKeys accepted ks f = .range) := by
  simp only [withKeys, withKeysOf_eq, h]
  refine ⟨fun hl => if_pos hl, fun hl hf => ?_, fun hl hf hk => ?_⟩
  · rw [if_neg (Nat.not_lt.2 hl), hf]
  · have ha : (kvs.all fun p => accepted.contains p.1) = false := by
      obtain ⟨p, hp, hn⟩ := hk
      rw [List.all_eq_false]
      exact ⟨p, hp, by simpa using hn⟩
    rw [if_neg (Nat.not_lt.2 hl), ha]
    cases hv : f (kvs.filter fun p => accepted.contains p.1) with
    | ok v => rfl
    | range => rfl
    | bad => exact absurd hv hf

/-- Settles O10: check 4, then check 5, by what the parameter list and its form give. -/
theorem knownRecordRefusals : Obligations.KnownRecordRefusals := by
  unfold Obligations.KnownRecordRefusals
  refine ⟨fun k c s rest hc h => ⟨fun ha => ?_, fun ha hp => ?_, fun ps ha hp hf => ?_, fun ps ha hp hf => ?_⟩,
    fun t => ⟨fun ht => ?_, fun ht => ?_⟩, fun t => ⟨fun ht h2 h4 => ?_, fun ht => ?_⟩, fun α allowed t hw hn => ?_,
    fun t u => ⟨rfl, rfl, rfl, rfl, rfl, rfl⟩,
    fun α accepted ks kvs f hk => withKeys_of_keyvals accepted ks kvs f hk⟩
  · obtain ⟨α, form, owner, -, he⟩ := exec_of_commandsOf hc (s := s) fun hk => by subst hk; cases ha
    rw [he, onRecord_of_not_admitted h ha]
  · obtain ⟨α, form, owner, -, he⟩ := exec_of_commandsOf hc (s := s) fun hk => by
      subst hk; exact lineWord_of_refused h (.inl hp)
    rw [he, onRecord_of_unread h ha hp, refuseForm_removeRecord]
  · obtain ⟨α, form, owner, hr, he⟩ := exec_of_commandsOf hc (s := s) fun hk => by
      subst hk; exact lineWord_of_refused h (.inr ⟨ps, hp, formLine_of_formResult hf nofun⟩)
    rw [he, (onRecord_of_misformed h ha hp).1 (map_unit_eq.1 ((hr ps).symm.trans hf)), refuseForm_removeRecord]
  · obtain ⟨α, form, owner, hr, he⟩ := exec_of_commandsOf hc (s := s) fun hk => by
      subst hk; exact lineWord_of_refused h (.inr ⟨ps, hp, formLine_of_formResult hf nofun⟩)
    rw [he, (onRecord_of_misformed h ha hp).2 (map_unit_eq.2 ((hr ps).symm.trans hf)), refuseForm_removeRecord]
  · simp only [asName, ht, if_true]
  · simp only [asName, ht, Bool.false_eq_true, if_false]
  · simp only [asHex, if_pos (And.intro ht h2), if_neg (Nat.not_le.2 h4)]
  · have hn : ¬(t.all isHex = true ∧ t.length % 2 = 0) := fun ⟨h1, h2⟩ => by
      rcases ht with h | h
      · rw [h] at h1; cases h1
      · omega
    simp only [asHex, if_neg hn]
  · have hf : (allowed.find? fun p => p.1 == t) = none := by
      simpa [List.find?_eq_none] using fun a b hp => hn (a, b) hp
    simp only [asWord, wordValue, hw, if_true, hf]

end Sys2Proof.Machine
end

section
/-! SUPPORT. Chains of blocks, the bytes a load appends, and the directory after a load or a deletion (Chapter 2). -/

namespace Sys2Proof.Machine

/-! ## Chains (R19, R20) -/

/-- A chain begins at its first block. -/
theorem IsChain.head {chain : Vector Link 256} {first : Option Nat} {B : List Nat} (h : IsChain chain first B) :
    first = B.head? := by
  match first, B, h with
  | none, [], _ => rfl
  | some _, [_], h => exact congrArg some h.1
  | some _, _ :: _ :: _, h => exact congrArg some h.1

/-- A block of a chain is one of the store's and is not FREE. -/
theorem IsChain.not_free {chain : Vector Link 256} {first : Option Nat} {B : List Nat} (h : IsChain chain first B) :
    ∀ b ∈ B, ∃ l, chain[b]? = some l ∧ l ≠ .free := by
  induction B generalizing first with
  | nil => exact nofun
  | cons c B ih =>
    intro b hb
    cases first with
    | none => exact h.elim
    | some a =>
      cases B with
      | nil =>
        obtain ⟨rfl, hl⟩ := h
        cases List.mem_singleton.1 hb
        exact ⟨_, hl, nofun⟩
      | cons d B =>
        obtain ⟨rfl, hl, hB⟩ := h
        rcases List.mem_cons.1 hb with rfl | hb
        · exact ⟨_, hl, nofun⟩
        · exact ih hB b hb

/-- A link that can be read is that of one of the 256 blocks. -/
theorem chain_lt {chain : Vector Link 256} {b : Nat} {l : Link} (h : chain[b]? = some l) : b < 256 := by
  by_contra hn
  simp [Vector.getElem?_eq_none (Nat.not_lt.1 hn)] at h

/-- A chain that names no block twice has at most 256 blocks. -/
theorem IsChain.length_le {chain : Vector Link 256} {first : Option Nat} {B : List Nat} (h : IsChain chain first B)
    (hn : B.Nodup) : B.length ≤ 256 := by
  have hsub : B ⊆ List.range 256 := fun b hb => by
    obtain ⟨l, hl, -⟩ := h.not_free b hb
    exact List.mem_range.2 (chain_lt hl)
  simpa using (List.subperm_of_subset hn hsub).length_le

/-- The walk over a chain finds its blocks. -/
theorem chainFrom_of_isChain {chain : Vector Link 256} {first : Option Nat} {B : List Nat} {fuel : Nat}
    (h : IsChain chain first B) (hf : B.length ≤ fuel) : chainFrom chain fuel first = B := by
  induction B generalizing first fuel with
  | nil =>
    cases first with
    | none => cases fuel <;> rfl
    | some a => exact h.elim
  | cons c B ih =>
    cases first with
    | none => exact h.elim
    | some a =>
      cases fuel with
      | zero => simp at hf
      | succ fuel =>
        cases B with
        | nil =>
          obtain ⟨rfl, hl⟩ := h
          simp [chainFrom, hl]
        | cons d B =>
          obtain ⟨rfl, hl, hB⟩ := h
          simp [chainFrom, hl, ih hB (by simpa using hf)]

/-- The blocks an entry holds are those of its chain. -/
theorem entryBlocks_of_isChain {os : ObjectStore} {e : Entry} {B : List Nat} (h : IsChain os.chain e.firstBlock B)
    (hn : B.Nodup) : entryBlocks os e = B :=
  chainFrom_of_isChain h (h.length_le hn)

/-- The lowest FREE block is FREE. -/
theorem lowestFree_some {os : ObjectStore} {b : Nat} (h : lowestFree os = some b) :
    b < 256 ∧ os.chain[b]? = some .free := by
  simp only [lowestFree, List.findIdx?_eq_some_iff_getElem] at h
  obtain ⟨hlt, hp, -⟩ := h
  have hb : b < 256 := by simpa using hlt
  refine ⟨hb, ?_⟩
  rw [Vector.getElem?_eq_getElem hb]
  simpa using hp

/-- A chain that gains a FREE block at its end (R20). -/
theorem isChain_concat {chain : Vector Link 256} {B : List Nat} {b p : Nat} (h : IsChain chain B.head? B)
    (hn : B.Nodup) (hp : B.getLast? = some p) (hb : chain[b]? = some .free) :
    IsChain ((chain.setIfInBounds b .last).setIfInBounds p (.next b)) (B ++ [b]).head? (B ++ [b]) := by
  have hb256 := chain_lt hb
  have hfresh : ∀ c ∈ B, c ≠ b := by
    rintro c hc rfl
    obtain ⟨l, hl, hne⟩ := h.not_free c hc
    exact hne (Option.some.inj (hl.symm.trans hb))
  induction B with
  | nil => simp at hp
  | cons c B ih =>
    have hcb : c ≠ b := hfresh c (by simp)
    cases B with
    | nil =>
      obtain rfl : c = p := by simpa using hp
      obtain ⟨-, hl⟩ := h
      refine ⟨rfl, ?_, rfl, ?_⟩
      · rw [Vector.getElem?_setIfInBounds_self]
        simp [chain_lt hl]
      · rw [Vector.getElem?_setIfInBounds_ne hcb, Vector.getElem?_setIfInBounds_self]
        simp [hb256]
    | cons d B =>
      obtain ⟨-, hl, hB⟩ := h
      have hp' : (d :: B).getLast? = some p := by simpa using hp
      have hcp : p ≠ c := fun he =>
        (List.nodup_cons.1 hn).1 (he ▸ List.mem_of_getLast? hp')
      refine ⟨rfl, ?_, ih hB (List.nodup_cons.1 hn).2 hp' fun x hx => hfresh x (List.mem_cons_of_mem _ hx)⟩
      rw [Vector.getElem?_setIfInBounds_ne hcp, Vector.getElem?_setIfInBounds_ne hcb.symm, hl]

/-- One block allocated to an entry: its chain gains the lowest FREE block (R20). -/
theorem allocBlock_some {i b : Nat} {e : Entry} {os : ObjectStore} {B : List Nat}
    (h : IsChain os.chain e.firstBlock B) (hn : B.Nodup) (hb : lowestFree os = some b) :
    ∃ e1 os1, allocBlock i e os = some (e1, os1) ∧ e1 = { e with firstBlock := (B ++ [b]).head? }
      ∧ os1.ram = os.ram.setIfInBounds i (some e1) ∧ os1.blocks = os.blocks ∧ os1.romRefs = os.romRefs
      ∧ os1.defn = os.defn ∧ IsChain os1.chain (B ++ [b]).head? (B ++ [b]) ∧ (B ++ [b]).Nodup := by
  obtain ⟨hb256, hfree⟩ := lowestFree_some hb
  have hnew : b ∉ B := fun hm => by
    obtain ⟨l, hl, hne⟩ := h.not_free b hm
    exact hne (Option.some.inj (hl.symm.trans hfree))
  have hn' : (B ++ [b]).Nodup := by
    rw [List.nodup_append]
    exact ⟨hn, List.nodup_singleton b, fun x hx y hy he => hnew (List.mem_singleton.1 hy ▸ he ▸ hx)⟩
  simp only [allocBlock, hb, entryBlocks_of_isChain h hn]
  cases B with
  | nil =>
    refine ⟨_, _, rfl, rfl, rfl, rfl, rfl, rfl, ⟨rfl, ?_⟩, hn'⟩
    rw [Vector.getElem?_setIfInBounds_self]
    simp [hb256]
  | cons c B =>
    obtain ⟨p, hp⟩ : ∃ p, (c :: B).getLast? = some p := ⟨_, List.getLast?_eq_some_getLast (by simp)⟩
    have hf := h.head
    rw [hp]
    refine ⟨_, _, rfl, ?_, rfl, rfl, rfl, rfl, isChain_concat (hf ▸ h) hn hp hfree, hn'⟩
    rw [show ((c :: B) ++ [b]).head? = e.firstBlock from hf.symm]

/-! ## Bytes appended (R27) -/

/-- A hex run that BLK reads has at most 240 bytes (R7). -/
theorem hexBytes_length (t : Text) : 2 * (hexBytes t).length ≤ t.length := by
  induction t using hexBytes.induct with
  | case1 a b cs ih => simp only [hexBytes, List.length_cons]; omega
  | case2 t h => simp [hexBytes]

/-- BLK carries at most 240 bytes (R7, R27). -/
theorem formBlk_length {ps : List Param} {bytes : List Byte} (h : formBlk ps = .ok bytes) : bytes.length ≤ 240 := by
  unfold formBlk at h
  split at h
  · next p =>
    cases p with
    | bare t =>
      simp only [asHex] at h
      split at h
      · split at h
        · next hl =>
          cases h
          have := hexBytes_length t
          omega
        · cases h
      · cases h
    | quoted _ => cases h
    | keyval _ _ => cases h
  · cases h

/-- The entry after bytes were appended: its first block, its received count and, of a format, its length (R21). -/
def Entry.appended (e : Entry) (first : Option Nat) (n : Nat) : Entry :=
  { e with
    firstBlock := first, received := e.received + n
    length := if e.kind = .format then e.received + n else e.length }

/-- The store after bytes were appended where the blocks held have room. -/
theorem appendBytes_of_room {i : Nat} {e : Entry} {bytes : List Byte} {os : ObjectStore}
    (h : e.received + bytes.length ≤ 1024 * (entryBlocks os e).length) :
    appendBytes i e bytes os = some { os with
      blocks := writeObject (entryBlocks os e) e.received bytes os.blocks
      ram := os.ram.setIfInBounds i (some (e.appended e.firstBlock bytes.length)) } := by
  simp only [appendBytes, if_neg (Nat.not_lt.2 h)]
  rfl

/-- The store after bytes were appended where one block more is wanted. -/
theorem appendBytes_of_alloc {i : Nat} {e e1 : Entry} {bytes : List Byte} {os os1 : ObjectStore}
    (h : 1024 * (entryBlocks os e).length < e.received + bytes.length) (ha : allocBlock i e os = some (e1, os1)) :
    appendBytes i e bytes os = some { os1 with
      blocks := writeObject (entryBlocks os1 e1) e.received bytes os1.blocks
      ram := os1.ram.setIfInBounds i (some { e1 with
        received := e.received + bytes.length
        length := if e1.kind = .format then e.received + bytes.length else e1.length }) } := by
  simp only [appendBytes, if_pos h, ha]

/-- No bytes are appended where a block more is wanted and none is FREE. -/
theorem appendBytes_of_full {i : Nat} {e : Entry} {bytes : List Byte} {os : ObjectStore}
    (h : 1024 * (entryBlocks os e).length < e.received + bytes.length) (hf : lowestFree os = none) :
    appendBytes i e bytes os = none := by
  simp only [appendBytes, if_pos h, allocBlock, hf]

/-- A directory in which one entry was replaced. -/
theorem ramEntry_of_ram {os os' : ObjectStore} {i : Nat} {o : Option Entry}
    (h : os'.ram = os.ram.setIfInBounds i o) (hi : i < 48) :
    ramEntry os' i = o ∧ ∀ j, j ≠ i → ramEntry os' j = ramEntry os j := by
  have he : ∀ j, ramEntry os' j = ramEntry (setEntry i o os) j := fun j => by simp [ramEntry, setEntry, h]
  exact ⟨(he i).trans (ramEntry_setEntry_self i o os hi),
    fun j hj => (he j).trans (ramEntry_setEntry_of_ne i j o os hj)⟩

/-- Bytes appended to an object whose blocks are a chain: where they stand, in which blocks, and what stays (R27). -/
theorem appendBytes_spec {i : Nat} {e : Entry} {bytes : List Byte} {os : ObjectStore} {B : List Nat}
    (he : ramEntry os i = some e) (hc : IsChain os.chain e.firstBlock B) (hn : B.Nodup)
    (hr : e.received ≤ 1024 * B.length) (hl : bytes.length ≤ 1024)
    (hroom : e.received + bytes.length ≤ 1024 * B.length ∨ lowestFree os ≠ none) :
    ∃ os' B', appendBytes i e bytes os = some os'
      ∧ (if e.received + bytes.length ≤ 1024 * B.length then B' = B
        else ∃ b, lowestFree os = some b ∧ B' = B ++ [b])
      ∧ IsChain os'.chain B'.head? B' ∧ B'.Nodup ∧ e.received + bytes.length ≤ 1024 * B'.length
      ∧ ramEntry os' i = some (e.appended B'.head? bytes.length)
      ∧ (∀ j, j ≠ i → ramEntry os' j = ramEntry os j) ∧ os'.romRefs = os.romRefs ∧ os'.defn = os.defn
      ∧ os'.blocks = writeObject B' e.received bytes os.blocks := by
  have hi := ramEntry_lt he
  have hB := entryBlocks_of_isChain hc hn
  by_cases hfit : e.received + bytes.length ≤ 1024 * B.length
  · have ha := appendBytes_of_room (i := i) (hB.symm ▸ hfit)
    obtain ⟨hself, hother⟩ := ramEntry_of_ram (os := os) (os' := { os with
      blocks := writeObject (entryBlocks os e) e.received bytes os.blocks
      ram := os.ram.setIfInBounds i (some (e.appended e.firstBlock bytes.length)) }) rfl hi
    refine ⟨_, B, ha, by rw [if_pos hfit], hc.head ▸ hc, hn, hfit, ?_, hother, rfl, rfl, ?_⟩
    · rw [hself, hc.head]
    · rw [hB]
  · obtain ⟨b, hb⟩ := Option.ne_none_iff_exists'.1 (hroom.resolve_left hfit)
    obtain ⟨e1, os1, halloc, he1, hram, hblocks, hrefs, hdefn, hc1, hn1⟩ := allocBlock_some (i := i) hc hn hb
    have hB1 : entryBlocks os1 e1 = B ++ [b] := by
      refine entryBlocks_of_isChain ?_ hn1
      rw [he1]
      exact hc1
    have ha := appendBytes_of_alloc (hB.symm ▸ Nat.lt_of_not_le hfit) halloc
    refine ⟨_, B ++ [b], ha, ?_, hc1, hn1, ?_, ?_, ?_, hrefs, hdefn, ?_⟩
    · rw [if_neg hfit]
      exact ⟨b, hb, rfl⟩
    · simp only [List.length_append, List.length_singleton]
      omega
    · refine (ramEntry_of_ram (os := os1) rfl hi).1.trans ?_
      rw [he1]
      rfl
    · intro j hj
      exact ((ramEntry_of_ram (os := os1) rfl hi).2 j hj).trans ((ramEntry_of_ram hram hi).2 j hj)
    · rw [hB1, hblocks]

/-! ## Entries freed (R20, R22, R30) -/

/-- Blocks set FREE are FREE. -/
theorem freeBlocks_chain {blocks : List Nat} {chain : Vector Link 256} {b : Nat} (hb : b < 256)
    (h : b ∈ blocks ∨ chain[b]? = some .free) :
    (blocks.foldl (fun c b => c.setIfInBounds b .free) chain)[b]? = some .free := by
  induction blocks generalizing chain with
  | nil => exact h.resolve_left nofun
  | cons c blocks ih =>
    refine ih ?_
    by_cases hbc : c = b
    · subst hbc
      right
      rw [Vector.getElem?_setIfInBounds_self]
      simp [hb]
    · rcases h with h | h
      · exact .inl ((List.mem_cons.1 h).resolve_left (Ne.symm hbc))
      · right
        rw [Vector.getElem?_setIfInBounds_ne hbc, h]

/-- What is left of the store once an entry is freed. -/
theorem freeEntry_eq {i : Nat} {e : Entry} {os : ObjectStore} (h : ramEntry os i = some e) :
    freeEntry i os = { os with
      ram := os.ram.setIfInBounds i none
      chain := (entryBlocks os e).foldl (fun c b => c.setIfInBounds b .free) os.chain } := by
  simp only [freeEntry, h]
  rfl

/-- An abandoned load leaves its entry and its blocks free and ends the definition state (R30). -/
theorem abandonLoad_eq {i : Nat} {e : Entry} {os : ObjectStore} (h : loadingEntry os = some (i, e)) :
    abandonLoad os = { freeEntry i os with defn := none } := by
  simp only [abandonLoad, h]

/-- An abandoned context of a load abandons the load (R9, R30). -/
theorem abandonContext_os {s : State} (h : s.jl.context = .object ∨ s.jl.context = .format) :
    (abandonContext s).os = abandonLoad s.os := by
  rcases h with h | h <;> simp only [abandonContext, h] <;> rfl

/-! ## Loads completed (R25, R29) -/

/-- The LIVE entry of a name is LIVE under it. -/
theorem liveEntry_some {os : ObjectStore} {name : Text} {j : Nat} {p : Entry} (h : liveEntry os name = some (j, p)) :
    ramEntry os j = some p ∧ p.state = .live ∧ p.name = name := by
  obtain ⟨hp, hl⟩ := findEntry_some h
  simp only [Bool.and_eq_true, beq_iff_eq] at hl
  exact ⟨hp, hl⟩

/-- The entry that a load leaves LIVE (R29). -/
def Entry.completed (e : Entry) (length generation : Nat) (format : Option Format) : Entry :=
  { e with state := .live, length := length, generation := generation, format := format }

/-- A completed load where no entry of the name was LIVE (R25, R29). -/
theorem completeLoad_of_new {i : Nat} {e : Entry} {n : Nat} {f : Option Format} {os : ObjectStore}
    (h : liveEntry os e.name = none) :
    completeLoad i e n f os = { setEntry i (some (e.completed n 1 f)) os with defn := none } := by
  simp only [completeLoad, h]
  rfl

/-- A completed load that takes a name over (R25, R29). -/
theorem completeLoad_of_replaced {i j : Nat} {e p : Entry} {n : Nat} {f : Option Format} {os : ObjectStore}
    (h : liveEntry os e.name = some (j, p)) :
    completeLoad i e n f os = retireEntry j p
      { setEntry i (some (e.completed n (if p.generation = 255 then 1 else p.generation + 1) f)) os with
        defn := none } := by
  simp only [completeLoad, h]
  rfl

/-- What a completed load leaves of the directory and the store (R25, R29). -/
theorem completeLoad_spec {i : Nat} {e : Entry} {n : Nat} {f : Option Format} {os : ObjectStore}
    (he : ramEntry os i = some e) (hl : e.state ≠ .live) :
    (liveEntry os e.name = none →
        ramEntry (completeLoad i e n f os) i = some (e.completed n 1 f)
          ∧ (∀ j, j ≠ i → ramEntry (completeLoad i e n f os) j = ramEntry os j)
          ∧ (completeLoad i e n f os).chain = os.chain)
      ∧ (∀ j p, liveEntry os e.name = some (j, p) →
        ramEntry (completeLoad i e n f os) i
            = some (e.completed n (if p.generation = 255 then 1 else p.generation + 1) f)
          ∧ ramEntry (completeLoad i e n f os) j = (if 0 < p.refs then some { p with state := .retired } else none)
          ∧ (0 < p.refs → (completeLoad i e n f os).chain = os.chain)
          ∧ (p.refs = 0 → ∀ b, b ∈ entryBlocks os p → b < 256 →
            (completeLoad i e n f os).chain[b]? = some .free)
          ∧ ∀ k, k ≠ i → k ≠ j → ramEntry (completeLoad i e n f os) k = ramEntry os k)
      ∧ (completeLoad i e n f os).blocks = os.blocks ∧ (completeLoad i e n f os).romRefs = os.romRefs
      ∧ (completeLoad i e n f os).defn = none := by
  have hi := ramEntry_lt he
  have hset : ∀ x, (∀ k, k ≠ i → ramEntry { setEntry i (some x) os with defn := none } k = ramEntry os k)
      ∧ ramEntry { setEntry i (some x) os with defn := none } i = some x := fun x =>
    ⟨fun k hk => ramEntry_setEntry_of_ne i k _ os hk, ramEntry_setEntry_self i _ os hi⟩
  cases hprev : liveEntry os e.name with
  | none =>
    rw [completeLoad_of_new hprev]
    exact ⟨fun _ => ⟨(hset _).2, (hset _).1, rfl⟩, nofun, rfl, rfl, rfl⟩
  | some jp =>
    obtain ⟨j, p⟩ := jp
    rw [completeLoad_of_replaced hprev]
    obtain ⟨hp, hpl, -⟩ := liveEntry_some hprev
    have hji : j ≠ i := by
      rintro rfl
      rw [he] at hp
      cases hp
      exact hl hpl
    generalize hlive : e.completed n (if p.generation = 255 then 1 else p.generation + 1) f = live
    obtain ⟨hother, hself⟩ := hset live
    have hpj := (hother j hji).trans hp
    have hram := ramEntry_retireEntry hpj
    have hkept : (retireEntry j p { setEntry i (some live) os with defn := none }).blocks = os.blocks
        ∧ (retireEntry j p { setEntry i (some live) os with defn := none }).romRefs = os.romRefs
        ∧ (retireEntry j p { setEntry i (some live) os with defn := none }).defn = none := by
      unfold retireEntry
      split
      · exact ⟨rfl, rfl, rfl⟩
      · rw [freeEntry_eq hpj]
        exact ⟨rfl, rfl, rfl⟩
    refine ⟨nofun, fun j' p' h' => ?_, hkept⟩
    cases h'
    refine ⟨?_, ?_, fun hr => ?_, fun hr b hb hlt => ?_, fun k hki hkj => ?_⟩
    · rw [hram, if_neg hji.symm, hself, hlive]
    · rw [hram, if_pos rfl]
    · rw [retireEntry, if_pos hr]
      rfl
    · rw [retireEntry, if_neg (by omega), freeEntry_eq hpj]
      exact freeBlocks_chain hlt (.inl hb)
    · rw [hram, if_neg hkj, hother k hki]

end Sys2Proof.Machine
end

section
/-! The statements about the object store (Chapters 2 and 13). -/

namespace Sys2Proof.Machine

/-- Settles O14, by the checks of OBJ and of FMT. -/
theorem loadsOpenAnEntry : Obligations.LoadsOpenAnEntry := by
  unfold Obligations.LoadsOpenAnEntry
  refine ⟨fun s f h => ?_, fun s f h => ?_⟩
  · have hx : exec .obj s = .next (takeObj f (removeRecord s)) := congrArg _ (onRecord_of_takes h takeObj)
    rw [hx]
    unfold takeObj
    refine ⟨fun h1 h2 i hi => ?_, fun h1 h2 hi => ?_, fun hl => ?_⟩
    · rw [if_neg (by omega)]
      simp only [removeRecord_os, hi]
      rfl
    · rw [if_neg (by omega)]
      simp only [removeRecord_os, hi]
      rfl
    · rw [if_pos hl]
      rfl
  · have hx : exec .fmt s = .next (takeFmt f (removeRecord s)) := congrArg _ (onRecord_of_takes h takeFmt)
    rw [hx]
    unfold takeFmt
    refine ⟨fun h1 h2 hw => ?_, fun hl => ?_⟩
    · have hn : ¬(f.length < 8 ∨ 2400 < f.length ∨ f.width.getD 832 < 8 ∨ 832 < f.width.getD 832) := by
        cases hf : f.width with
        | none => simp; omega
        | some w =>
          have := hw w hf
          simp
          omega
      refine ⟨fun i hi => ?_, fun hi => ?_⟩
      · simp only [if_neg hn, removeRecord_os, hi]
        rfl
      · simp only [if_neg hn, removeRecord_os, hi]
        rfl
    · have hp : f.length < 8 ∨ 2400 < f.length ∨ f.width.getD 832 < 8 ∨ 832 < f.width.getD 832 := by
        rcases hl with h | h | ⟨w, hw, h⟩
        · exact .inl h
        · exact .inr (.inl h)
        · rw [hw]
          exact .inr (.inr h)
      simp only [if_pos hp]
      rfl

/-- A BLK within the declared length appends its bytes (R27). -/
theorem exec_blk_of_fit {s : State} {bytes : List Byte} {i : Nat} {e : Entry} {os : ObjectStore}
    (h : Takes .blk formBlk bytes s) (he : loadingEntry s.os = some (i, e))
    (hf : e.received + bytes.length ≤ e.length) (ha : appendBytes i e bytes s.os = some os) :
    exec .blk s = .next { removeRecord s with os := os } := by
  have hx : exec .blk s = .next (takeBlk bytes (removeRecord s)) := congrArg _ (onRecord_of_takes h takeBlk)
  rw [hx]
  simp only [takeBlk, removeRecord_os, he, if_neg (Nat.not_lt.2 hf), ha]

/-- Settles O15: the bytes go behind those received, in the chain's blocks or in one block more. -/
theorem blkAppendsBytes : Obligations.BlkAppendsBytes := by
  unfold Obligations.BlkAppendsBytes
  intro s bytes i e B h he hc hn hwf hr hfit hroom
  have hl : bytes.length ≤ 1024 := by
    obtain ⟨-, ps, -, -, -, hps⟩ := h
    exact (formBlk_length hps).trans (by decide)
  obtain ⟨os, B', ha, hB', hc', hn', hlen, hself, hother, hrefs, hdefn, hblocks⟩ :=
    appendBytes_spec (findEntry_some he).1 hc hn hr hl hroom
  refine ⟨os, B', exec_blk_of_fit h he hfit ha, hB', hc', hn', hself, hother, hrefs, hdefn, fun j v hv => ?_,
    fun a hna => ?_⟩
  · rw [hblocks]
    refine writeObject_read_self _ _ _ _ (fun x y hx hy hxy => ?_) j v hv
    have := byteAddress_inj B' hn' _ _ (by omega) (by omega) hxy
    omega
  · rw [hblocks]
    exact writeObject_read_of_ne _ _ _ _ _ hna

/-- Settles O16, by the checks of BLK and of EOB, and by what an abandoned load leaves. -/
theorem failedLoadsAbandoned : Obligations.FailedLoadsAbandoned := by
  unfold Obligations.FailedLoadsAbandoned
  refine ⟨fun s bytes i e h he => ?_, fun s i e h he => ?_, fun s i e hctx he => ?_⟩
  · have hx : exec .blk s = .next (takeBlk bytes (removeRecord s)) := congrArg _ (onRecord_of_takes h takeBlk)
    rw [hx]
    refine ⟨fun hl => ?_, fun hl hb hf => ?_⟩
    · simp only [takeBlk, removeRecord_os, he, if_pos hl]
      rfl
    · simp only [takeBlk, removeRecord_os, he, if_neg (Nat.not_lt.2 hl), appendBytes_of_full hb hf]
      rfl
  · have hx : exec .eob s = .next (takeEob () (removeRecord s)) := congrArg _ (onRecord_of_takes h takeEob)
    rw [hx]
    refine ⟨fun hl => ?_, fun hl hg => ?_⟩
    · simp only [takeEob, removeRecord_os, he, if_pos hl]
      rfl
    · have hg' : goodContent (removeRecord s) i e = false := hg
      simp only [takeEob, removeRecord_os, he, hl, ne_eq, not_true_eq_false, if_false, hg', Bool.false_eq_true]
      rfl
  · have hi := (findEntry_some he).1
    have hos := (abandonContext_os hctx).trans (abandonLoad_eq he)
    refine ⟨abandonContext_context s, by rw [hos], ?_, fun b hb hlt => ?_, fun j hj => ?_⟩
    · rw [hos]
      exact (ramEntry_freeEntry i i s.os).trans (if_pos rfl)
    · rw [hos, freeEntry_eq hi]
      exact freeBlocks_chain hlt (.inl hb)
    · rw [hos]
      exact (ramEntry_freeEntry i j s.os).trans (if_neg hj)

/-- Settles O17: the load completes, and the earlier LIVE entry of its name leaves it. -/
theorem eobCompletesLoad : Obligations.EobCompletesLoad := by
  unfold Obligations.EobCompletesLoad
  intro s i e h he hl hg
  have hx : exec .eob s = .next (takeEob () (removeRecord s)) := congrArg _ (onRecord_of_takes h takeEob)
  have hg' : goodContent (removeRecord s) i e = true := hg
  obtain ⟨hi, hload⟩ := loadingEntry_some he
  obtain ⟨hnew, hold, hblocks, hrefs, hdefn⟩ := completeLoad_spec (n := e.length) (f := none) hi (by simp [hload])
  refine ⟨completeLoad i e e.length none s.os, ?_, hnew, fun j p hp => ?_, hblocks, hrefs, hdefn⟩
  · rw [hx]
    simp only [takeEob, removeRecord_os, he, hl, ne_eq, not_true_eq_false, if_false, hg', if_true]
    rfl
  · obtain ⟨hself, hj, hchain, hfree, hother⟩ := hold j p hp
    refine ⟨hself, fun hr => ⟨by rw [hj, if_pos hr], hchain hr⟩, fun hr => ⟨by rw [hj, if_neg (by omega)], hfree hr⟩,
      hother⟩

/-- Settles O18: the LIVE entry of the name retires or is freed, and a name with none is refused. -/
theorem delRemovesName : Obligations.DelRemovesName := by
  unfold Obligations.DelRemovesName
  intro s name h
  have hx : exec .del s = .next (takeDel name (removeRecord s)) := congrArg _ (onRecord_of_takes h takeDel)
  rw [hx]
  refine ⟨fun i e he hr => ?_, fun i e he hr => ?_, fun hn ⟨f, hf⟩ => ?_, fun hn hf => ?_⟩
  · simp only [takeDel, removeRecord_os, he, retireEntry, if_pos hr]
    rfl
  · have hr' : ¬e.refs > 0 := by omega
    simp only [takeDel, removeRecord_os, he, retireEntry, if_neg hr', freeEntry_eq (liveEntry_some he).1]
  · simp only [takeDel, removeRecord_os, hn, hf, Option.isSome_some, if_true]
    rfl
  · simp only [takeDel, removeRecord_os, hn, hf, Option.isSome_none, Bool.false_eq_true, if_false]
    rfl

end Sys2Proof.Machine
end

section
/-! The statements about formats and fields (Chapter 3). -/

namespace Sys2Proof.Machine

/-! ## The values of a field record (R42, R46) -/

/-- A value in range is carried as it is. -/
theorem inRange_eq_some {lo hi n : Nat} {v : Int} : inRange lo hi v = some n ↔ lo ≤ v ∧ v ≤ hi ∧ n = v.toNat := by
  unfold inRange
  split
  · next h => simp [h, eq_comm]
  · next h => simp only [reduceCtorEq, false_iff]; exact fun ⟨h1, h2, _⟩ => h ⟨h1, h2⟩

/-- A value is carried exactly when it is in range. -/
theorem inRange_isSome {lo hi : Nat} {v : Int} : (inRange lo hi v).isSome = true ↔ (lo : Int) ≤ v ∧ v ≤ hi := by
  unfold inRange
  split
  · next h => simp [h]
  · next h => simp only [Option.isSome_none, Bool.false_eq_true, false_iff]; exact h

/-- A rotation is one of the four (R42). -/
theorem rotationOf_isSome {r : Option Int} :
    (rotationOf r).isSome = true ↔ r = none ∨ r = some 0 ∨ r = some 90 ∨ r = some 180 ∨ r = some 270 := by
  cases r with
  | none => simp [rotationOf]
  | some v =>
    simp only [rotationOf, reduceCtorEq, false_or, Option.some.injEq]
    (repeat' split) <;> simp_all

/-- The rotation a record gives (R42). -/
theorem rotationOf_some {r : Option Int} {rot : Rotation} (h : rotationOf r = some rot) :
    rot = (if r = some 90 then .r90 else if r = some 180 then .r180 else if r = some 270 then .r270 else .r0) := by
  cases r with
  | none => cases h; rfl
  | some v =>
    simp only [rotationOf] at h
    split at h
    · next hv => subst hv; cases h; rfl
    · split at h
      · next hv => subst hv; cases h; rfl
      · split at h
        · next hv => subst hv; cases h; rfl
        · split at h
          · next hv => subst hv; cases h; rfl
          · cases h

/-- A source is carried exactly when R46 allows it. -/
theorem sourceOf_isSome {f : SourceForm} : (sourceOf f).isSome = true ↔ f.sound := by
  cases f with
  | literal t =>
    simp only [sourceOf, SourceForm.sound]
    split
    · next h => simp [h]
    · next h => simpa using h
  | item n => simp only [sourceOf, Option.isSome_map, inRange_isSome, SourceForm.sound]; norm_num
  | ctr n => simp only [sourceOf, Option.isSome_map, inRange_isSome, SourceForm.sound]; norm_num

/-- A source is carried as it is written (R46). -/
theorem sourceOf_some {f : SourceForm} {src : Source} (h : sourceOf f = some src) : f.gives src := by
  cases f with
  | literal t =>
    simp only [sourceOf] at h
    split at h
    · cases h; exact rfl
    · cases h
  | item n =>
    obtain ⟨m, hm, rfl⟩ := Option.map_eq_some_iff.1 h
    obtain ⟨h1, -, rfl⟩ := inRange_eq_some.1 hm
    exact Int.toNat_of_nonneg (by omega)
  | ctr n =>
    obtain ⟨m, hm, rfl⟩ := Option.map_eq_some_iff.1 h
    obtain ⟨h1, -, rfl⟩ := inRange_eq_some.1 hm
    exact Int.toNat_of_nonneg (by omega)

/-- A field is built exactly where its origin lies on the label, its rotation is one of the four and its body is in
range (R42). -/
theorem placeField_isSome {d : Format} {p : PlaceForm} {body : Option FieldBody} (hw : 0 < d.width)
    (hl : 0 < d.length) : (placeField d p body).isSome = true ↔ p.onLabel d ∧ body.isSome = true := by
  have h1 : (inRange 0 (d.width - 1) p.x).isSome = true ↔ 0 ≤ p.x ∧ p.x ≤ (d.width : Int) - 1 := by
    rw [inRange_isSome]; omega
  have h2 : (inRange 0 (d.length - 1) p.y).isSome = true ↔ 0 ≤ p.y ∧ p.y ≤ (d.length : Int) - 1 := by
    rw [inRange_isSome]; omega
  have h3 := rotationOf_isSome (r := p.rot)
  simp only [PlaceForm.onLabel, ← h3, ← and_assoc]
  rw [← h1, and_assoc (a := (inRange 0 (d.width - 1) p.x).isSome = true), ← h2]
  unfold placeField
  cases inRange 0 (d.width - 1) p.x <;> cases inRange 0 (d.length - 1) p.y <;> cases rotationOf p.rot <;>
    cases body <;> simp

/-- A field built lies where its record says and has the body given. -/
theorem placeField_some {d : Format} {p : PlaceForm} {body : Option FieldBody} {x : Field}
    (h : placeField d p body = some x) : p.places x ∧ body = some x.body := by
  unfold placeField at h
  split at h
  · next hx hy hrot =>
    cases h
    obtain ⟨hx0, -, rfl⟩ := inRange_eq_some.1 hx
    obtain ⟨hy0, -, rfl⟩ := inRange_eq_some.1 hy
    exact ⟨⟨Int.toNat_of_nonneg (by simpa using hx0), Int.toNat_of_nonneg (by simpa using hy0), rfl,
      rotationOf_some hrot⟩, rfl⟩
  · cases h

/-! ## The bodies of the four fields (R48, R50, R52, R54) -/

/-- WIDE fitted between 2 and 3 modules, and RED to less than one (R50). -/
theorem fitted_eq {m : Nat} (w r : Int) :
    fitBetween (2 * m) (3 * m) w.toNat = (max (2 * (m : Int)) (min (3 * (m : Int)) w)).toNat
      ∧ (1 ≤ m → min r.toNat (m - 1) = (min r ((m : Int) - 1)).toNat) := by
  unfold fitBetween
  omega

/-- The body of a TXT field. -/
def txtBody (f : TxtForm) : Option FieldBody :=
  match sourceOf f.source, inRange 1 8 (f.mx.getD 1), inRange 1 8 (f.my.getD 1) with
  | some src, some mx, some my => some (.txt f.font src mx my)
  | _, _, _ => none

theorem buildTxt_eq (f : TxtForm) (d : Format) : buildTxt f d = placeField d f.place (txtBody f) := rfl

theorem txtBody_isSome (f : TxtForm) : (txtBody f).isSome = true ↔
    f.source.sound ∧ 1 ≤ f.mx.getD 1 ∧ f.mx.getD 1 ≤ 8 ∧ 1 ≤ f.my.getD 1 ∧ f.my.getD 1 ≤ 8 := by
  have h1 := sourceOf_isSome (f := f.source)
  have h2 := inRange_isSome (lo := 1) (hi := 8) (v := f.mx.getD 1)
  have h3 := inRange_isSome (lo := 1) (hi := 8) (v := f.my.getD 1)
  have : (txtBody f).isSome = true ↔ (sourceOf f.source).isSome = true
      ∧ (inRange 1 8 (f.mx.getD 1)).isSome = true ∧ (inRange 1 8 (f.my.getD 1)).isSome = true := by
    unfold txtBody
    cases sourceOf f.source <;> cases inRange 1 8 (f.mx.getD 1) <;> cases inRange 1 8 (f.my.getD 1) <;> simp
  rw [this, h1, h2, h3]
  norm_num [and_assoc]

theorem txtBody_some {f : TxtForm} {b : FieldBody} (h : txtBody f = some b) :
    ∃ src, f.source.gives src ∧ b = .txt f.font src (f.mx.getD 1).toNat (f.my.getD 1).toNat := by
  unfold txtBody at h
  split at h
  · next src mx my hs hx hy =>
    cases h
    obtain ⟨-, -, rfl⟩ := inRange_eq_some.1 hx
    obtain ⟨-, -, rfl⟩ := inRange_eq_some.1 hy
    exact ⟨src, sourceOf_some hs, rfl⟩
  · cases h

/-- WIDE as a BAR record gives it: five halves of a module where it is omitted. -/
def barWide (f : BarForm) (m : Nat) : Option Nat :=
  match f.wide with
  | none => some (5 * m / 2)
  | some w => inRange 2 30 w

/-- The body of a BAR field. -/
def barBody (f : BarForm) : Option FieldBody :=
  match sourceOf f.source, inRange 1 10 (f.module.getD 2), inRange 8 1200 (f.height.getD 80),
      inRange 0 9 (f.reduction.getD 0) with
  | some src, some m, some h, some r =>
    (barWide f m).map fun w => .bar f.symbology src m (fitBetween (2 * m) (3 * m) w) h (min r (m - 1)) f.check f.hr
  | _, _, _, _ => none

theorem buildBar_eq (f : BarForm) (d : Format) : buildBar f d = placeField d f.place (barBody f) := by
  unfold buildBar barBody barWide
  cases f.wide <;> cases sourceOf f.source <;> cases inRange 1 10 (f.module.getD 2) <;>
    cases inRange 8 1200 (f.height.getD 80) <;> cases inRange 0 9 (f.reduction.getD 0) <;> rfl

theorem barWide_isSome (f : BarForm) (m : Nat) :
    (barWide f m).isSome = true ↔ ∀ w, f.wide = some w → 2 ≤ w ∧ w ≤ 30 := by
  unfold barWide
  cases f.wide with
  | none => simp
  | some w => simp [inRange_isSome]

theorem barBody_isSome (f : BarForm) : (barBody f).isSome = true ↔
    f.source.sound ∧ 1 ≤ f.module.getD 2 ∧ f.module.getD 2 ≤ 10 ∧ 8 ≤ f.height.getD 80 ∧ f.height.getD 80 ≤ 1200
      ∧ 0 ≤ f.reduction.getD 0 ∧ f.reduction.getD 0 ≤ 9 ∧ ∀ w, f.wide = some w → 2 ≤ w ∧ w ≤ 30 := by
  have h1 := sourceOf_isSome (f := f.source)
  have h2 := inRange_isSome (lo := 1) (hi := 10) (v := f.module.getD 2)
  have h3 := inRange_isSome (lo := 8) (hi := 1200) (v := f.height.getD 80)
  have h4 := inRange_isSome (lo := 0) (hi := 9) (v := f.reduction.getD 0)
  have : (barBody f).isSome = true ↔ (sourceOf f.source).isSome = true
      ∧ (inRange 1 10 (f.module.getD 2)).isSome = true ∧ (inRange 8 1200 (f.height.getD 80)).isSome = true
      ∧ (inRange 0 9 (f.reduction.getD 0)).isSome = true ∧ ∀ w, f.wide = some w → 2 ≤ w ∧ w ≤ 30 := by
    unfold barBody
    cases sourceOf f.source <;> cases inRange 1 10 (f.module.getD 2) <;> cases inRange 8 1200 (f.height.getD 80) <;>
      cases inRange 0 9 (f.reduction.getD 0) <;> simp [Option.isSome_map, barWide_isSome]
  rw [this, h1, h2, h3, h4]
  norm_num [and_assoc]

theorem barBody_some {f : BarForm} {b : FieldBody} (h : barBody f = some b) :
    ∃ src, f.source.gives src ∧ b = .bar f.symbology src (f.module.getD 2).toNat
      (max (2 * f.module.getD 2) (min (3 * f.module.getD 2) (f.wide.getD (5 * f.module.getD 2 / 2)))).toNat
      (f.height.getD 80).toNat (min (f.reduction.getD 0) (f.module.getD 2 - 1)).toNat f.check f.hr := by
  unfold barBody at h
  split at h
  · next src m h' r hs hm hh hr =>
    obtain ⟨w, hw, rfl⟩ := Option.map_eq_some_iff.1 h
    obtain ⟨hm1, -, rfl⟩ := inRange_eq_some.1 hm
    obtain ⟨-, -, rfl⟩ := inRange_eq_some.1 hh
    obtain ⟨-, -, rfl⟩ := inRange_eq_some.1 hr
    have hmod : (((f.module.getD 2).toNat : Nat) : Int) = f.module.getD 2 := Int.toNat_of_nonneg (by omega)
    have hwide : w = (f.wide.getD (5 * f.module.getD 2 / 2)).toNat := by
      unfold barWide at hw
      cases hf : f.wide with
      | none =>
        simp only [hf, Option.some.injEq] at hw
        simp only [Option.getD_none]
        omega
      | some v =>
        simp only [hf] at hw
        exact (inRange_eq_some.1 hw).2.2
    refine ⟨src, sourceOf_some hs, ?_⟩
    obtain ⟨h1, h2⟩ := fitted_eq (m := (f.module.getD 2).toNat) (f.wide.getD (5 * f.module.getD 2 / 2))
      (f.reduction.getD 0)
    rw [hwide, h1, h2 (by omega), hmod]
  · cases h

/-- The body of a BOX field. -/
def boxBody (f : BoxForm) (d : Format) : Option FieldBody :=
  let turned := f.place.rot = some 90 ∨ f.place.rot = some 270
  match inRange 1 (if turned then d.length else d.width) f.width,
      inRange 1 (if turned then d.width else d.length) f.height, inRange 1 2400 (f.thickness.getD 1) with
  | some u, some v, some t => some (.box u v t)
  | _, _, _ => none

/-- A rotation turns the frame on its side exactly for 90 and 270 (R43). -/
theorem rotationOf_turned {r : Option Int} {rot : Rotation} (h : rotationOf r = some rot) :
    (rot = .r90 ∨ rot = .r270) ↔ (r = some 90 ∨ r = some 270) := by
  rw [rotationOf_some h]
  by_cases h1 : r = some 90
  · simp [h1]
  · by_cases h2 : r = some 180
    · simp [h2]
    · by_cases h3 : r = some 270 <;> simp [h1, h2, h3]

theorem buildBox_eq (f : BoxForm) (d : Format) : buildBox f d = placeField d f.place (boxBody f d) := by
  unfold buildBox
  cases hr : rotationOf f.place.rot with
  | none => simp [placeField, hr]
  | some rot =>
    simp only [rotationOf_turned hr]
    rfl

theorem boxBody_isSome (f : BoxForm) (d : Format) :
    (boxBody f d).isSome = true ↔
      1 ≤ f.width ∧ f.width ≤ (if f.place.rot = some 90 ∨ f.place.rot = some 270 then d.length else d.width)
        ∧ 1 ≤ f.height ∧ f.height ≤ (if f.place.rot = some 90 ∨ f.place.rot = some 270 then d.width else d.length)
        ∧ 1 ≤ f.thickness.getD 1 ∧ f.thickness.getD 1 ≤ 2400 := by
  have h1 := inRange_isSome (lo := 1) (hi := if f.place.rot = some 90 ∨ f.place.rot = some 270 then d.length else d.width) (v := f.width)
  have h2 := inRange_isSome (lo := 1) (hi := if f.place.rot = some 90 ∨ f.place.rot = some 270 then d.width else d.length) (v := f.height)
  have h3 := inRange_isSome (lo := 1) (hi := 2400) (v := f.thickness.getD 1)
  have : (boxBody f d).isSome = true ↔ (inRange 1 (if f.place.rot = some 90 ∨ f.place.rot = some 270 then d.length else d.width) f.width).isSome = true
      ∧ (inRange 1 (if f.place.rot = some 90 ∨ f.place.rot = some 270 then d.width else d.length) f.height).isSome = true
      ∧ (inRange 1 2400 (f.thickness.getD 1)).isSome = true := by
    unfold boxBody
    dsimp only
    cases inRange 1 (if f.place.rot = some 90 ∨ f.place.rot = some 270 then d.length else d.width) f.width <;>
      cases inRange 1 (if f.place.rot = some 90 ∨ f.place.rot = some 270 then d.width else d.length) f.height <;>
      cases inRange 1 2400 (f.thickness.getD 1) <;> simp
  rw [this, h1, h2, h3]
  norm_num [and_assoc]

theorem boxBody_some {f : BoxForm} {d : Format} {b : FieldBody} (h : boxBody f d = some b) :
    b = .box f.width.toNat f.height.toNat (f.thickness.getD 1).toNat := by
  unfold boxBody at h
  dsimp only at h
  split at h
  · next u v t hu hv ht =>
    cases h
    rw [(inRange_eq_some.1 hu).2.2, (inRange_eq_some.1 hv).2.2, (inRange_eq_some.1 ht).2.2]
  · cases h

/-- Settles O20: each record's place and body, in range and as carried. -/
theorem fieldValuesChecked : Obligations.FieldValuesChecked := by
  unfold Obligations.FieldValuesChecked
  intro d hw hl
  refine ⟨fun f => ⟨?_, fun x hx => ?_⟩, fun f => ⟨?_, fun x hx => ?_⟩, fun f => ⟨?_, fun x hx => ?_⟩,
    fun f => ⟨?_, fun x hx => ?_⟩⟩
  · rw [buildTxt_eq, placeField_isSome hw hl, txtBody_isSome]
  · obtain ⟨hp, hb⟩ := placeField_some (buildTxt_eq f d ▸ hx)
    exact ⟨hp, txtBody_some hb⟩
  · rw [buildBar_eq, placeField_isSome hw hl, barBody_isSome]
  · obtain ⟨hp, hb⟩ := placeField_some (buildBar_eq f d ▸ hx)
    exact ⟨hp, barBody_some hb⟩
  · rw [buildBox_eq, placeField_isSome hw hl, boxBody_isSome]
  · obtain ⟨hp, hb⟩ := placeField_some (buildBox_eq f d ▸ hx)
    exact ⟨hp, boxBody_some hb⟩
  · unfold buildImg
    rw [placeField_isSome hw hl]
    simp
  · obtain ⟨hp, hb⟩ := placeField_some hx
    exact ⟨hp, (Option.some.inj hb).symm⟩

end Sys2Proof.Machine
end

section
/-! The statements about the records that define a format (3.1). -/

namespace Sys2Proof.Machine

/-- Where the wanted block is there, appended bytes leave the entry grown by them and every other entry alone. -/
theorem appendBytes_grows {i : Nat} {e : Entry} {bytes : List Byte} {os : ObjectStore} (he : ramEntry os i = some e)
    (hroom : e.received + bytes.length ≤ 1024 * (entryBlocks os e).length ∨ lowestFree os ≠ none) :
    ∃ os' first, appendBytes i e bytes os = some os' ∧ ramEntry os' i = some (e.appended first bytes.length)
      ∧ (∀ j, j ≠ i → ramEntry os' j = ramEntry os j) ∧ os'.romRefs = os.romRefs := by
  have hi := ramEntry_lt he
  by_cases hfit : e.received + bytes.length ≤ 1024 * (entryBlocks os e).length
  · obtain ⟨hself, hother⟩ := ramEntry_of_ram (os := os) (os' := { os with
      blocks := writeObject (entryBlocks os e) e.received bytes os.blocks
      ram := os.ram.setIfInBounds i (some (e.appended e.firstBlock bytes.length)) }) rfl hi
    exact ⟨_, _, appendBytes_of_room hfit, hself, hother, rfl⟩
  · obtain ⟨b, hb⟩ := Option.ne_none_iff_exists'.1 (hroom.resolve_left hfit)
    obtain ⟨first, os1, ha, hram, hrefs⟩ : ∃ first os1, allocBlock i e os = some ({ e with firstBlock := first }, os1)
        ∧ os1.ram = os.ram.setIfInBounds i (some { e with firstBlock := first }) ∧ os1.romRefs = os.romRefs := by
      simp only [allocBlock, hb]
      split <;> exact ⟨_, _, rfl, rfl, rfl⟩
    refine ⟨_, first, appendBytes_of_alloc (Nat.lt_of_not_le hfit) ha, (ramEntry_of_ram (os := os1) rfl hi).1,
      fun j hj => ?_, hrefs⟩
    exact ((ramEntry_of_ram (os := os1) rfl hi).2 j hj).trans ((ramEntry_of_ram hram hi).2 j hj)

/-- The compiled bytes are as many as asked for. -/
@[simp] theorem compiledBytes_length (d : Format) (start n : Nat) : (compiledBytes d start n).length = n := by
  simp [compiledBytes]

/-- A field that the compiler accepts is appended where the wanted block is there, and else ends the load (R39). -/
theorem takeField_of_accepted {k : Keyword} {build : Format → Option Field} {s : State} {d : Format} {i : Nat}
    {e : Entry} {f : Field} (hd : s.os.defn = some d) (he : loadingEntry s.os = some (i, e))
    (hn : d.fields.length < 40) (hf : build d = some f) (hc : conflicts d f = false) :
    takeField k build s =
      match appendBytes i e
          (compiledBytes { d with fields := d.fields ++ [f] } e.received (24 + literalLength f.body)) s.os with
      | none => refuse .storeFull k (abandonContext s)
      | some os => { s with os := { os with defn := some { d with fields := d.fields ++ [f] } } } := by
  simp only [takeField, hd, he, if_neg (Nat.not_le.2 hn), hf, hc, Bool.false_eq_true, if_false]
  rfl

/-- A 41st field, a value out of range or a conflict is refused (R39, R41). -/
theorem takeField_of_refused {k : Keyword} {build : Format → Option Field} {s : State} {d : Format} {i : Nat}
    {e : Entry} (hd : s.os.defn = some d) (he : loadingEntry s.os = some (i, e))
    (h : 40 ≤ d.fields.length ∨ build d = none ∨ ∃ f, build d = some f ∧ conflicts d f = true) :
    takeField k build s = refuse .range k s := by
  simp only [takeField, hd, he]
  split
  · rfl
  · next hn =>
    rcases h.resolve_left hn with h | ⟨f, h, hc⟩
    · rw [h]
    · simp only [h, hc, if_true]

/-- Settles O19, by the compiler's checks, one argument for the four records. -/
theorem fieldRecordsAppend : Obligations.FieldRecordsAppend := by
  unfold Obligations.FieldRecordsAppend
  intro s c k build d i e hkind hd he
  have hx : exec c s = .next (takeField k build (removeRecord s)) := by
    rcases hkind with ⟨f, rfl, rfl, rfl, h⟩ | ⟨f, rfl, rfl, rfl, h⟩ | ⟨f, rfl, rfl, rfl, h⟩ | ⟨f, rfl, rfl, rfl, h⟩ <;>
      exact congrArg _ (onRecord_of_takes h _)
  rw [hx]
  refine ⟨fun f hn hf hc => ?_, fun h => ?_⟩
  · rw [takeField_of_accepted (s := removeRecord s) hd he hn hf hc]
    refine ⟨fun hroom => ?_, fun hb hfree => ?_⟩
    · obtain ⟨os, first, ha, hself, hother, -⟩ := appendBytes_grows (os := s.os)
        (bytes := compiledBytes { d with fields := d.fields ++ [f] } e.received (24 + literalLength f.body))
        (findEntry_some he).1 (by rwa [compiledBytes_length])
      rw [compiledBytes_length] at hself
      refine ⟨os, _, ha, ?_, hself, rfl, rfl, rfl, rfl, rfl, rfl, hother⟩
      simp only [removeRecord_os, ha]
    · have ha := appendBytes_of_full (os := s.os) (i := i) (e := e)
        (bytes := compiledBytes { d with fields := d.fields ++ [f] } e.received (24 + literalLength f.body))
        (by rwa [compiledBytes_length]) hfree
      simp only [removeRecord_os, ha]
      rfl
  · rw [takeField_of_refused (s := removeRecord s) hd he h]
    rfl

/-! ## FEND (R40) -/

/-- A search finds the same entry in two directories that agree on what is searched for. -/
theorem findEntry_congr {os os' : ObjectStore} {p : Entry → Bool}
    (h : ∀ j, (∀ e, ramEntry os j = some e → p e = true → ramEntry os' j = some e)
      ∧ (∀ e, ramEntry os' j = some e → p e = true → ramEntry os j = some e)) : findEntry os' p = findEntry os p := by
  have hentry : ∀ (o : ObjectStore) (j : Nat) (hj : j < 48), ramEntry o j = o.ram[j] := fun o j hj => by
    simp [ramEntry, Vector.getElem?_eq_getElem hj]
  have hany : os'.ram.toList.map (fun o => o.any p) = os.ram.toList.map (fun o => o.any p) := by
    refine List.ext_getElem (by simp) fun j hj hj' => ?_
    have hlt : j < 48 := by simpa using hj
    simp only [List.getElem_map, Vector.getElem_toList, ← hentry _ j hlt]
    rw [Bool.eq_iff_iff]
    simp only [Option.any_eq_true]
    exact ⟨fun ⟨e, he, hp⟩ => ⟨e, (h j).2 e he hp, hp⟩, fun ⟨e, he, hp⟩ => ⟨e, (h j).1 e he hp, hp⟩⟩
  have hidx : os'.ram.toList.findIdx? (fun o => o.any p) = os.ram.toList.findIdx? (fun o => o.any p) := by
    have := congrArg (List.findIdx? id) hany
    simpa only [List.findIdx?_map, Function.id_comp] using this
  unfold findEntry
  rw [hidx]
  split
  · rfl
  · next k hk =>
    obtain ⟨hlt, hp, -⟩ := List.findIdx?_eq_some_iff_getElem.1 hk
    have hlt' : k < 48 := by simpa using hlt
    rw [Vector.getElem_toList, ← hentry _ k hlt', Option.any_eq_true] at hp
    obtain ⟨e, he, hpe⟩ := hp
    rw [he, (h k).1 e he hpe]

/-- A change of an entry that is LIVE neither before nor after leaves the LIVE entry of every name. -/
theorem liveEntry_congr {os os' : ObjectStore} {i : Nat} {e e' : Entry} (he : ramEntry os i = some e)
    (he' : ramEntry os' i = some e') (hl : e.state ≠ .live) (hl' : e'.state ≠ .live)
    (hother : ∀ j, j ≠ i → ramEntry os' j = ramEntry os j) (name : Text) : liveEntry os' name = liveEntry os name := by
  refine findEntry_congr fun j => ?_
  by_cases hj : j = i
  · subst hj
    refine ⟨fun x hx hp => ?_, fun x hx hp => ?_⟩
    · rw [he] at hx
      cases hx
      simp [hl] at hp
    · rw [he'] at hx
      cases hx
      simp [hl'] at hp
  · rw [hother j hj]
    exact ⟨fun _ h _ => h, fun _ h _ => h⟩

/-- Settles O21: the trailer is appended, and the load completes as any does. -/
theorem fendCompletesFormat : Obligations.FendCompletesFormat := by
  unfold Obligations.FendCompletesFormat
  intro s d i e h hd he
  have hx : exec .fend s = .next (takeFend () (removeRecord s)) := congrArg _ (onRecord_of_takes h takeFend)
  rw [hx]
  obtain ⟨hi, hload⟩ := loadingEntry_some he
  refine ⟨fun hroom => ?_, fun hb hfree => ?_⟩
  · obtain ⟨os, first, ha, hself, hother, hrefs⟩ := appendBytes_grows (os := s.os)
      (bytes := compiledBytes d e.received 8) hi (by rwa [compiledBytes_length])
    rw [compiledBytes_length] at hself
    generalize he' : e.appended first 8 = e' at hself
    obtain ⟨hst, hname, hkind, hrf, hrec⟩ : e'.state = e.state ∧ e'.name = e.name ∧ e'.kind = e.kind
        ∧ e'.refs = e.refs ∧ e'.received = e.received + 8 := by
      rw [← he']
      exact ⟨rfl, rfl, rfl, rfl, rfl⟩
    have hlive' : e'.state ≠ .live := by simp [hst, hload]
    have hprev := liveEntry_congr hi hself (by simp [hload]) hlive' hother e'.name
    obtain ⟨hnew, hold, -, hrefs', hdefn⟩ := completeLoad_spec (n := e'.received) (f := some d) hself hlive'
    rw [hprev, hname] at hnew hold
    have hexec : takeFend () (removeRecord s) = { removeRecord s with
        jl := { (removeRecord s).jl with context := .none }
        os := completeLoad i e' e'.received (some d) os } := by
      simp only [takeFend, removeRecord_os, hd, he, ha, hself]
      rfl
    rw [hexec]
    cases hp : liveEntry s.os e.name with
    | none =>
      obtain ⟨h1, h2, -⟩ := hnew hp
      exact ⟨_, _, rfl, h1, rfl, hrec, hname, hkind, hrf, rfl, hdefn, hrefs'.trans hrefs,
        fun _ => ⟨rfl, fun j hj => (h2 j hj).trans (hother j hj)⟩, nofun⟩
    | some jp =>
      obtain ⟨j, p⟩ := jp
      obtain ⟨h1, h2, -, -, h3⟩ := hold j p hp
      refine ⟨_, _, rfl, h1, rfl, hrec, hname, hkind, hrf, rfl, hdefn, hrefs'.trans hrefs, nofun, fun j' p' h' => ?_⟩
      cases h'
      exact ⟨rfl, h2, fun k hki hkj => (h3 k hki hkj).trans (hother k hki)⟩
  · have ha := appendBytes_of_full (os := s.os) (i := i) (e := e) (bytes := compiledBytes d e.received 8)
      (by rwa [compiledBytes_length]) hfree
    simp only [takeFend, removeRecord_os, hd, he, ha]
    rfl

end Sys2Proof.Machine
end

section
/-! The statements about serial counters and about the assembling of a job (Chapters 4 and 5). -/

namespace Sys2Proof.Machine

/-! ## Counters (R57, R58, R60) -/

/-- A natural number clamped between two others, as an integer (R8). -/
theorem clampNat_eq {lo hi : Nat} (x : Int) (h : 0 ≤ (lo : Int)) :
    ((clampNat lo hi x : Nat) : Int) = max (lo : Int) (min (hi : Int) x) := by
  unfold clampNat clampInt
  omega

/-- STEP clamped keeps its sign, and its magnitude as far as the range allows (R58 step 3). -/
theorem clampStep_spec {low high : Nat} (v : Int) (h : low ≤ high) :
    ((clampStep low high v).natAbs : Int) = min (min 999 ((high : Int) - low + 1)) (v.natAbs : Int)
      ∧ (clampStep low high v < 0 ↔ v < 0) := by
  unfold clampStep
  dsimp only
  split <;> omega

/-- Settles O25, by CB's checks and the clamps of R58. -/
theorem ctrProgramsCounter : Obligations.CtrProgramsCounter := by
  unfold Obligations.CtrProgramsCounter
  intro s f h
  have hx : exec .ctr s = .next (takeCtr f (removeRecord s)) := congrArg _ (onRecord_of_takes h takeCtr)
  rw [hx]
  have hr : ctrRefused f = true ↔
      f.number < 0 ∨ 7 < f.number ∨ (∃ j, f.next = some j ∧ (j ≤ f.number ∨ 7 < j)) ∨ f.step = some 0 := by
    simp [ctrRefused, Option.any_eq_true, or_assoc]
  refine ⟨fun h0 h7 hn hs => ?_, fun hbad => ?_⟩
  · have hno : ¬ctrRefused f = true := by
      rw [hr]
      rintro (h | h | ⟨j, hj, h⟩ | h)
      · omega
      · omega
      · have := hn j hj
        omega
      · exact hs h
    have hlow := clampNat_eq (lo := 0) (hi := 999999999) (f.low.getD 0) (by omega)
    have hlh : (programCounter f).low ≤ (programCounter f).high := by
      have := clampNat_eq (lo := (programCounter f).low) (hi := 999999999) (f.high.getD 999999999) (by omega)
      have : ((programCounter f).high : Int) = _ := this
      omega
    obtain ⟨h1, h2⟩ := clampStep_spec (f.step.getD 1) hlh
    refine ⟨programCounter f, ?_, hlow, clampNat_eq _ (by omega), h1, h2, clampNat_eq _ (by omega),
      clampNat_eq _ (by omega), rfl, rfl, rfl, fun hf => ?_, fun j hf => ?_⟩
    · rw [takeCtr, if_neg hno]
      rfl
    · show f.next.map Int.toNat = none
      rw [hf]
      rfl
    · show f.next.map Int.toNat = some j
      rw [hf]
      rfl
  · rw [takeCtr, if_pos (hr.2 hbad)]
    rfl

/-- Settles O27, by the rows of R60. -/
theorem holdStepStopsAtLimit : Obligations.HoldStepStopsAtLimit := by
  unfold Obligations.HoldStepStopsAtLimit
  intro c hm h1 h2
  have hs : stepCounter c =
      if c.exhausted then (c, false)
      else if (c.value : Int) + c.step > c.high then ({ c with value := c.high, exhausted := true }, false)
      else if (c.value : Int) + c.step < c.low then ({ c with value := c.low, exhausted := true }, false)
      else ({ c with value := ((c.value : Int) + c.step).toNat }, false) := by
    simp only [stepCounter, hm]
  simp only [hs]
  refine ⟨?_, fun he => ?_, fun he hv => ?_, fun he hv => ?_, fun he hl hv => ?_⟩
  · (repeat' split) <;> rfl
  · rw [if_pos he]
  · rw [if_neg (by simp [he]), if_pos hv]
  · rw [if_neg (by simp [he]), if_neg (by omega), if_pos hv]
  · rw [if_neg (by simp [he]), if_neg (by omega), if_neg (by omega)]

/-! ## Assembling (R69, R70) -/

/-- Settles O29, by the checks of JOB and of DAT. -/
theorem jobAssembled : Obligations.JobAssembled := by
  unfold Obligations.JobAssembled
  refine ⟨fun s f h => ?_, fun s n text a h ha => ?_⟩
  · have hx : exec .job s = .next (takeJob f (removeRecord s)) := congrArg _ (onRecord_of_takes h takeJob)
    have hj : jobOf (removeRecord s) f.tag.toNat = jobOf s f.tag.toNat := rfl
    rw [hx]
    unfold takeJob
    refine ⟨fun h1 h2 h3 h4 hn => ?_, fun hbad => ?_, fun h1 h2 h3 h4 ⟨j, hn⟩ => ?_⟩
    · dsimp only
      rw [if_neg (by omega), if_neg (by omega), hj, hn]
      rfl
    · dsimp only
      by_cases ht : f.tag < 1 ∨ 65535 < f.tag
      · rw [if_pos ht]
        rfl
      · rw [if_neg ht, if_pos (by omega)]
        rfl
    · dsimp only
      rw [if_neg (by omega), if_neg (by omega), hj, hn]
      rfl
  · have hx : exec .dat s = .next (takeDat (n, text) (removeRecord s)) := congrArg _ (onRecord_of_takes h takeDat)
    rw [hx]
    unfold takeDat
    dsimp only
    refine ⟨fun h1 h2 h3 => ?_, fun hbad => ?_⟩
    · rw [if_neg (by omega), if_neg (by omega)]
      simp only [removeRecord_jq, ha]
      rfl
    · by_cases hn : n < 1 ∨ 16 < n
      · rw [if_pos hn]
        rfl
      · rw [if_neg hn, if_pos (by omega)]
        rfl

/-! ## Acceptance (R33, R71) -/

/-- A lookup finds an entry that the directory holds. -/
theorem lookup_some {os : ObjectStore} {name : Text} {kind : ObjectKind} {i : Nat}
    (h : lookup os name kind = some (.ram i)) : ∃ e, ramEntry os i = some e := by
  unfold lookup at h
  split at h
  · next k e he =>
    split at h
    · cases h
      exact ⟨e, (liveEntry_some he).1⟩
    · cases h
  · split at h
    · split at h <;> cases h
    · cases h

/-- A reference to an entry that the directory holds. -/
def Referable (os : ObjectStore) (r : EntryRef) : Prop := ∀ i, r = .ram i → ∃ e, ramEntry os i = some e

/-- One reference taken counts for its entry and for no other, and changes nothing but counts (R33). -/
theorem takeRef_spec {os : ObjectStore} {r : EntryRef} (h : Referable os r) :
    (∀ x, refCount (takeRef os r) x = refCount os x + if x = r then 1 else 0)
      ∧ (∀ x, Referable os x → Referable (takeRef os r) x) ∧ (takeRef os r).chain = os.chain
      ∧ (takeRef os r).blocks = os.blocks ∧ (takeRef os r).defn = os.defn := by
  cases r with
  | ram i =>
    obtain ⟨e, he⟩ := h i rfl
    have hi := ramEntry_lt he
    have hself := ramEntry_setEntry_self i (some { e with refs := e.refs + 1 }) os hi
    have hother := fun j => ramEntry_setEntry_of_ne i j (some { e with refs := e.refs + 1 }) os
    simp only [takeRef, mapRefs, he]
    refine ⟨fun x => ?_, fun x hx => ?_, rfl, rfl, rfl⟩
    · cases x with
      | ram j =>
        by_cases hj : j = i
        · subst hj
          simp only [refCount, hself, he, if_true]
          rfl
        · simp only [refCount, hother j hj, EntryRef.ram.injEq, if_neg hj, Nat.add_zero]
      | rom f => cases f <;> rfl
    · rintro j rfl
      obtain ⟨e', he'⟩ := hx j rfl
      by_cases hj : j = i
      · subst hj
        exact ⟨_, hself⟩
      · exact ⟨e', (hother j hj).trans he'⟩
  | rom f =>
    have hram : ∀ j, ramEntry (takeRef os (.rom f)) j = ramEntry os j := fun j => by cases f <;> rfl
    refine ⟨fun x => ?_, fun x hx => ?_, ?_, ?_, ?_⟩
    · cases x with
      | ram j => simp [refCount, hram]
      | rom g => cases f <;> cases g <;> rfl
    · exact fun j hj => by rw [hram]; exact hx j hj
    all_goals cases f <;> rfl

/-- References taken count for each entry as often as it is named (R33). -/
theorem takeRefs_spec {rs : List EntryRef} {os : ObjectStore} (h : ∀ r ∈ rs, Referable os r) :
    (∀ x, refCount (rs.foldl takeRef os) x = refCount os x + rs.count x)
      ∧ (rs.foldl takeRef os).chain = os.chain ∧ (rs.foldl takeRef os).blocks = os.blocks
      ∧ (rs.foldl takeRef os).defn = os.defn := by
  induction rs generalizing os with
  | nil => exact ⟨fun _ => rfl, rfl, rfl, rfl⟩
  | cons r rs ih =>
    obtain ⟨hc, hr, h1, h2, h3⟩ := takeRef_spec (h r (by simp))
    obtain ⟨hc', h1', h2', h3'⟩ := ih (os := takeRef os r) fun x hx => hr x (h x (List.mem_cons_of_mem _ hx))
    refine ⟨fun x => ?_, h1'.trans h1, h2'.trans h2, h3'.trans h3⟩
    rw [List.foldl_cons, hc', hc, List.count_cons]
    by_cases hx : x = r
    · subst hx
      simp
      omega
    · simp [hx, Ne.symm hx]

/-- With no entry OPEN an event binds nothing (R180). -/
theorem bindAll_of_none_open {s : State} (h : ∀ e ∈ s.lp.parcels, e.state ≠ .open) (fuel : Nat) :
    bindAll fuel s = s := by
  have hf : s.lp.parcels.find? Parcel.isOpen = none := by
    simpa [List.find?_eq_none, Parcel.isOpen] using h
  cases fuel with
  | zero => rfl
  | succ n => simp only [bindAll, bindOne, hf]

/-- With no entry OPEN and the engine not IDLE an event binds nothing and starts no label. -/
theorem bindEvent_of_quiet {s : State} (h : ∀ e ∈ s.lp.parcels, e.state ≠ .open) (he : s.pe.engine ≠ .idle) :
    bindEvent s = s := by
  rw [bindEvent, bindAll_of_none_open h, testLabelStart_of_busy he]

/-- The slot a job takes is the lowest-numbered free one (R71). -/
theorem freeJobSlot_some {jobs : List Job} {slot : Nat} (h : freeJobSlot jobs = some slot) :
    slot < 32 ∧ (∀ x ∈ jobs, x.slot ≠ slot) ∧ ∀ m, m < slot → ∃ x ∈ jobs, x.slot = m := by
  unfold freeJobSlot at h
  obtain ⟨h1, as, bs, heq, h2⟩ := List.find?_eq_some_iff_append.1 h
  obtain ⟨hlt, hmem⟩ : slot < 32 ∧ ∀ m, m < slot → m ∈ as := by
    have hlen : as.length = slot := by
      have := congrArg (fun l => l[as.length]?) heq
      simp only [List.getElem?_append_right (Nat.le_refl _), Nat.sub_self, List.getElem?_cons_zero] at this
      obtain ⟨hl, he⟩ := List.getElem?_eq_some_iff.1 this
      simpa using he
    refine ⟨List.mem_range.1 (heq ▸ List.mem_append_right _ List.mem_cons_self), fun m hm => ?_⟩
    have hm' : (List.range 32)[m]? = as[m]? := by rw [heq, List.getElem?_append_left (by omega)]
    obtain ⟨hl, he⟩ := List.getElem?_eq_some_iff.1 (hm'.symm.trans (by
      rw [List.getElem?_range]
      have : slot < 32 := List.mem_range.1 (heq ▸ List.mem_append_right _ List.mem_cons_self)
      omega))
    exact he ▸ List.getElem_mem hl
  refine ⟨hlt, by simpa using h1, fun m hm => ?_⟩
  simpa using h2 m (hmem m hm)

/-- All 32 slots in use leave none free (R71). -/
theorem freeJobSlot_none {jobs : List Job} (h : ∀ m, m < 32 → ∃ x ∈ jobs, x.slot = m) : freeJobSlot jobs = none := by
  simpa [freeJobSlot, List.find?_eq_none] using h

/-- A list mapped with one element that has no image has none. -/
theorem mapM_eq_none_of_mem {α β : Type} {f : α → Option β} {l : List α} {a : α} (ha : a ∈ l) (h : f a = none) :
    l.mapM f = none := by
  cases hm : l.mapM f with
  | none => rfl
  | some r =>
    have hmap := mapM_eq_some_iff.1 hm
    have : f a ∈ r.map some := hmap ▸ List.mem_map_of_mem ha
    rw [h] at this
    simp at this

/-- The entries a job holds are found in the directory. -/
theorem referable_of_lookups {os : ObjectStore} {names : List NamedObject} {l : List (NamedObject × EntryRef)}
    (h : names.mapM (fun o => (lookup os o.name o.kind).map fun e => (o, e)) = some l) :
    ∀ r ∈ l.map (·.2), Referable os r := by
  rintro r hr i rfl
  obtain ⟨p, hp, hp2⟩ := List.mem_map.1 hr
  have hmap := mapM_eq_some_iff.1 h
  have : some p ∈ names.map fun o => (lookup os o.name o.kind).map fun e => (o, e) :=
    hmap ▸ List.mem_map_of_mem hp
  obtain ⟨o, -, ho⟩ := List.mem_map.1 this
  obtain ⟨e, he, rfl⟩ := Option.map_eq_some_iff.1 ho
  have he' : lookup os o.name o.kind = some (.ram i) := he.trans (congrArg some hp2)
  exact lookup_some he'

/-- EOJ's lookups with the format and every named object found (R71). -/
theorem lookupJob_of_found {os : ObjectStore} {a : Assembly} {formatOf : EntryRef → Option Format} {r : EntryRef}
    {f : Format} {l : List (NamedObject × EntryRef)} (hr : lookup os a.format .format = some r)
    (hf : formatOf r = some f)
    (hl : (namedObjects f.fields).mapM (fun o => (lookup os o.name o.kind).map fun e => (o, e)) = some l) :
    lookupJob os a formatOf = some (r, l) := by
  simp only [lookupJob, hr, hf, hl, Option.map_some]

/-- EOJ's lookups with the format or a named object not found (R71). -/
theorem lookupJob_of_missing {os : ObjectStore} {a : Assembly} {formatOf : EntryRef → Option Format}
    (h : lookup os a.format .format = none
      ∨ ∃ r f o, lookup os a.format .format = some r ∧ formatOf r = some f ∧ o ∈ namedObjects f.fields
        ∧ lookup os o.name o.kind = none) : lookupJob os a formatOf = none := by
  rcases h with hn | ⟨r, f, o, hr, hf, ho, hn⟩
  · simp only [lookupJob, hn]
  · simp only [lookupJob, hr, hf, Option.map_eq_none_iff]
    exact mapM_eq_none_of_mem ho (by rw [hn]; rfl)

/-- Settles O30: the lookups, the slot, and the job that joins the queue. -/
theorem eojAcceptsJob : Obligations.EojAcceptsJob := by
  unfold Obligations.EojAcceptsJob
  intro s a h ha
  have hx : exec .eoj s = .next (takeEoj () (removeRecord s)) := congrArg _ (onRecord_of_takes h takeEoj)
  have hpin : pinnedFormat (removeRecord s) = pinnedFormat s := by funext r; cases r <;> rfl
  rw [hx]
  simp only [takeEoj, removeRecord_jq, ha, removeRecord_os, hpin]
  refine ⟨fun r f l hr hf hl => ?_, fun hbad => ?_⟩
  · simp only [lookupJob_of_found hr hf hl]
    refine ⟨fun slot hslot hopen hbusy => ?_, fun hfull => ?_⟩
    · simp only [hslot]
      have href : ∀ x ∈ r :: l.map (·.2), Referable s.os x := by
        intro x hx
        rcases List.mem_cons.1 hx with rfl | hx
        · exact fun i hi => lookup_some (hi ▸ hr)
        · exact referable_of_lookups hl x hx
      obtain ⟨hcount, hchain, hblocks, hdefn⟩ := takeRefs_spec href
      obtain ⟨h1, h2, h3⟩ := freeJobSlot_some hslot
      refine ⟨(r :: l.map (·.2)).foldl takeRef s.os, newJob slot a r l, ?_, h1, h2, h3, rfl, rfl, rfl, rfl, rfl, rfl,
        rfl, ?_, fun n c hc => ?_, hcount, hchain, hblocks, hdefn⟩
      · rw [bindEvent_of_quiet]
        · rfl
        · exact hopen
        · show (takeGeometry s).pe.engine ≠ .idle
          rw [(takeGeometry_pe s).1]
          exact hbusy
      · simp [newJob, newCopies]
      · simp only [newJob, newCopies, List.getElem?_map, Option.map_eq_some_iff] at hc
        obtain ⟨m, hm, rfl⟩ := hc
        obtain ⟨hlt, rfl⟩ := List.getElem?_eq_some_iff.1 hm
        simp
    · simp only [freeJobSlot_none hfull]
      rfl
  · rw [lookupJob_of_missing hbad]
    rfl

end Sys2Proof.Machine
end

section
/-! The statements about finishing, cancelling and aborting jobs (5.4 to 5.6). -/

namespace Sys2Proof.Machine

/-! ## The DONE report (R79) -/

/-- Of terminal copies each is counted once, and a MISSED-LATE one twice (R79). -/
theorem countResults_sum {cs : List Copy} (h : ∀ c ∈ cs, c.state.isTerminal = true) :
    countResults (· == .applied) cs + countResults (fun r => r == .missedUnprinted || r == .missedLate) cs
        + countResults (fun r => r == .missedLate || r == .wasted) cs + countResults (· == .voided) cs
        + countResults (· == .failed) cs
      = cs.length + countResults (· == .missedLate) cs := by
  induction cs with
  | nil => rfl
  | cons c cs ih =>
    have hcs := ih fun x hx => h x (List.mem_cons_of_mem _ hx)
    obtain ⟨r, hr⟩ : ∃ r, c.state = .terminal r := by
      have hc := h c (by simp)
      cases hs : c.state with
      | terminal r => exact ⟨r, rfl⟩
      | waiting | rendering | rendered | printing | presented | applying => rw [hs] at hc; cases hc
    simp only [countResults, List.countP_cons, hr, List.length_cons] at hcs ⊢
    cases r <;> simp <;> omega

/-- Settles O33: each copy's result is counted. -/
theorem doneCountsAddUp : Obligations.DoneCountsAddUp := by
  unfold Obligations.DoneCountsAddUp
  intro j hj
  refine ⟨_, _, _, _, _, _, rfl, countResults_sum (by simpa [Job.finished] using hj), ?_⟩
  cases j.firstSerial <;> cases j.lastSerial <;> simp

/-! ## Reports that stay (R14) -/

/-- A report in the queue stays where an offered report joins it. -/
theorem offerReport_prefix (r : Report) (s : State) : s.jl.reports <+: (offerReport r s).jl.reports := by
  rcases offerReport_cases r s with ⟨-, -, h⟩ | ⟨-, h⟩
  · rw [h, enterReport_reports]
    exact List.prefix_append _ _
  · rw [h]

/-- An offered report leaves the parser's context. -/
theorem offerReport_context (r : Report) (s : State) : (offerReport r s).jl.context = s.jl.context := by
  rcases offerReport_cases r s with ⟨-, -, h⟩ | ⟨-, h⟩
  · rw [h, enterReport_context]
  · rw [h]

/-- A report in the queue stays where a notice is offered. -/
theorem offerNotice_prefix (k : FaultKind) (s : State) : s.jl.reports <+: (offerNotice k s).jl.reports := by
  unfold offerNotice
  split
  · exact offerReport_prefix _ (setFault k { faultOf s k with reported := (faultOf s k).latched } s)
  · exact List.prefix_refl _

/-- The notices offered leave the reports in the queue and the parser's context. -/
theorem offerNotices_keeps (s : State) :
    s.jl.reports <+: (offerNotices s).jl.reports ∧ (offerNotices s).jl.context = s.jl.context := by
  unfold offerNotices
  refine ⟨?_, foldl_keeps (fun s : State => s.jl.context) _ (fun s k => ?_) _ s⟩
  · generalize FaultKind.all = l
    induction l generalizing s with
    | nil => exact List.prefix_refl _
    | cons k l ih => exact (offerNotice_prefix k s).trans (ih _)
  · unfold offerNotice
    split
    · exact offerReport_context _ (setFault k { faultOf s k with reported := (faultOf s k).latched } s)
    · rfl

/-! ## The label of an aborted job (R86, R161) -/

/-- What the end of a label without a copy leaves: everything but the engine, the head, the flags and the transmitter,
where reports only join the queue. -/
structure Parted (s t : State) : Prop where
  reports : s.jl.reports <+: t.jl.reports
  context : t.jl.context = s.jl.context
  os : t.os = s.os
  jq : t.jq = s.jq
  re : t.re = s.re
  br : t.br = s.br
  lp : t.lp = s.lp
  stu : t.stu = s.stu
  cb : t.cb = s.cb
  ss : t.ss = s.ss

theorem Parted.refl (s : State) : Parted s s := ⟨List.prefix_refl _, rfl, rfl, rfl, rfl, rfl, rfl, rfl, rfl, rfl⟩

theorem Parted.trans {a b c : State} (h : Parted a b) (h' : Parted b c) : Parted a c :=
  ⟨h.reports.trans h'.reports, h'.context.trans h.context, h'.os.trans h.os, h'.jq.trans h.jq, h'.re.trans h.re,
    h'.br.trans h.br, h'.lp.trans h.lp, h'.stu.trans h.stu, h'.cb.trans h.cb, h'.ss.trans h.ss⟩

theorem Parted.offerNotices (s : State) : Parted s (offerNotices s) := by
  obtain ⟨h1, h2⟩ := offerNotices_keeps s
  exact ⟨h1, h2, by simp, by simp, by simp, by simp, by simp, by simp, by simp, by simp⟩

/-- The verdict of a label changes the head's registers, the flags and the pause set. -/
theorem Parted.applyVerdict (s : State) : Parted s (applyVerdict s) := by
  unfold Machine.applyVerdict
  split
  · exact ⟨List.prefix_refl _, rfl, rfl, rfl, rfl, rfl, rfl, rfl, rfl, rfl⟩
  · exact ⟨List.prefix_refl _, rfl, rfl, rfl, rfl, rfl, rfl, rfl, rfl, rfl⟩
  · dsimp only
    split <;> exact ⟨List.prefix_refl _, rfl, rfl, rfl, rfl, rfl, rfl, rfl, rfl, rfl⟩

/-- The engine's registers do not matter. -/
theorem Parted.withPe {s t : State} (h : Parted s t) (pe : PrintEngine) : Parted s { t with pe := pe } :=
  ⟨h.reports, h.context, h.os, h.jq, h.re, h.br, h.lp, h.stu, h.cb, h.ss⟩

theorem Parted.ite {c : Prop} [Decidable c] {s a b : State} (h : Parted s a) (h' : Parted s b) :
    Parted s (if c then a else b) := by
  split
  · exact h
  · exact h'

/-- A label without a copy is presented as waste, and no copy changes. -/
theorem Parted.present {l : LabelContext} (h : l.copy = none) (s : State) : Parted s (present l s) := by
  simp only [Machine.present, h, presentCopy]
  exact ((Parted.applyVerdict s).trans (Parted.offerNotices (Machine.applyVerdict s))).withPe _

/-- The target reached by a label without a copy. -/
theorem Parted.completeFeedOut {l : LabelContext} (h : l.copy = none) (s : State) :
    Parted s (completeFeedOut l s) := by
  unfold Machine.completeFeedOut
  exact .ite ((Parted.refl s).withPe _) (Parted.present h s)

/-- The feed-out of a label without a copy. -/
theorem Parted.startFeedOut {l : LabelContext} (h : l.copy = none) (s : State) : Parted s (startFeedOut l s) := by
  unfold Machine.startFeedOut
  refine .ite (((Parted.refl s).withPe _).trans (Parted.completeFeedOut ?_ _)) ((Parted.refl s).withPe _)
  exact h

/-- The boundary of a label without a copy: its feed-out, or a halt (R159). -/
theorem Parted.decideBoundary {l : LabelContext} {s : State} (hl : s.pe.label = some l) (h : l.copy = none) :
    Parted s (decideBoundary s) := by
  have hstop : labelStopped s l = true := by simp only [labelStopped, h]
  unfold Machine.decideBoundary
  simp only [hl, hstop, if_true]
  split
  · exact Parted.startFeedOut h s
  · exact ⟨List.prefix_refl _, rfl, rfl, rfl, rfl, rfl, rfl, rfl, rfl, rfl⟩

/-- The closing shift begun changes the head alone. -/
theorem Parted.beginClosing (s : State) : Parted s (beginClosing s) := by
  unfold Machine.beginClosing
  split
  · exact ⟨List.prefix_refl _, rfl, rfl, rfl, rfl, rfl, rfl, rfl, rfl, rfl⟩
  · exact Parted.refl s

/-- What follows between lines for a label without a copy, once its band is freed. -/
theorem Parted.boundary {s : State} (h : ∀ l, s.pe.label = some l → l.copy = none) :
    Parted s (let s := Machine.beginClosing s; if atBoundary s then Machine.decideBoundary s else s) := by
  have hc := Parted.beginClosing s
  dsimp only
  split
  · cases hl : s.pe.label with
    | none => exact hc.trans (by
        have : (Machine.beginClosing s).pe.label = none := by simp [hl]
        rw [Machine.decideBoundary, this]
        exact Parted.refl _)
    | some l =>
      refine hc.trans (Parted.decideBoundary (l := l) ?_ (h l hl))
      simp [hl]
  · exact hc

/-- Bands of which no more is FILLING or READY. -/
def NoneReady (br : BandRing) : Prop := ∀ b ∈ br.bands, b.state ≠ .filling ∧ b.state ≠ .ready

/-- A band freed leaves no more FILLING or READY. -/
theorem NoneReady.freePrintingBand {s : State} (h : NoneReady s.br) : NoneReady (freePrintingBand s).br := by
  unfold Machine.freePrintingBand
  split
  · split
    · intro b hb
      simp only [freeBand, setBand] at hb
      obtain ⟨i, hi, rfl⟩ := Vector.getElem_of_mem hb
      rw [Vector.getElem_setIfInBounds]
      split
      · exact ⟨nofun, nofun⟩
      · exact h _ (Vector.getElem_mem _)
    · exact h
  · exact h

/-- A band freed leaves everything but the ring's bands and the label's band. -/
theorem freePrintingBand_keeps (s : State) :
    (freePrintingBand s).jl = s.jl ∧ (freePrintingBand s).os = s.os ∧ (freePrintingBand s).jq = s.jq
      ∧ (freePrintingBand s).re = s.re ∧ (freePrintingBand s).br.fill = s.br.fill ∧ (freePrintingBand s).lp = s.lp
      ∧ (freePrintingBand s).stu = s.stu ∧ (freePrintingBand s).cb = s.cb ∧ (freePrintingBand s).ss = s.ss := by
  unfold freePrintingBand
  split
  · split
    · exact ⟨rfl, rfl, rfl, rfl, rfl, rfl, rfl, rfl, rfl⟩
    · exact ⟨rfl, rfl, rfl, rfl, rfl, rfl, rfl, rfl, rfl⟩
  · exact ⟨rfl, rfl, rfl, rfl, rfl, rfl, rfl, rfl, rfl⟩

/-- The label of a band just freed has the copy it had. -/
theorem freePrintingBand_copy {s : State} (h : ∀ l, s.pe.label = some l → l.copy = none) :
    ∀ l, (freePrintingBand s).pe.label = some l → l.copy = none := by
  unfold freePrintingBand
  split
  · next l0 hl0 =>
    split
    · intro l hl
      cases hl
      exact h l0 hl0
    · exact h
  · exact h

/-- A label without a copy stopped: only the ring's bands, the engine, the head, the flags and the transmitter change,
and no band becomes FILLING or READY. -/
theorem stopLabel_parted {s : State} (h : ∀ l, s.pe.label = some l → l.copy = none) (hb : NoneReady s.br) :
    ∃ u, Parted u (stopLabel s) ∧ NoneReady u.br ∧ u.jl = s.jl ∧ u.os = s.os ∧ u.jq = s.jq ∧ u.re = s.re
      ∧ u.br.fill = s.br.fill ∧ u.lp = s.lp ∧ u.stu = s.stu ∧ u.cb = s.cb ∧ u.ss = s.ss := by
  unfold stopLabel
  split
  · exact ⟨s, Parted.boundary h, hb, rfl, rfl, rfl, rfl, rfl, rfl, rfl, rfl, rfl⟩
  · exact ⟨freePrintingBand s, Parted.boundary (freePrintingBand_copy h), hb.freePrintingBand, freePrintingBand_keeps s⟩

/-- With no label in progress nothing is stopped but a closing shift begun. -/
theorem stopLabel_of_no_label {s : State} (h : s.pe.label = none) : stopLabel s = beginClosing s := by
  have hf : freePrintingBand s = s := by simp only [freePrintingBand, h]
  have ha : atBoundary (beginClosing s) = false := by simp [atBoundary, h]
  simp only [stopLabel, hf, ite_self, ha, Bool.false_eq_true, if_false]

/-! ## Abort (R85, R86) -/

/-- The abort's state before the label in progress is stopped. -/
def abortedJobs (s : State) : State :=
  freeBandsWhere (fun b => b.state == .filling || b.state == .ready)
    (endRender (dropParcels (dropEngineCopies (discardJobs s))))

theorem performAbort_eq (s : State) : performAbort s = stopLabel (abortedJobs s) := rfl

/-- The abort leaves no label with a copy. -/
theorem abortedJobs_label (s : State) : ∀ l, (abortedJobs s).pe.label = some l → l.copy = none := by
  intro l hl
  obtain ⟨l0, -, rfl⟩ := Option.map_eq_some_iff.1 hl
  rfl

/-- The abort leaves no band FILLING or READY. -/
theorem abortedJobs_bands (s : State) : NoneReady (abortedJobs s).br := by
  intro b hb
  obtain ⟨b0, -, rfl⟩ := Vector.mem_map.1 hb
  split
  · exact ⟨nofun, nofun⟩
  · next h => simpa using h

/-- Settles O32: the report, the discard, and the label without a copy that is stopped. -/
theorem abortDiscardsEveryJob : Obligations.AbortDiscardsEveryJob := by
  unfold Obligations.AbortDiscardsEveryJob
  intro s h
  have hx : exec .abort s = .next (takeAbort () (removeRecord s)) := congrArg _ (onRecord_of_takes h takeAbort)
  refine ⟨_, hx, ?_⟩
  have hjobs : (removeRecord s).jq.jobs = s.jq.jobs := rfl
  simp only [takeAbort, performAbort_eq, hjobs, reply]
  generalize hr : enterReport (.abt s.jq.jobs.length) (abandonContext (removeRecord s)) = r
  have hreports : r.jl.reports = s.jl.reports ++ [.abt s.jq.jobs.length] := by
    rw [← hr]
    simp [abandonContext_reports]
  have hctx : r.jl.context = .none := by rw [← hr]; simp
  have hos : r.os = (abandonContext (removeRecord s)).os := by rw [← hr]; simp
  have hjq : r.jq = (abandonContext (removeRecord s)).jq := by rw [← hr]; simp
  have hajobs : (abandonContext (removeRecord s)).jq.jobs = s.jq.jobs := by
    unfold abandonContext
    dsimp only
    split <;> rfl
  obtain ⟨hcb, hbr, hstu, hpe, hlp, hfm, hss⟩ : r.cb = s.cb ∧ r.br = s.br ∧ r.stu = s.stu
      ∧ r.pe = (takeGeometry s).pe ∧ r.lp = s.lp ∧ r.fm = s.fm ∧ r.ss = s.ss := by
    rw [← hr]
    simp
  obtain ⟨-, -, -, hlabel, hpres, hpause, -⟩ := takeGeometry_pe s
  obtain ⟨u, hu, hbands, hujl, huos, hujq, hure, hufill, hulp, hustu, hucb, huss⟩ :=
    stopLabel_parted (abortedJobs_label r) (abortedJobs_bands r)
  have hno : s.pe.label = none → stopLabel (abortedJobs r) = beginClosing (abortedJobs r) := fun hl =>
    stopLabel_of_no_label (by
      show r.pe.label.map _ = none
      rw [hpe, hlabel, hl]
      rfl)
  refine ⟨?_, ?_, ?_, ?_, fun ha => ?_, ?_, ?_, ?_, ?_, fun hl => ?_, fun hl => ⟨?_, ?_⟩, ?_, ?_, ?_⟩
  · have hp : r.jl.reports <+: (stopLabel (abortedJobs r)).jl.reports := by
      have := hu.reports
      rw [hujl] at this
      exact this
    obtain ⟨l, hl⟩ := hp
    rw [← hl, hreports]
    simp
  · rw [hu.context, hujl]
    exact hctx
  · rw [hu.jq, hujq]
    rfl
  · rw [hu.os, huos]
    show r.jq.jobs.foldl releaseJob r.os = _
    rw [hos, hjq, hajobs]
  · rw [hu.jq, hujq]
    show r.jq.assembly = none
    rw [hjq]
    rcases ha with ha | ha
    · simp only [abandonContext, removeRecord_context, ha]
    · unfold abandonContext
      dsimp only
      split
      · exact ha
      · rfl
      · exact ha
      · exact ha
  · rw [hu.br]
    exact hbands
  · rw [hu.br, hufill]
    show r.br.fill = _
    rw [hbr]
  · rw [hu.re, hure]
    rfl
  · rw [hu.lp, hulp]
    show { r.lp with parcels := [], cursor := 0, applyWait := none } = _
    rw [hlp]
  · rw [hno hl]
    show (beginClosing (abortedJobs r)).pe.presented = _
    simp only [beginClosing_frame]
    show r.pe.presented.map _ = _
    rw [hpe, hpres]
  · rw [hno hl]
    simp only [beginClosing_frame]
    show r.pe.pause = _
    rw [hpe, hpause]
  · rw [hno hl]
    simp only [beginClosing_frame]
    exact hfm
  · rw [hu.cb, hucb]
    exact hcb
  · rw [hu.ss, huss]
    exact hss
  · rw [hu.stu, hustu]
    show r.stu.active = _
    rw [hstu]

end Sys2Proof.Machine
end

section
/-! The statement about CAN (5.5). -/

namespace Sys2Proof.Machine

/-! ## One copy withdrawn (R82) -/

/-- A copy's bands released: those of it that are FILLING or READY become FREE (R103). -/
theorem bandOf_releaseCopy (id : CopyId) (s : State) (b : Nat) :
    bandOf (releaseCopy id s) b =
      if (bandOf s b).owner = some id ∧ ((bandOf s b).state = .filling ∨ (bandOf s b).state = .ready) then
        { bandOf s b with state := .free, owner := none, index := none, used := none }
      else bandOf s b := by
  have hbr : (releaseCopy id s).br = (freeBandsWhere (Band.unprintedOf id) s).br := by
    unfold releaseCopy stopRender endRender
    split <;> rfl
  have hp : ∀ x : Band, Band.unprintedOf id x = true ↔ x.owner = some id ∧ (x.state = .filling ∨ x.state = .ready) := by
    intro x
    simp [Band.unprintedOf]
  by_cases hb : b < 16
  · simp only [bandOf, hbr, freeBandsWhere, Vector.getElem?_eq_getElem hb, Option.getD_some, Vector.getElem_map, hp]
    rfl
  · have hn : ∀ v : Vector Band 16, v[b]? = none := fun v => Vector.getElem?_eq_none (Nat.not_lt.1 hb)
    simp only [bandOf, hn, Option.getD_none]
    exact (if_neg nofun).symm

/-- A copy's release ends its render, if it is the one under render (R103). -/
theorem releaseCopy_re (id : CopyId) (s : State) :
    (releaseCopy id s).re = if underRender id s then { cursor := .idle, context := none } else s.re := by
  have hu : underRender id (freeBandsWhere (Band.unprintedOf id) s) = underRender id s := rfl
  simp only [releaseCopy, stopRender, hu]
  split <;> rfl

/-- A copy's release leaves the jobs. -/
theorem releaseCopy_keeps (id : CopyId) (s : State) :
    (releaseCopy id s).jq = s.jq ∧ (releaseCopy id s).lp = s.lp ∧ (releaseCopy id s).os = s.os
      ∧ (releaseCopy id s).jl = s.jl ∧ (releaseCopy id s).hi = s.hi ∧ (releaseCopy id s).fm = s.fm
      ∧ (releaseCopy id s).pe = s.pe := by
  unfold releaseCopy stopRender
  split <;> exact ⟨rfl, rfl, rfl, rfl, rfl, rfl, rfl⟩

/-- The copies are found in the job queue alone. -/
theorem copyOf_congr {s t : State} (h : t.jq = s.jq) (id : CopyId) : copyOf t id = copyOf s id := by
  simp only [copyOf, jobOf, h]

/-- What withdraws a copy, by its state (R82). -/
theorem withdrawCopy_of {s : State} {id : CopyId} {c : Copy} (h : copyOf s id = some c) :
    (c.state = .waiting ∨ c.state = .rendering ∨ c.state = .rendered → withdrawCopy id s = endUnprinted id .voided s)
      ∧ (c.state = .printing → withdrawCopy id s = withdraw id s)
      ∧ (c.state = .presented → withdrawCopy id s = wastePresented id s)
      ∧ (c.state = .applying ∨ (∃ r, c.state = .terminal r) → withdrawCopy id s = s) := by
  simp only [withdrawCopy, h, Option.map_some]
  refine ⟨fun hs => ?_, fun hs => by simp only [hs], fun hs => by simp only [hs], fun hs => ?_⟩
  · rcases hs with hs | hs | hs <;> simp only [hs]
  · rcases hs with hs | ⟨r, hs⟩ <;> simp only [hs]

/-- While a line's strobe is in progress nothing follows at once for its label (R161). -/
theorem stopLabel_of_strobing {s : State} (h : strobing s = true) : stopLabel s = s := by
  have hl : lineInProgress s = true := by
    simp only [strobing, lineInProgress] at h ⊢
    cases hs : s.hi.line with
    | none => rw [hs] at h; cases h
    | some l => rfl
  have hb : beginClosing s = s := by simp [beginClosing, h]
  simp [stopLabel, hl, hb, atBoundary]

/-- A copy in PRINTING that gains a mark. -/
theorem copyOf_addMark {s : State} {id : CopyId} {c : Copy} (f : Marks → Marks) (h : copyOf s id = some c)
    (hs : c.state = .printing) : copyOf (addMark id f s) id = some { c with marks := f c.marks } := by
  refine (copyOf_mapCopy_self (fun c => if c.state = .printing then { c with marks := f c.marks } else c) h
    fun x => ?_).trans (congrArg some (if_pos hs))
  split <;> rfl

/-- The effect of a withdrawal on a copy of each state (R82, R103, R104). -/
theorem withdrawCopy_spec (s : State) (id : CopyId) (c : Copy) (h : copyOf s id = some c) :
    let t := withdrawCopy id s
    let unprinted (b : Nat) : Band :=
      if (bandOf s b).owner = some id ∧ ((bandOf s b).state = .filling ∨ (bandOf s b).state = .ready) then
        { bandOf s b with state := .free, owner := none, index := none, used := none }
      else bandOf s b
    let forsaken : List Parcel := s.lp.parcels.map fun p =>
      if p.copy = some id ∧ p.state = .bound then { p with state := .forsaken } else p
    (c.state = .waiting ∨ c.state = .rendering ∨ c.state = .rendered →
      copyOf t id = some { c with state := .terminal .voided, bound := false } ∧ (∀ b, bandOf t b = unprinted b)
        ∧ t.re = (if underRender id s then { cursor := .idle, context := none } else s.re)
        ∧ t.lp = { s.lp with parcels := forsaken } ∧ t.os = s.os ∧ t.jl = s.jl ∧ t.hi = s.hi ∧ t.fm = s.fm)
    ∧ (c.state = .printing → c.marks.withdrawn = false → strobing s = true →
      copyOf t id = some { c with marks := { c.marks with withdrawn := true } } ∧ (∀ b, bandOf t b = unprinted b)
        ∧ t.re = (if underRender id s then { cursor := .idle, context := none } else s.re)
        ∧ t.lp = s.lp ∧ t.pe = s.pe ∧ t.os = s.os ∧ t.jl = s.jl ∧ t.hi = s.hi ∧ t.fm = s.fm)
    ∧ (c.state = .presented →
      copyOf t id = some { c with state := .terminal .wasted, bound := false }
        ∧ t.pe.presented = (s.pe.presented.map fun p => { p with waste := true })
        ∧ t.lp = { s.lp with parcels := forsaken } ∧ t.br = s.br ∧ t.re = s.re ∧ t.os = s.os ∧ t.jl = s.jl
        ∧ t.hi = s.hi ∧ t.fm = s.fm)
    ∧ (c.state = .applying ∨ (∃ r, c.state = .terminal r) ∨ c.state = .printing ∧ c.marks.withdrawn = true →
      t = s) := by
  intro t unprinted forsaken
  obtain ⟨hun, hpr, hps, hno⟩ := withdrawCopy_of h
  refine ⟨fun hs => ?_, fun hs hm hst => ?_, fun hs => ?_, fun hs => ?_⟩
  · have ht : t = releaseCopy id (endCopy id .voided s) := hun hs
    obtain ⟨hjq, hlp, hos, hjl, hhi, hfm, -⟩ := releaseCopy_keeps id (endCopy id .voided s)
    rw [ht]
    refine ⟨?_, fun b => bandOf_releaseCopy id _ b, releaseCopy_re id _, hlp, hos, hjl, hhi, hfm⟩
    rw [copyOf_congr hjq]
    exact copyOf_endCopy _ h
  · generalize hu : releaseCopy id (addMark id (fun m => { m with withdrawn := true }) s) = u
    obtain ⟨hjq, hlp, hos, hjl, hhi, hfm, hpe⟩ :=
      releaseCopy_keeps id (addMark id (fun m => { m with withdrawn := true }) s)
    have hband := bandOf_releaseCopy id (addMark id (fun m => { m with withdrawn := true }) s)
    have hre := releaseCopy_re id (addMark id (fun m => { m with withdrawn := true }) s)
    rw [hu] at hjq hlp hos hjl hhi hfm hpe hband hre
    have hsu : strobing u = true := by
      simp only [strobing, hhi]
      exact hst
    have ht : t = u := by
      refine (hpr hs).trans ?_
      simp only [withdraw, h, Option.any_some, hm, Bool.false_eq_true, if_false, hu]
      exact stopLabel_of_strobing hsu
    rw [ht]
    refine ⟨?_, hband, hre, hlp, hpe, hos, hjl, hhi, hfm⟩
    rw [copyOf_congr hjq]
    exact copyOf_addMark _ h hs
  · have ht : t = spoilPresented (endCopy id .wasted s) := hps hs
    rw [ht]
    exact ⟨copyOf_endCopy _ h, rfl, rfl, rfl, rfl, rfl, rfl, rfl, rfl⟩
  · rcases hs with hs | hs | ⟨hs, hm⟩
    · exact hno (.inl hs)
    · exact hno (.inr hs)
    · refine (hpr hs).trans ?_
      simp only [withdraw, h, Option.any_some, hm, if_true]

/-! ## A QUEUED job cancelled (R82, R103) -/

/-- Nothing but the job queue names a copy of the job: no parcel, band, render or calibration. -/
structure Unnamed (tag : Nat) (s : State) : Prop where
  parcels : ∀ p ∈ s.lp.parcels, ∀ id, p.copy = some id → id.tag ≠ tag
  bands : ∀ b ∈ s.br.bands, ∀ id, b.owner = some id → id.tag ≠ tag
  render : ∀ c, s.re.context = some c → c.copy.tag ≠ tag
  cal : ∀ c id, s.pe.cal = some c → c.copy = some id → id.tag ≠ tag

/-- A copy as it is once voided. -/
def Copy.voided (c : Copy) : Copy := { c with state := .terminal .voided, bound := false }

/-- A job with the copies of the given numbers voided. -/
def Job.voidNumbers (ns : List Nat) (j : Job) : Job :=
  { j with copies := j.copies.map fun c => if c.number ∈ ns then c.voided else c }

/-- A change of a job after another, both keeping its tag, is one change. -/
theorem mapJob_mapJob {tag : Nat} {f g : Job → Job} (hg : ∀ j, (g j).tag = j.tag) (s : State) :
    mapJob tag f (mapJob tag g s) = mapJob tag (f ∘ g) s := by
  have : ∀ l, updateFirst tag f (updateFirst tag g l) = updateFirst tag (f ∘ g) l := by
    intro l
    induction l with
    | nil => rfl
    | cons x l ih =>
      by_cases hx : x.tag = tag
      · simp [updateFirst, hx, hg]
      · simp [updateFirst, hx, ih]
  simp only [mapJob, this]

/-- A copy that nothing else names ends, and only its record changes. -/
theorem endUnprinted_of_unnamed {s : State} {id : CopyId} (h : Unnamed id.tag s) :
    endUnprinted id .voided s = mapJob id.tag (Job.voidNumbers [id.number]) s := by
  have hne : ∀ {x : CopyId}, x.tag ≠ id.tag → x ≠ id := fun hx he => hx (he ▸ rfl)
  have hparcels : s.lp.parcels.map (Parcel.forsake id) = s.lp.parcels := by
    refine (List.map_congr_left (g := fun p => p) fun p hp => ?_).trans (List.map_id' _)
    exact if_neg fun hc => h.parcels p hp id hc.1 rfl
  have hcal : s.pe.cal.map (Calibration.without id) = s.pe.cal := by
    cases hc : s.pe.cal with
    | none => rfl
    | some c => exact congrArg some (if_neg fun he => h.cal c id hc he rfl)
  have hbands : (s.br.bands.map fun b => if Band.unprintedOf id b then b.freed else b) = s.br.bands := by
    refine Vector.ext fun i hi => ?_
    rw [Vector.getElem_map]
    refine if_neg fun hb => ?_
    simp only [Band.unprintedOf, Bool.and_eq_true, beq_iff_eq] at hb
    exact h.bands _ (Vector.getElem_mem hi) id hb.1 rfl
  have hrender : underRender id s = false := by
    simp only [underRender]
    cases hc : s.re.context with
    | none => rfl
    | some c => simpa using hne (h.render c hc)
  have hjobs : setBound id false (setCopyState id (.terminal .voided) s)
      = mapJob id.tag (Job.voidNumbers [id.number]) s := by
    simp only [setBound, setCopyState, mapCopy]
    rw [mapJob_mapJob]
    · congr 1
      funext j
      simp only [Function.comp, Job.voidNumbers, List.map_map, List.mem_singleton]
      congr 1
      refine List.map_congr_left fun c _ => ?_
      by_cases hc : c.number = id.number <;> simp [hc, Copy.voided]
    · exact fun _ => rfl
  have hend : endCopy id .voided s = mapJob id.tag (Job.voidNumbers [id.number]) s := by
    simp only [endCopy, hjobs, mapJob_lp, mapJob_pe, hparcels, hcal]
    rfl
  have hu : underRender id (freeBandsWhere (Band.unprintedOf id) (mapJob id.tag (Job.voidNumbers [id.number]) s))
      = false := hrender
  rw [endUnprinted, hend, releaseCopy, stopRender, hu, if_neg Bool.false_ne_true]
  simp only [freeBandsWhere, mapJob_br, hbands]
  rfl

/-- A voided copy stays voided, and the others become so: the numbers join. -/
theorem Job.voidNumbers_voidNumbers (ns ms : List Nat) (j : Job) :
    Job.voidNumbers ns (Job.voidNumbers ms j) = Job.voidNumbers (ms ++ ns) j := by
  simp only [Job.voidNumbers, List.map_map]
  congr 1
  refine List.map_congr_left fun c _ => ?_
  by_cases hm : c.number ∈ ms
  · by_cases hn : c.number ∈ ns <;> simp [hm, hn, Copy.voided]
  · by_cases hn : c.number ∈ ns <;> simp [hm, hn]

/-- Numbers that are voided already change nothing. -/
theorem Job.voidNumbers_of_mem {n : Nat} {ms : List Nat} (h : n ∈ ms) (j : Job) :
    Job.voidNumbers (ms ++ [n]) j = Job.voidNumbers ms j := by
  simp only [Job.voidNumbers]
  congr 1
  refine List.map_congr_left fun c _ => ?_
  have : c.number ∈ ms ++ [n] ↔ c.number ∈ ms := by
    rw [List.mem_append, List.mem_singleton]
    exact ⟨fun hc => hc.elim id fun he => he ▸ h, .inl⟩
  simp only [this]

/-- The copies of a QUEUED job that nothing else names, withdrawn in order, are voided (R82). -/
theorem withdrawAll_of_unnamed {tag : Nat} {j : Job} {s : State} (hu : Unnamed tag s) (hj : jobOf s tag = some j)
    (hw : ∀ c ∈ j.copies, c.state = .waiting) (ms : List Nat) (cs : List Copy) (hcs : ∀ c ∈ cs, c ∈ j.copies) :
    withdrawAll tag cs (mapJob tag (Job.voidNumbers ms) s)
      = mapJob tag (Job.voidNumbers (ms ++ cs.map (·.number))) s := by
  induction cs generalizing ms with
  | nil => simp [withdrawAll]
  | cons c cs ih =>
    have hjob : jobOf (mapJob tag (Job.voidNumbers ms) s) tag = some (j.voidNumbers ms) := jobOf_mapJob_self _ hj rfl
    obtain ⟨x, hx⟩ : ∃ x, ((j.voidNumbers ms).copies.find? fun k => k.number == c.number) = some x := by
      have hc := hcs c (by simp)
      rw [← Option.isSome_iff_exists, List.find?_isSome]
      refine ⟨_, List.mem_map_of_mem hc, ?_⟩
      split <;> simp [Copy.voided]
    have hcopy : copyOf (mapJob tag (Job.voidNumbers ms) s) { tag := tag, number := c.number } = some x := by
      simp only [copyOf, hjob, hx]
    have hnum : x.number = c.number := by simpa using List.find?_some hx
    obtain ⟨y, hy, hyx⟩ := List.mem_map.1 (List.mem_of_find?_eq_some hx)
    have step : withdrawCopy { tag := tag, number := c.number } (mapJob tag (Job.voidNumbers ms) s)
        = mapJob tag (Job.voidNumbers (ms ++ [c.number])) s := by
      by_cases hm : c.number ∈ ms
      · have hym : y.number ∈ ms := by
          split at hyx
          · assumption
          · rw [hyx, hnum]; exact hm
        rw [if_pos hym] at hyx
        rw [(withdrawCopy_of hcopy).2.2.2 (.inr ⟨.voided, by rw [← hyx]; rfl⟩)]
        exact congrArg (fun f => mapJob tag f s) (funext fun j => (Job.voidNumbers_of_mem hm j).symm)
      · have hym : y.number ∉ ms := by
          intro hym
          rw [if_pos hym] at hyx
          exact hm (hnum ▸ hyx ▸ hym)
        rw [if_neg hym] at hyx
        rw [(withdrawCopy_of hcopy).1 (.inl (hyx ▸ hw y hy)), endUnprinted_of_unnamed]
        · refine (mapJob_mapJob (g := Job.voidNumbers ms) (fun _ => rfl) s).trans ?_
          exact congrArg (fun f => mapJob tag f s) (funext fun j => Job.voidNumbers_voidNumbers _ _ j)
        · exact ⟨hu.parcels, hu.bands, hu.render, hu.cal⟩
    have := ih (ms ++ [c.number]) fun k hk => hcs k (List.mem_cons_of_mem _ hk)
    rw [withdrawAll, List.foldl_cons, step]
    simpa [withdrawAll, List.append_assoc] using this

/-- A job whose copies are all voided, with its DONE report: each copy is counted there (R79). -/
theorem doneReport_of_voided {j : Job} (h : ∀ c ∈ j.copies, c.state = .terminal .voided) :
    j.finished = true ∧ doneReport j = .done j.tag 0 0 0 j.copies.length 0
      (match j.firstSerial, j.lastSerial with
        | some a, some b => some (a, b)
        | _, _ => none) := by
  have hcount : ∀ (p : CopyResult → Bool), countResults p j.copies = if p .voided then j.copies.length else 0 := by
    intro p
    have : countResults p j.copies = j.copies.countP fun _ => p .voided :=
      List.countP_congr fun c hc => by simp [h c hc]
    rw [this]
    cases hp : p .voided <;> simp
  refine ⟨?_, by simp only [doneReport, hcount]; rfl⟩
  simp only [Job.finished, List.all_eq_true]
  exact fun c hc => by rw [h c hc]; rfl

/-- The jobs left once a job is gone (R80), no tag being carried twice. -/
theorem withoutJob_updateFirst {tag : Nat} {f : Job → Job} (hf : ∀ j, (f j).tag = j.tag) {jobs : List Job}
    (hn : (jobs.map (·.tag)).Nodup) :
    withoutJob tag (updateFirst tag f jobs) = jobs.filter fun x => x.tag != tag := by
  induction jobs with
  | nil => rfl
  | cons j jobs ih =>
    rw [List.map_cons, List.nodup_cons] at hn
    by_cases hj : j.tag = tag
    · have hrest : jobs.filter (fun x => x.tag != tag) = jobs :=
        List.filter_eq_self.2 fun x hx => by
          simp only [bne_iff_ne, ne_eq]
          exact fun he => hn.1 (hj ▸ he ▸ List.mem_map_of_mem hx)
      simp [updateFirst, withoutJob, hj, hf, hrest]
    · simp [updateFirst, withoutJob, hj, ih hn.2]

/-- The job of a tag, no tag being carried twice. -/
theorem jobOf_of_mem {s : State} {j : Job} (hj : j ∈ s.jq.jobs) (hn : (s.jq.jobs.map (·.tag)).Nodup) :
    jobOf s j.tag = some j := by
  simp only [jobOf]
  generalize s.jq.jobs = l at hj hn
  induction l with
  | nil => cases hj
  | cons x l ih =>
    rw [List.map_cons, List.nodup_cons] at hn
    rcases List.mem_cons.1 hj with rfl | hj
    · simp
    · have : x.tag ≠ j.tag := fun he => hn.1 (he ▸ List.mem_map_of_mem hj)
      simpa [this] using ih hj hn.2

/-- A DONE that enters frees its job's slot (R80). -/
theorem enterReport_done {s : State} {tag a m w v f : Nat} {serials : Option (Nat × Nat)} {j : Job}
    (h : jobOf s tag = some j) :
    ∃ (cursor : Nat) (sending : Bool), enterReport (.done tag a m w v f serials) s = { s with
      os := releaseJob s.os j
      jq := { s.jq with jobs := withoutJob tag s.jq.jobs }
      lp := { s.lp with cursor := cursor }
      jl := { s.jl with sending := sending, reports := s.jl.reports ++ [.done tag a m w v f serials] } } := by
  have h' : s.jq.jobs.find? (fun j => j.tag == tag) = some j := h
  rw [enterReport, beginCharacter_eq]
  simp only [onEnter, freeSlot, jobOf, h']
  exact ⟨_, _, rfl⟩

/-- Settles O31: a QUEUED job's copies in order, the checks of CAN, and each copy by its state. -/
theorem canVoidsQueuedJob : Obligations.CanVoidsQueuedJob := by
  unfold Obligations.CanVoidsQueuedJob
  refine ⟨fun s j h h1 h2 hj hn hw hp hb hr hc he => ?_, fun s tag h => ?_, withdrawCopy_spec⟩
  · have hx : exec .can s = .next (takeCan j.tag (removeRecord s)) := congrArg _ (onRecord_of_takes h takeCan)
    obtain ⟨-, hroom, hwait, -, -⟩ := takes_ready h
    have hg : (takeGeometry s).pe = s.pe := by rw [takeGeometry_of_busy he]
    have hjob : jobOf (removeRecord s) j.tag = some j := jobOf_of_mem (s := removeRecord s) hj hn
    have hu : Unnamed j.tag (removeRecord s) := by
      refine ⟨hp, hb, hr, ?_⟩
      rw [removeRecord_pe, hg]
      exact hc
    have hall := withdrawAll_of_unnamed hu hjob (fun c hc => (hw c hc).1) [] j.copies fun _ h => h
    have hid : mapJob j.tag (Job.voidNumbers []) (removeRecord s) = removeRecord s := by
      have : Job.voidNumbers [] = id := funext fun x => by simp [Job.voidNumbers]
      have hup : ∀ l, updateFirst j.tag id l = l := fun l => by
        induction l with
        | nil => rfl
        | cons x l ih => simp [updateFirst, ih]
      rw [this, mapJob, hup]
    rw [hid, List.nil_append] at hall
    generalize hf : Job.voidNumbers (j.copies.map (·.number)) = f at hall
    have htag : ∀ x : Job, (f x).tag = x.tag := fun x => by rw [← hf]; rfl
    have hvoid : ∀ c ∈ (f j).copies, c.state = .terminal .voided := by
      intro c hc
      rw [← hf] at hc
      obtain ⟨y, hy, rfl⟩ := List.mem_map.1 hc
      rw [if_pos (List.mem_map_of_mem hy)]
      rfl
    obtain ⟨hfin, hdone⟩ := doneReport_of_voided hvoid
    have hjob' : jobOf (mapJob j.tag f (removeRecord s)) j.tag = some (f j) := jobOf_mapJob_self f hjob (htag j)
    have hoffer : offerDone j.tag (mapJob j.tag f (removeRecord s))
        = enterReport (doneReport (f j)) (mapJob j.tag f (removeRecord s)) := by
      have hroom' : (mapJob j.tag f (removeRecord s)).jl.reports.length < Config.reportSlots
          ∧ (mapJob j.tag f (removeRecord s)).jl.waiting = [] := by
        simp [hwait, Config.reportSlots, hroom]
      simp only [offerDone, hjob', hfin, hroom'.2, List.any_nil, Bool.not_false, Bool.and_self, if_true,
        offerReport]
      rw [if_pos ⟨hroom'.1, trivial⟩]
    obtain ⟨cursor, sending, hen⟩ := enterReport_done (a := 0) (m := 0) (w := 0) (v := (f j).copies.length) (f := 0)
      (serials := match (f j).firstSerial, (f j).lastSerial with
        | some a, some b => some (a, b)
        | _, _ => none) hjob'
    refine ⟨cursor, sending, ?_⟩
    have htake : takeCan j.tag (removeRecord s) = testLabelStart (offerDone j.tag (withdrawAll j.tag j.copies
        (removeRecord s))) := by
      simp only [takeCan, if_neg (show ¬((j.tag : Int) < 1 ∨ 65535 < (j.tag : Int)) by omega), Int.toNat_natCast, hjob]
    rw [hx, htake, hall, hoffer, hdone, htag, hen, testLabelStart_of_busy]
    · obtain ⟨hrefs, hfirst, hlast, hlen⟩ : (f j).refs = j.refs ∧ (f j).firstSerial = j.firstSerial
          ∧ (f j).lastSerial = j.lastSerial ∧ (f j).copies.length = j.copies.length := by
        rw [← hf]
        exact ⟨rfl, rfl, rfl, List.length_map ..⟩
      simp only [mapJob_jq, withoutJob_updateFirst (jobs := (removeRecord s).jq.jobs) htag hn, releaseJob, hrefs,
        hfirst, hlast, hlen]
      simp only [mapJob, removeRecord_jl, ctsAfterRemove_reports]
      rfl
    · show (removeRecord s).pe.engine ≠ .idle
      rw [removeRecord_pe, hg]
      exact he
  · have hx : exec .can s = .next (takeCan tag (removeRecord s)) := congrArg _ (onRecord_of_takes h takeCan)
    have hjob : jobOf (removeRecord s) tag.toNat = jobOf s tag.toNat := rfl
    rw [hx]
    refine ⟨fun hbad => ?_, fun h1 h2 hn => ?_, fun j h1 h2 hj => ?_⟩
    · rw [takeCan, if_pos hbad]
      rfl
    · rw [takeCan, if_neg (by omega), hjob, hn]
      rfl
    · rw [takeCan, if_neg (by omega), hjob, hj]
      rfl

end Sys2Proof.Machine
end

section
/-! The statements about rendering (Chapter 6). -/

namespace Sys2Proof.Machine

/-! ## What is read from the store (R49, R205 to R208) -/

/-- The bytes of the objects depend on the store and the power-on alone. -/
theorem objectByte_congr {s t : State} (ho : t.os = s.os) (hf : t.fresh = s.fresh) (n i : Nat) :
    objectByte t n i = objectByte s n i := by
  simp only [objectByte, ho, hf]

/-- So do the numbers read there. -/
theorem objectNumber_congr {s t : State} (ho : t.os = s.os) (hf : t.fresh = s.fresh) (n i k : Nat) :
    objectNumber t n i k = objectNumber s n i k := by
  simp only [objectNumber, objectByte_congr ho hf]

/-- So does whether a font has a glyph. -/
theorem hasGlyph_congr {s t : State} (ho : t.os = s.os) (hf : t.fresh = s.fresh) (n code : Nat) :
    hasGlyph t n code = hasGlyph s n code := by
  simp only [hasGlyph, objectByte_congr ho hf, objectNumber_congr ho hf]

/-- The code drawn for a code. -/
theorem drawnCode_congr {s t : State} (ho : t.os = s.os) (hf : t.fresh = s.fresh) (font : EntryRef) (code : Nat) :
    drawnCode t font code = drawnCode s font code := by
  cases font <;> simp only [drawnCode, hasGlyph_congr ho hf, objectByte_congr ho hf]

/-- The width of a line of text. -/
theorem textAdvance_congr {s t : State} (ho : t.os = s.os) (hf : t.fresh = s.fresh) (font : EntryRef) (x : Text) :
    textAdvance t font x = textAdvance s font x := by
  cases font <;>
    simp only [textAdvance, glyphAdvance, glyphEntry, objectByte_congr ho hf, drawnCode_congr ho hf]

/-- The cell height of a font. -/
theorem fontHeight_congr {s t : State} (ho : t.os = s.os) (hf : t.fresh = s.fresh) (font : EntryRef) :
    fontHeight t font = fontHeight s font := by
  cases font <;> simp only [fontHeight, objectByte_congr ho hf]

/-- The size of a graphic. -/
theorem graphicSize_congr {s t : State} (ho : t.os = s.os) (hf : t.fresh = s.fresh) (g : EntryRef) :
    graphicSize t g = graphicSize s g := by
  cases g <;> simp only [graphicSize, objectNumber_congr ho hf]

/-- The laying out of a field depends on the store and the power-on alone. -/
theorem layField_congr {s t : State} (ho : t.os = s.os) (hf : t.fresh = s.fresh) (j : Job)
    (read : List (Nat × Counter)) (L W : Nat) : layField t j read L W = layField s j read L W := by
  funext f
  simp only [layField, layBar, textAdvance_congr ho hf, fontHeight_congr ho hf, graphicSize_congr ho hf]

/-- So does the render context that a validation forms. -/
theorem layCopy_congr {s t : State} (ho : t.os = s.os) (hf : t.fresh = s.fresh) (j : Job) (id : CopyId) (fmt : Format)
    (read : List (Nat × Counter)) : layCopy t j id fmt read = layCopy s j id fmt read := by
  simp only [layCopy, layField_congr ho hf]

/-- A render context formed is that of the copy and its format (R91, R94). -/
theorem layCopy_some {s : State} {j : Job} {id : CopyId} {fmt : Format} {read : List (Nat × Counter)}
    {c : RenderContext} (h : layCopy s j id fmt read = some c) :
    c.copy = id ∧ c.length = fmt.length ∧ c.width = fmt.width ∧ c.bands = (fmt.length + 63) / 64
      ∧ c.nextIndex = 0 := by
  unfold layCopy at h
  split at h
  · cases h
    exact ⟨rfl, rfl, rfl, rfl, rfl⟩
  · cases h

/-! ## Counters served (R62) -/

/-- The counters served are those the format refers to, as they stood (R62). -/
theorem serveCounters_some {fields : List Field} {cb cb' : Vector Counter 8} {read : List (Nat × Counter)}
    (h : serveCounters fields cb = some (read, cb')) :
    read.map (·.1) = referredCounters fields ∧ ∀ p ∈ read, p.2 = counterOf cb p.1 := by
  unfold serveCounters at h
  dsimp only at h
  split at h
  · cases h
  · cases h
    refine ⟨by rw [List.map_map]; exact List.map_id' _, fun p hp => ?_⟩
    obtain ⟨n, -, rfl⟩ := List.mem_map.1 hp
    rfl

/-! ## Bands allocated (R90) -/

/-- The band that an allocation for a context's next index makes FILLING. -/
def RenderContext.fillingBand (c : RenderContext) (lines : List Dots) : Band :=
  { state := .filling, owner := some c.copy, index := some c.nextIndex,
    used := some (min 64 (c.length - 64 * c.nextIndex)), lines := lines }

/-- An allocation takes the first FREE band after the fill position (R90). -/
theorem allocateBand_of_free {c : RenderContext} {s : State} {b : Nat} (h : nextFreeBand s = some b) :
    allocateBand c s = { s with
      br := { bands := s.br.bands.setIfInBounds b (c.fillingBand (bandOf s b).lines), fill := b }
      re := { cursor := .filling, context := some { c with nextIndex := c.nextIndex + 1, filling := some b } } } := by
  simp only [allocateBand, h]
  rfl

/-- With no band FREE, RE waits for one (R95). -/
theorem allocateBand_of_none {c : RenderContext} {s : State} (h : nextFreeBand s = none) :
    allocateBand c s = { s with re := { cursor := .waitBand, context := some { c with filling := none } } } := by
  simp only [allocateBand, h]

/-! ## Copies that end in their job -/

/-- A job changed by nothing. -/
theorem updateFirst_id (tag : Nat) (l : List Job) : updateFirst tag (fun j => j) l = l := by
  induction l with
  | nil => rfl
  | cons x l ih => simp only [updateFirst, ih, ite_self]

/-- A change that keeps a job's tag leaves the tags of the queue. -/
theorem mapJob_tags {tag : Nat} {f : Job → Job} (hf : ∀ j, (f j).tag = j.tag) (s : State) :
    (mapJob tag f s).jq.jobs.map (·.tag) = s.jq.jobs.map (·.tag) := by
  rw [mapJob_jq]
  show (updateFirst tag f s.jq.jobs).map (·.tag) = _
  generalize s.jq.jobs = l
  induction l with
  | nil => rfl
  | cons x l ih =>
    simp only [updateFirst]
    split
    · simp [hf]
    · simp [ih]

/-- A change of a copy leaves the tags of the queue. -/
theorem mapCopy_tags (id : CopyId) (f : Copy → Copy) (s : State) :
    (mapCopy id f s).jq.jobs.map (·.tag) = s.jq.jobs.map (·.tag) :=
  mapJob_tags (f := fun j => { j with copies := j.copies.map fun c => if c.number = id.number then f c else c })
    (fun _ => rfl) s

/-- A job's DONE that enters frees its slot (R80). -/
theorem enterReport_doneReport {s : State} {j : Job} (h : jobOf s j.tag = some j) :
    ∃ (cursor : Nat) (sending : Bool), enterReport (doneReport j) s = { s with
      os := releaseJob s.os j
      jq := { s.jq with jobs := withoutJob j.tag s.jq.jobs }
      lp := { s.lp with cursor := cursor }
      jl := { s.jl with sending := sending, reports := s.jl.reports ++ [doneReport j] } } :=
  enterReport_done h

/-- The job of a tag carries it. -/
theorem jobOf_tag {s : State} {tag : Nat} {j : Job} (h : jobOf s tag = some j) : j.tag = tag := by
  simp only [jobOf] at h
  simpa using List.find?_some h

/-- RE's next copy is a copy of its job (R68, R92). -/
theorem copyOf_of_nextRenderCopy {s : State} {id : CopyId} {j : Job} (h : nextRenderCopy s = some id)
    (hj : jobOf s id.tag = some j) (hn : (s.jq.jobs.map (·.tag)).Nodup) : ∃ c, copyOf s id = some c := by
  obtain ⟨⟨id', c⟩, hp, rfl⟩ := Option.map_eq_some_iff.1 h
  have hmem := List.mem_of_find?_eq_some hp
  obtain ⟨j', hj', hc'⟩ := List.mem_flatMap.1 hmem
  obtain ⟨c', hc, heq⟩ := List.mem_map.1 hc'
  cases heq
  have : jobOf s j'.tag = some j' := jobOf_of_mem hj' hn
  have hfound : (j'.copies.find? fun k => k.number == c.number).isSome = true := by
    rw [List.find?_isSome]
    exact ⟨c, hc, by simp⟩
  obtain ⟨k, hk⟩ := Option.isSome_iff_exists.1 hfound
  exact ⟨k, by simp only [copyOf, this, hk]⟩

/-- With its job's slot freed a copy is gone, no tag being carried twice (R80). -/
theorem jobOf_withoutJob {s t : State} {tag : Nat} (hn : (s.jq.jobs.map (·.tag)).Nodup)
    (h : t.jq.jobs = withoutJob tag s.jq.jobs) : jobOf t tag = none := by
  simp only [jobOf, h, List.find?_eq_none]
  have hw : ∀ l : List Job, (l.map (·.tag)).Nodup → withoutJob tag l = l.filter fun x => x.tag != tag := by
    intro l hl
    have := withoutJob_updateFirst (tag := tag) (f := fun j => j) (fun _ => rfl) hl
    rwa [updateFirst_id] at this
  rw [hw _ hn]
  intro x hx
  simpa using (List.mem_filter.1 hx).2

/-- A DONE report offered leaves a copy as it is, or takes it with its job. -/
theorem copyOf_offerDone {s : State} {id : CopyId} (hn : (s.jq.jobs.map (·.tag)).Nodup) :
    copyOf (offerDone id.tag s) id = none ∨ copyOf (offerDone id.tag s) id = copyOf s id := by
  unfold offerDone
  cases hj : jobOf s id.tag with
  | none => exact .inr rfl
  | some j =>
    dsimp only
    split
    · rcases offerReport_cases (doneReport j) s with ⟨-, -, h⟩ | ⟨-, h⟩
      · left
        have he : j.tag = id.tag := jobOf_tag hj
        have htag : jobOf s j.tag = some j := he ▸ hj
        obtain ⟨cursor, sending, hen⟩ := enterReport_doneReport htag
        have hgone : jobOf (offerReport (doneReport j) s) id.tag = none := by
          refine jobOf_withoutJob hn ?_
          rw [h, hen, he]
        simp only [copyOf, hgone]
      · right
        rw [h]
        rfl
    · exact .inr rfl

/-! ## BEGIN_COPY (R92 to R94) -/

/-- BEGIN_COPY validates RE's next copy, which has become RENDERING. -/
theorem exec_beginCopy {s : State} {id : CopyId} {j : Job} {b : Nat} (hp : s.powered = true) (hc : s.re.cursor = .idle)
    (hb : nextFreeBand s = some b) (hid : nextRenderCopy s = some id) (hj : jobOf s id.tag = some j) :
    exec .beginCopy s = .next (validateCopy j id (setCopyState id .rendering (takeGeometry s))) := by
  have h1 : nextRenderCopy (takeGeometry s) = some id := hid
  have h2 : jobOf (takeGeometry s) id.tag = some j := hj
  show execBeginCopy s = _
  rw [execBeginCopy, inEvent_of hp (by simp [hc, hb, hid])]
  simp only [beginCopy, h1, h2]

/-- A copy that fails in RE, with the engine not IDLE (R93). -/
theorem failValidation_spec {s : State} {id : CopyId} {c : Copy} (he : s.pe.engine ≠ .idle)
    (hc : copyOf s id = some c) (hn : (s.jq.jobs.map (·.tag)).Nodup) :
    (failValidation id s).cb = s.cb ∧ (failValidation id s).br = s.br ∧ (failValidation id s).re = s.re
      ∧ (failValidation id s).pe.engine = s.pe.engine
      ∧ (copyOf (failValidation id s) id = none
        ∨ ∃ k, copyOf (failValidation id s) id = some k ∧ k.state = .terminal .failed ∧ k.bound = false) := by
  have heng : (offerDone id.tag (endCopy id .failed s)).pe.engine = s.pe.engine := by
    simp only [offerDone_frame]
    rfl
  have hf : failValidation id s = offerDone id.tag (endCopy id .failed s) :=
    testLabelStart_of_busy (by rw [heng]; exact he)
  rw [hf]
  refine ⟨by simp, by simp, by simp, heng, ?_⟩
  have hn' : ((endCopy id .failed s).jq.jobs.map (·.tag)).Nodup := by
    show ((setBound id false (setCopyState id (.terminal .failed) s)).jq.jobs.map (·.tag)).Nodup
    rw [setBound, mapCopy_tags, setCopyState, mapCopy_tags]
    exact hn
  rcases copyOf_offerDone (s := endCopy id .failed s) (id := id) hn' with h | h
  · exact .inl h
  · exact .inr ⟨_, h.trans (copyOf_endCopy _ hc), rfl, rfl⟩

/-- The record of a serial changes a job's serials alone (R77). -/
theorem recordSerial_eq (tag : Nat) (read : List (Nat × Counter)) (s : State) :
    recordSerial tag read s = mapJob tag (fun j => match read.head? with
      | none => j
      | some p => { j with firstSerial := some (j.firstSerial.getD p.2.value), lastSerial := some p.2.value }) s := by
  unfold recordSerial
  cases read.head? with
  | none =>
    simp only [mapJob, updateFirst_id]
  | some p => rfl

/-- The served counters and the serial recorded, before a copy is laid out (R62, R77). -/
def served (id : CopyId) (read : List (Nat × Counter)) (cb : Vector Counter 8) (s : State) : State :=
  recordSerial id.tag read { setCopyState id .rendering s with cb := cb }

/-- What the service of a copy changes. -/
theorem served_keeps (id : CopyId) (read : List (Nat × Counter)) (cb : Vector Counter 8) (s : State) :
    (served id read cb s).os = s.os ∧ (served id read cb s).fresh = s.fresh ∧ (served id read cb s).cb = cb
      ∧ (served id read cb s).br = s.br ∧ (served id read cb s).re = s.re ∧ (served id read cb s).pe = s.pe
      ∧ (served id read cb s).jl = s.jl
      ∧ (served id read cb s).jq.jobs.map (·.tag) = s.jq.jobs.map (·.tag) := by
  unfold served
  rw [recordSerial_eq]
  refine ⟨rfl, rfl, rfl, rfl, rfl, rfl, rfl, ?_⟩
  rw [mapJob_tags]
  · exact mapCopy_tags id (fun c => { c with state := .rendering }) s
  · intro j
    cases read.head? <;> rfl

/-- The job and the copy that a validation serves. -/
theorem served_job {id : CopyId} {read : List (Nat × Counter)} {cb : Vector Counter 8} {s : State} {j : Job}
    (h : jobOf s id.tag = some j) :
    ∃ x, jobOf (served id read cb s) id.tag = some x
      ∧ (∀ p ∈ read.head?, x.firstSerial = some (j.firstSerial.getD p.2.value) ∧ x.lastSerial = some p.2.value)
      ∧ x.copies = j.copies.map fun c => if c.number = id.number then { c with state := .rendering } else c := by
  have h1 : jobOf { setCopyState id .rendering s with cb := cb } id.tag = some { j with
      copies := j.copies.map fun c => if c.number = id.number then { c with state := .rendering } else c } :=
    jobOf_mapJob_self (f := fun j => { j with
      copies := j.copies.map fun c => if c.number = id.number then { c with state := .rendering } else c }) h rfl
  unfold served
  rw [recordSerial_eq]
  refine ⟨_, jobOf_mapJob_self _ h1 ?_, ?_, ?_⟩
  · cases read.head? <;> rfl
  · intro p hp
    rw [Option.mem_def.1 hp]
    exact ⟨rfl, rfl⟩
  · cases read.head? <;> rfl

/-- A validation whose counters can be served (R62, R92). -/
theorem validateCopy_of_served {s : State} {j : Job} {id : CopyId} {fmt : Format} {read : List (Nat × Counter)}
    {cb : Vector Counter 8} (hf : pinnedFormat s j.format = some fmt)
    (hs : serveCounters fmt.fields s.cb = some (read, cb)) :
    validateCopy j id (setCopyState id .rendering s) = match layCopy s j id fmt read with
      | none => failValidation id (served id read cb s)
      | some c => allocateBand c (served id read cb s) := by
  have hf' : pinnedFormat (setCopyState id .rendering s) j.format = some fmt := by
    cases hj : j.format <;> rw [hj] at hf <;> exact hf
  have hs' : serveCounters fmt.fields (setCopyState id .rendering s).cb = some (read, cb) := hs
  obtain ⟨ho, hfr, -⟩ := served_keeps id read cb s
  have hl := layCopy_congr ho hfr j id fmt read
  simp only [validateCopy, hf', hs']
  rw [← hl]
  rfl

/-- A validation with a counter exhausted fails (R63). -/
theorem validateCopy_of_exhausted {s : State} {j : Job} {id : CopyId} {fmt : Format}
    (hf : pinnedFormat s j.format = some fmt) (hs : serveCounters fmt.fields s.cb = none) :
    validateCopy j id (setCopyState id .rendering s) = failValidation id (setCopyState id .rendering s) := by
  have hf' : pinnedFormat (setCopyState id .rendering s) j.format = some fmt := by
    cases hj : j.format <;> rw [hj] at hf <;> exact hf
  have hs' : serveCounters fmt.fields (setCopyState id .rendering s).cb = none := hs
  simp only [validateCopy, hf', hs']

/-- A list mapped has no image exactly where an element has none. -/
theorem mapM_eq_none_iff {α β : Type} {f : α → Option β} {l : List α} :
    l.mapM f = none ↔ ∃ a ∈ l, f a = none := by
  refine ⟨fun h => ?_, fun ⟨a, ha, h⟩ => mapM_eq_none_of_mem ha h⟩
  by_contra hn
  have hall : ∀ a ∈ l, ∃ b, f a = some b := fun a ha => Option.ne_none_iff_exists'.1 fun he => hn ⟨a, ha, he⟩
  obtain ⟨r, hr⟩ : ∃ r : List β, l.map f = r.map some := by
    clear h hn
    induction l with
    | nil => exact ⟨[], rfl⟩
    | cons a l ih =>
      obtain ⟨b, hb⟩ := hall a (by simp)
      obtain ⟨r, hr⟩ := ih fun x hx => hall x (List.mem_cons_of_mem _ hx)
      exact ⟨b :: r, by simp [hb, hr]⟩
  rw [mapM_eq_some_iff.2 hr] at h
  cases h

/-- A BAR field is not laid out exactly where its text is unfit, its human-readable line too wide, or its rectangle off
the label (R109, R119, R120). -/
theorem layField_bar {s : State} {j : Job} {read : List (Nat × Counter)} {L W : Nat} {f : Field} {sym : Symbology}
    {src : Source} {m w h r : Nat} {check : Bool} {hr : Option Text} : f.body = .bar sym src m w h r check hr →
    let text := sourceText j.items read src
    let u := symbolWidth (barElements sym m w r check text)
    let v := match hr with
      | none => h
      | some name => h + fontHeight s (pinnedObject j name .font)
    (layField s j read L W f = none ↔
      fitText sym text = false
        ∨ (∃ name, hr = some name ∧ u < textAdvance s (pinnedObject j name .font) (hrText sym check text))
        ∨ W < f.x + (occupied f.rot u v).1 ∨ L < f.y + (occupied f.rot u v).2) := by
  intro hb text u v
  have hfits : ∀ v, fits L W f u v = false ↔ W < f.x + (occupied f.rot u v).1 ∨ L < f.y + (occupied f.rot u v).2 := by
    intro v
    simp only [fits, Bool.and_eq_false_iff, decide_eq_false_iff_not, Nat.not_le]
  simp only [layField, hb]
  rw [← hfits]
  cases ht : fitText sym text with
  | false => simp [layBar, text, ht]
  | true =>
    have ht' : fitText sym (sourceText j.items read src) = true := ht
    cases hr with
    | none =>
      simp only [layBar, ht', if_true, Bool.true_eq_false, false_or, reduceCtorEq, false_and, exists_false]
      cases fits L W f u v <;> simp
    | some name =>
      simp only [layBar, ht', if_true, Bool.true_eq_false, false_or, Option.some.injEq, exists_eq_left']
      by_cases hu : textAdvance s (pinnedObject j name .font) (hrText sym check text) ≤ u
      · have hu' : textAdvance s (pinnedObject j name .font) (hrText sym check (sourceText j.items read src))
            ≤ symbolWidth (barElements sym m w r check (sourceText j.items read src)) := hu
        simp only [if_pos hu', Nat.not_lt.2 hu, false_or]
        cases fits L W f u v <;> simp
      · have hu' : ¬textAdvance s (pinnedObject j name .font) (hrText sym check (sourceText j.items read src))
            ≤ symbolWidth (barElements sym m w r check (sourceText j.items read src)) := hu
        simp only [if_neg hu', Nat.lt_of_not_le hu, true_or]

/-- A job has each copy whose number is among its copies'. -/
theorem copyOf_of_mem {s : State} {id : CopyId} {j : Job} {c : Copy} (hj : jobOf s id.tag = some j)
    (hc : c ∈ j.copies) (hn : c.number = id.number) : ∃ k, copyOf s id = some k := by
  have hfound : (j.copies.find? fun k => k.number == id.number).isSome = true := by
    rw [List.find?_isSome]
    exact ⟨c, hc, by simpa using hn⟩
  obtain ⟨k, hk⟩ := Option.isSome_iff_exists.1 hfound
  exact ⟨k, by simp only [copyOf, hj, hk]⟩

/-- A copy found is among those of its job, with its number. -/
theorem mem_of_copyOf {s : State} {id : CopyId} {j : Job} {c : Copy} (hj : jobOf s id.tag = some j)
    (h : copyOf s id = some c) : c ∈ j.copies ∧ c.number = id.number := by
  simp only [copyOf, hj] at h
  exact ⟨List.mem_of_find?_eq_some h, by simpa using List.find?_some h⟩

/-- The job of a copy that ends keeps its serials and its other copies. -/
theorem jobOf_endCopy {s : State} {id : CopyId} {x : Job} (r : CopyResult) (h : jobOf s id.tag = some x) :
    ∃ y, jobOf (endCopy id r s) id.tag = some y ∧ y.firstSerial = x.firstSerial ∧ y.lastSerial = x.lastSerial
      ∧ ∀ c ∈ x.copies, c.number ≠ id.number → c ∈ y.copies := by
  have h1 : jobOf (setCopyState id (.terminal r) s) id.tag = some { x with
      copies := x.copies.map fun c => if c.number = id.number then { c with state := .terminal r } else c } :=
    jobOf_mapJob_self (f := fun j => { j with
      copies := j.copies.map fun c => if c.number = id.number then { c with state := .terminal r } else c }) h rfl
  have h2 := jobOf_mapJob_self (f := fun j => { j with
    copies := j.copies.map fun c => if c.number = id.number then { c with bound := false } else c }) h1 rfl
  refine ⟨_, h2, rfl, rfl, fun c hc hn => ?_⟩
  exact List.mem_map.2 ⟨c, List.mem_map.2 ⟨c, hc, if_neg hn⟩, if_neg hn⟩

/-- A job with a copy that is not terminal is not FINISHED (R78). -/
theorem not_finished_of_mem {j : Job} {c : Copy} (hc : c ∈ j.copies) (ht : c.state.isTerminal = false) :
    j.finished = false := by
  rw [Job.finished, List.all_eq_false]
  exact ⟨c, hc, by simp [ht]⟩

/-- A copy that fails in RE while its job has another to end (R93). -/
theorem failValidation_of_other {s : State} {id : CopyId} {x : Job} {c k : Copy} (he : s.pe.engine ≠ .idle)
    (hj : jobOf s id.tag = some x) (hc : copyOf s id = some c) (hk : k ∈ x.copies) (hn : k.number ≠ id.number)
    (ht : k.state.isTerminal = false) :
    copyOf (failValidation id s) id = some { c with state := .terminal .failed, bound := false }
      ∧ (failValidation id s).jl = s.jl
      ∧ ∃ y, jobOf (failValidation id s) id.tag = some y ∧ y.firstSerial = x.firstSerial
        ∧ y.lastSerial = x.lastSerial := by
  obtain ⟨y, hy, hfirst, hlast, hkeep⟩ := jobOf_endCopy .failed hj
  have hdone := offerDone_of_not_finished hy (not_finished_of_mem (hkeep k hk hn) ht)
  have hf : failValidation id s = endCopy id .failed s := by
    show testLabelStart (offerDone id.tag (endCopy id .failed s)) = _
    rw [hdone]
    exact testLabelStart_of_busy he
  rw [hf]
  exact ⟨copyOf_endCopy _ hc, rfl, y, hy, hfirst, hlast⟩

/-- Settles O34: the counters served, the fields laid out, and the copy that fails. -/
theorem beginCopyValidates : Obligations.BeginCopyValidates := by
  unfold Obligations.BeginCopyValidates
  refine ⟨fun s id j fmt b hp hc hb hid hj hf => ?_, fun s id j fmt read => ⟨?_, fun f => ⟨?_, fun hn => ?_⟩⟩⟩
  · have hx := exec_beginCopy hp hc hb hid hj
    have hf' : pinnedFormat (takeGeometry s) j.format = some fmt := by
      cases hjf : j.format <;> rw [hjf] at hf <;> exact hf
    refine ⟨fun read cb c hs hl => ?_, fun hs he hn => ?_, fun read cb hs hl he hn => ?_⟩
    · obtain ⟨hcopy, hlen, hwid, hbands, hidx⟩ := layCopy_some hl
      obtain ⟨hns, hread⟩ := serveCounters_some hs
      refine ⟨?_, hcopy, hlen, hwid, hbands, hns, hread⟩
      have hl' : layCopy (takeGeometry s) j id fmt read = some c := (layCopy_congr rfl rfl j id fmt read).trans hl
      rw [hx, validateCopy_of_served hf' hs, hl']
      obtain ⟨-, -, -, hbr, -⟩ := served_keeps id read cb (takeGeometry s)
      have hfree : nextFreeBand (served id read cb (takeGeometry s)) = some b := by
        simp only [nextFreeBand, bandOf, hbr]
        exact hb
      simp only [allocateBand_of_free hfree, bandOf, hbr, RenderContext.fillingBand, hcopy, hlen, hidx, Nat.mul_zero,
        Nat.sub_zero, Nat.zero_add]
      simp only [served, recordSerial_eq]
      rfl
    · have hg := takeGeometry_of_busy he
      rw [hg] at hx hf'
      obtain ⟨c, hcopy⟩ := copyOf_of_nextRenderCopy hid hj hn
      have hcopy' := copyOf_setCopyState .rendering hcopy
      refine ⟨_, hx, ?_⟩
      rw [validateCopy_of_exhausted hf' hs]
      exact failValidation_spec he hcopy' (by rw [setCopyState, mapCopy_tags]; exact hn)
    · have hg := takeGeometry_of_busy he
      rw [hg] at hx hf'
      obtain ⟨c, hcopy⟩ := copyOf_of_nextRenderCopy hid hj hn
      refine ⟨_, hx, ?_⟩
      rw [validateCopy_of_served hf' hs, hl]
      obtain ⟨-, -, hcb, hbr, hre, hpe, hjl, htags⟩ := served_keeps id read cb s
      obtain ⟨x, hxj, hserial, hcopies⟩ := served_job (read := read) (cb := cb) hj
      obtain ⟨hmem, hnum⟩ := mem_of_copyOf hj hcopy
      obtain ⟨c', hc'⟩ : ∃ c', copyOf (served id read cb s) id = some c' := by
        refine copyOf_of_mem (c := { c with state := .rendering }) hxj ?_ hnum
        rw [hcopies]
        exact List.mem_map.2 ⟨c, hmem, if_pos hnum⟩
      have he' : (served id read cb s).pe.engine ≠ .idle := by rw [hpe]; exact he
      obtain ⟨h1, h2, h3, h4, h5⟩ := failValidation_spec he' hc' (by rw [htags]; exact hn)
      refine ⟨h1.trans hcb, h2.trans hbr, h3.trans hre, h4.trans (by rw [hpe]), h5, fun ⟨y, hy, hyn, hyt⟩ => ?_⟩
      have hy' : y ∈ x.copies := by
        rw [hcopies]
        exact List.mem_map.2 ⟨y, hy, if_neg hyn⟩
      obtain ⟨hend, hjl', z, hz, hfirst, hlast⟩ := failValidation_of_other he' hxj hc' hy' hyn hyt
      refine ⟨⟨_, hend, rfl, rfl⟩, hjl'.trans hjl, z, hz, fun p hp => ?_⟩
      rw [hfirst, hlast]
      exact hserial p hp
  · rw [← mapM_eq_none_iff]
    unfold layCopy
    cases fmt.fields.mapM (layField s j read fmt.length fmt.width) <;> simp
  · exact fun sym src m w h r check hr hb => layField_bar hb
  · cases hb : f.body with
    | bar sym src m w h r check hr => exact absurd hb (hn _ _ _ _ _ _ _ _)
    | txt font src mx my => simp [layField, hb]
    | box u v t => simp [layField, hb]
    | img g => simp [layField, hb]

end Sys2Proof.Machine
end

section
/-! The filling of bands (Chapter 6). -/

namespace Sys2Proof.Machine

/-! ## The ring after a fill (R89, R90) -/

/-- A band just made READY is not taken: the allocation takes the first FREE one of the others (R90). -/
theorem nextFreeBand_setBand {s : State} {b n : Nat} {band : Band} (hb : b < 16) (hr : band.state ≠ .free)
    (h : nextFreeBand s = some n) (hn : n ≠ b) :
    nextFreeBand (setBand b band s) = some n ∧ bandOf (setBand b band s) n = bandOf s n := by
  have hother : ∀ x, x ≠ b → bandOf (setBand b band s) x = bandOf s x := by
    intro x hx
    simp only [bandOf, setBand_br, Vector.getElem?_setIfInBounds_ne (Ne.symm hx)]
  have hself : bandOf (setBand b band s) b = band := by
    simp only [bandOf, setBand_br, Vector.getElem?_setIfInBounds_self_of_lt hb, Option.getD_some]
  refine ⟨?_, hother n hn⟩
  unfold nextFreeBand at h ⊢
  rw [setBand_br]
  dsimp only
  generalize ringOrder s.br.fill = l at h
  induction l with
  | nil => cases h
  | cons x l ih =>
    simp only [List.find?_cons] at h ⊢
    by_cases hx : x = b
    · subst hx
      rw [hself]
      simp only [beq_eq_false_iff_ne.2 hr]
      refine ih ?_
      split at h
      · exact absurd (Option.some.inj h).symm hn
      · exact h
    · rw [hother x hx]
      split at h <;> simp_all

/-- Bands in ring order are bands of the ring. -/
theorem lt_of_mem_ringOrder {fill n : Nat} (h : n ∈ ringOrder fill) : n < 16 := by
  obtain ⟨i, -, rfl⟩ := List.mem_map.1 h
  exact Nat.mod_lt _ (by omega)

/-- With no band FREE, none is after another has become READY. -/
theorem nextFreeBand_setBand_of_none {s : State} {b : Nat} {band : Band} (hr : band.state ≠ .free)
    (h : ∀ n, n < 16 → (bandOf s n).state ≠ .free) : nextFreeBand (setBand b band s) = none := by
  unfold nextFreeBand
  rw [List.find?_eq_none]
  intro x hx
  have hlt := lt_of_mem_ringOrder hx
  have : (bandOf (setBand b band s) x).state ≠ .free := by
    by_cases hxb : x = b
    · subst hxb
      simpa only [bandOf, setBand_br, Vector.getElem?_setIfInBounds_self_of_lt hlt, Option.getD_some] using hr
    · simpa only [bandOf, setBand_br, Vector.getElem?_setIfInBounds_ne (Ne.symm hxb)] using h x hlt
  simpa using this

/-! ## What follows a fill (R102) -/

/-- A label completed leaves its engine FEEDING-OUT or HOLDING (R162, R163). -/
theorem completeFeedOut_engine {l : LabelContext} {s : State} (h : s.pe.engine ≠ .idle) :
    (completeFeedOut l s).pe.engine ≠ .idle := by
  unfold completeFeedOut
  split
  · exact h
  · exact nofun

/-- The label of a feed-out that begins or resumes (R162; log entry 45). -/
def feedOutLabel (l : LabelContext) (s : State) : LabelContext :=
  { l with phase := .feedOut, peel := if l.phase = .print then s.ss.settings.peel else l.peel }

/-- The feed-out begun, before its target is asked for (R162; log entry 52). -/
def feedOutBegun (l : LabelContext) (s : State) : State :=
  { s with pe := { s.pe with engine := .feedingOut, label := some (feedOutLabel l s), stepTime := lineTime s } }

/-- A feed-out that begins completes at once where the media stands at its target (R162). -/
theorem startFeedOut_eq (l : LabelContext) (s : State) : startFeedOut l s =
    if reached (feedOutBegun l s) (feedTarget (feedOutBegun l s) (feedOutLabel l s))
    then completeFeedOut (feedOutLabel l s) (feedOutBegun l s) else feedOutBegun l s := rfl

/-- A feed-out begun does not leave the engine IDLE (R162). -/
theorem startFeedOut_engine (l : LabelContext) (s : State) : (startFeedOut l s).pe.engine ≠ .idle := by
  have hb : (feedOutBegun l s).pe.engine ≠ .idle := nofun
  rw [startFeedOut_eq]
  split
  · exact completeFeedOut_engine hb
  · exact hb

/-- The boundary of a label does not leave the engine IDLE (R159). -/
theorem decideBoundary_engine {s : State} (h : s.pe.engine ≠ .idle) : (decideBoundary s).pe.engine ≠ .idle := by
  unfold decideBoundary
  split
  · exact h
  · split
    · split
      · exact startFeedOut_engine _ _
      · exact nofun
    · split
      · exact startFeedOut_engine _ _
      · split
        · exact nofun
        · split
          · exact nofun
          · split
            · exact nofun
            · simp [beginLine, headBeginLine]

/-- A fill with the engine not IDLE (R95 to R97). -/
theorem exec_fillCompletion {s t : State} {c : RenderContext} {b : Nat} (hp : s.powered = true)
    (hc : s.re.context = some c) (hcur : s.re.cursor = .filling) (hb : c.filling = some b)
    (he : s.pe.engine ≠ .idle)
    (ht : (if c.bands ≤ c.nextIndex then renderEnded c.copy (setBand b { bandOf s b with
        state := .ready, lines := composeBand s c ((bandOf s b).index.getD 0) ((bandOf s b).used.getD 0) } s)
      else allocateBand c (setBand b { bandOf s b with
        state := .ready, lines := composeBand s c ((bandOf s b).index.getD 0) ((bandOf s b).used.getD 0) } s)) = t) :
    exec .fillCompletion s = .next (testLabelStart (endStarvation c.copy t)) := by
  show execFillCompletion s = _
  rw [execFillCompletion, inEvent_of hp (by simp [hcur]), takeGeometry_of_busy he]
  simp only [hc, hb, completeFill, ht]

/-- What a fill answers from the state of the ring and the renderer after it (R102). -/
theorem endStarvation_spec {id : CopyId} {t : State} (he : t.pe.engine ≠ .idle) :
    (t.pe.engine ≠ .halted → testLabelStart (endStarvation id t) = t)
    ∧ (t.pe.engine = .halted → t.pe.pause.isEmpty = false → testLabelStart (endStarvation id t) = t)
    ∧ (∀ l, t.pe.engine = .halted → t.pe.pause.isEmpty = true → t.pe.label = some l →
      (l.copy = some id → l.phase = .print → testLabelStart (endStarvation id t) = decideBoundary t)
      ∧ (l.copy ≠ some id → testLabelStart (endStarvation id t) = t)) := by
  have hstay := testLabelStart_of_busy he
  refine ⟨fun h => ?_, fun h hp => ?_, fun l h hp hl => ⟨fun hc hph => ?_, fun hc => ?_⟩⟩
  · rw [endStarvation, if_neg fun hx => h hx.1, hstay]
  · rw [endStarvation, if_neg fun hx => by simp [hp] at hx, hstay]
  · rw [endStarvation, if_pos ⟨h, hp, by simp [hl, hc, hph]⟩]
    exact testLabelStart_of_busy (decideBoundary_engine he)
  · rw [endStarvation, if_neg fun hx => by simp [hl, hc] at hx, hstay]

/-- Settles O35: the filled band, the next one, and the end of the render. -/
theorem bandsFilledInOrder : Obligations.BandsFilledInOrder := by
  unfold Obligations.BandsFilledInOrder
  intro s c hp hc next
  refine ⟨fun b i u hcur hb hlt hi hu he => ?_, fun n hcur hn => ?_, fun i u k x hk => ?_⟩
  · intro done answers
    have hdone : { bandOf s b with
        state := .ready, lines := composeBand s c ((bandOf s b).index.getD 0) ((bandOf s b).used.getD 0) } = done := by
      rw [hi, hu]
      rfl
    have hready : done.state ≠ .free := nofun
    have hanswer : ∀ t, t.pe = s.pe →
        (if c.bands ≤ c.nextIndex then renderEnded c.copy (setBand b done s)
          else allocateBand c (setBand b done s)) = t → answers t := by
      intro t hpe ht
      have hx : exec .fillCompletion s = .next (testLabelStart (endStarvation c.copy t)) :=
        exec_fillCompletion hp hc hcur hb he (by rw [hdone]; exact ht)
      obtain ⟨h1, h2, h3⟩ := endStarvation_spec (id := c.copy) (t := t) (by rw [hpe]; exact he)
      rw [hpe] at h1 h2 h3
      refine ⟨fun h => by rw [hx, h1 h], fun h hpa => by rw [hx, h2 h hpa], fun l h hpa hl => ?_⟩
      obtain ⟨h4, h5⟩ := h3 l h hpa hl
      exact ⟨fun hcp hph => by rw [hx, h4 hcp hph], fun hcp => by rw [hx, h5 hcp]⟩
    refine ⟨fun n hmore hn hne => ?_, fun hmore hnone => ?_, fun hlast => ?_⟩
    · obtain ⟨hfree, hband⟩ := nextFreeBand_setBand hlt hready hn hne
      refine hanswer _ rfl ?_
      rw [if_neg (Nat.not_le.2 hmore), allocateBand_of_free hfree, hband]
      rfl
    · refine hanswer _ rfl ?_
      rw [if_neg (Nat.not_le.2 hmore), allocateBand_of_none (nextFreeBand_setBand_of_none hready hnone)]
      rfl
    · refine ⟨_, hanswer (renderEnded c.copy (setBand b done s)) rfl (if_pos hlast), rfl, fun k hk hst => ?_⟩
      have hk' : copyOf (setBand b done s) c.copy = some k := hk
      have hmap := copyOf_mapCopy_self
        (fun c : Copy => if c.state = .rendering then { c with state := .rendered } else c) hk' (by
          intro c
          split <;> rfl)
      rw [if_pos hst] at hmap
      exact hmap
  · have hn' : nextFreeBand (takeGeometry s) = some n := hn
    have hc' : (takeGeometry s).re.context = some c := hc
    show execWaitBandAllocation s = _
    rw [execWaitBandAllocation, inEvent_of hp (by simp [hcur, hn])]
    simp only [hc', allocateBand_of_free hn']
    rfl
  · refine ⟨if k < u then labelLine s c (64 * i + k) else 0, ?_, ?_, fun hx => ?_⟩
    · simp only [composeBand, List.getElem?_map, List.getElem?_range hk, Option.map_some]
    · split
      · simp [labelLine]
      · simp
    · split
      · simp [labelLine, labelDot, Nat.not_lt.2 hx]
      · simp

end Sys2Proof.Machine
end

section
/-! The statements about the print head (Chapter 8). -/

namespace Sys2Proof.Machine

/-! ## Dot history and halves (R136 to R138) -/

/-- The first half holds the dots of groups 1 and 2 (R124). -/
theorem getLsbD_firstHalf {x : Nat} (hx : x < 832) : firstHalf.getLsbD x = decide (x < 416) := by
  unfold firstHalf
  rw [BitVec.getLsbD_ofNat, Nat.testBit_two_pow_sub_one, decide_eq_true hx, Bool.true_and]

/-- The second half holds those of groups 3 and 4 (R124). -/
theorem getLsbD_secondHalf {x : Nat} (hx : x < 832) : secondHalf.getLsbD x = decide (416 ≤ x) := by
  rw [secondHalf, BitVec.getLsbD_not, getLsbD_firstHalf hx, decide_eq_true hx, Bool.true_and, ← decide_not]
  simp only [Nat.not_lt]

/-- Mask B holds the dots that are on and not hot (R136). -/
theorem getLsbD_maskB {d p1 : Dots} {x : Nat} (hx : x < 832) :
    (maskB d p1).getLsbD x = (d.getLsbD x && !p1.getLsbD x) := by
  simp [maskB, hx]

/-- Mask C holds the cold dots that are on (R136). -/
theorem getLsbD_maskC {d p1 p2 : Dots} {x : Nat} (hx : x < 832) :
    (maskC d p1 p2).getLsbD x = (d.getLsbD x && !p1.getLsbD x && !p2.getLsbD x) := by
  simp [maskC, hx]

/-- A dot receives the phases of its history class (R136). -/
theorem phases_of_class (p : Strobe) (h : p.a + p.b + p.c = p.w) (d p1 p2 : Bool) :
    (if d then p.a else 0) + (if (d && !p1) then p.b else 0) + (if (d && !p1 && !p2) then p.c else 0)
      = if d then if p1 then p.a else if p2 then p.a + p.b else p.w else 0 := by
  rw [← h]
  cases d <;> cases p1 <;> cases p2 <;> simp

/-- A dot in one half receives what it receives in the whole line (R138). -/
theorem phases_of_halves (first : Bool) (a b c : Nat) (p q r : Bool) :
    ((if (first && p) then a else 0) + (if (first && q) then b else 0) + (if (first && r) then c else 0))
      + ((if (!first && p) then a else 0) + (if (!first && q) then b else 0) + (if (!first && r) then c else 0))
      = (if p then a else 0) + (if q then b else 0) + (if r then c else 0) := by
  cases first <;> simp

/-- Settles O39: the masks of a dot's class, whole and in halves. -/
theorem masksFollowHistory : Obligations.MasksFollowHistory := by
  unfold Obligations.MasksFollowHistory
  intro d p1 p2 p nmax tline x hx hw l whole got
  have hB := getLsbD_maskB (d := d) (p1 := p1) hx
  have hC := getLsbD_maskC (d := d) (p1 := p1) (p2 := p2) hx
  have hwhole : dotsOn d ≤ nmax → l.masks = whole ∧ l.strobeTime = strobeTimeOf p := by
    intro h
    have hs : isSplit nmax d = false := decide_eq_false (Nat.not_lt.2 h)
    simp [l, whole, newLineStrobe, lineMasks, hs]
  have hsplit : nmax < dotsOn d → l.masks = whole.map (· &&& firstHalf) ++ whole.map (· &&& secondHalf)
      ∧ l.strobeTime = 2 * strobeTimeOf p := by
    intro h
    have hs : isSplit nmax d = true := decide_eq_true h
    simp [l, whole, newLineStrobe, lineMasks, hs]
  have h1 : ∀ m : Dots, (m &&& firstHalf).getLsbD x = (decide (x < 416) && m.getLsbD x) := by
    intro m
    rw [BitVec.getLsbD_and, getLsbD_firstHalf hx, Bool.and_comm]
  have h2 : ∀ m : Dots, (m &&& secondHalf).getLsbD x = (decide (416 ≤ x) && m.getLsbD x) := by
    intro m
    rw [BitVec.getLsbD_and, getLsbD_secondHalf hx, Bool.and_comm]
  refine ⟨rfl, hB, hC, fun hz1 hz2 => ?_, hwhole, fun h => ?_, ?_⟩
  · subst hz1 hz2
    refine BitVec.eq_of_getLsbD_eq fun i hi => ?_
    have hz : (0 : Dots).getLsbD i = false := BitVec.getLsbD_zero
    rw [getLsbD_maskC hi, hz, Bool.not_false, Bool.and_true, Bool.and_true]
  · obtain ⟨hm, ht⟩ := hsplit h
    rw [hm]
    refine ⟨rfl, ht, fun n m hn => ?_⟩
    match n with
    | 0 | 1 | 2 =>
      refine ⟨m &&& firstHalf, m &&& secondHalf, ?_, ?_, h1 m, h2 m⟩ <;>
        · cases hn
          rfl
    | n + 3 => simp [whole] at hn
  · rw [← phases_of_class p hw]
    split
    · rename_i h
      have hcompl : decide (416 ≤ x) = !decide (x < 416) := by
        rw [← decide_not, decide_eq_decide, Nat.not_lt]
      simp only [got, (hsplit h).1, whole, List.map_cons, List.map_nil, List.cons_append, List.nil_append,
        List.getElem?_cons_zero, List.getElem?_cons_succ, Option.getD_some, h1, h2, hB, hC, maskA, hcompl]
      exact phases_of_halves _ _ _ _ _ _ _
    · rename_i h
      simp only [got, (hwhole (Nat.not_lt.1 h)).1, whole, List.getElem?_cons_zero, List.getElem?_cons_succ,
        Option.getD_some, hB, hC, maskA]

end Sys2Proof.Machine
end

section
/-! Fault flags and the notices offered (Chapter 11). -/

namespace Sys2Proof.Machine

/-! ## Fault records (R191, R192) -/

/-- A kind's record replaced is that kind's record, and every other stays. -/
theorem faultOf_setFault (k j : FaultKind) (r : FaultRecord) (s : State) :
    faultOf (setFault k r s) j = if j = k then r else faultOf s j := by
  simp only [faultOf, setFault]
  split
  · rename_i h
    subst h
    simp
  · rename_i h
    exact Vector.getElem_set_ne _ _ fun he => h (FaultKind.index_injective he.symm)

/-- A record replaced by itself. -/
theorem setFault_faultOf (k : FaultKind) (s : State) : setFault k (faultOf s k) s = s := by
  simp [setFault, faultOf]

/-- The flags of a kind raised (R192). -/
theorem faultOf_raiseFlags (k j : FaultKind) (s : State) :
    faultOf (raiseFlags k s) j = if j = k then { faultOf s k with active := true, latched := true } else faultOf s j :=
  faultOf_setFault _ _ _ _

/-! ## Notices (R198) -/

/-- The notices offered in an event: reports enter the transmitter's queues and the reported states follow, and no flag
changes. -/
def Noticed (s t : State) : Prop :=
  ∃ jl fm, t = { s with jl := jl, fm := fm }
    ∧ ∀ k, (faultOf t k).active = (faultOf s k).active ∧ (faultOf t k).latched = (faultOf s k).latched

theorem Noticed.refl (s : State) : Noticed s s := ⟨s.jl, s.fm, rfl, fun _ => ⟨rfl, rfl⟩⟩

theorem Noticed.trans {a b c : State} (h : Noticed a b) (h' : Noticed b c) : Noticed a c := by
  obtain ⟨jl, fm, rfl, hf⟩ := h
  obtain ⟨jl', fm', rfl, hf'⟩ := h'
  exact ⟨jl', fm', rfl, fun k => ⟨(hf' k).1.trans (hf k).1, (hf' k).2.trans (hf k).2⟩⟩

/-- A notice that enters the queue changes the transmitter alone. -/
theorem enterReport_flt (k : FaultKind) (b : Bool) (s : State) :
    ∃ jl, enterReport (.flt k b) s = { s with jl := jl } := by
  rw [enterReport, onEnter_flt, beginCharacter_eq]
  exact ⟨_, rfl⟩

/-- A notice offered changes the transmitter alone. -/
theorem offerReport_flt (k : FaultKind) (b : Bool) (s : State) :
    ∃ jl, offerReport (.flt k b) s = { s with jl := jl } := by
  rcases offerReport_cases (.flt k b) s with ⟨-, -, h⟩ | ⟨-, h⟩
  · obtain ⟨jl, hjl⟩ := enterReport_flt k b s
    exact ⟨jl, h.trans hjl⟩
  · exact ⟨_, h⟩

/-- A notice offered keeps every flag. -/
theorem offerNotice_noticed (k : FaultKind) (s : State) : Noticed s (offerNotice k s) := by
  unfold offerNotice
  split
  · obtain ⟨jl, h⟩ := offerReport_flt k (faultOf s k).latched
      (setFault k { faultOf s k with reported := (faultOf s k).latched } s)
    rw [h]
    refine ⟨jl, _, rfl, fun j => ?_⟩
    have hj := faultOf_setFault k j { faultOf s k with reported := (faultOf s k).latched } s
    have : faultOf { setFault k { faultOf s k with reported := (faultOf s k).latched } s with jl := jl } j
        = if j = k then { faultOf s k with reported := (faultOf s k).latched } else faultOf s j := hj
    rw [this]
    split
    · rename_i he
      subst he
      exact ⟨rfl, rfl⟩
    · exact ⟨rfl, rfl⟩
  · exact .refl s

/-- The notices offered keep every flag. -/
theorem offerNotices_noticed (s : State) : Noticed s (offerNotices s) := by
  unfold offerNotices
  generalize FaultKind.all = l
  induction l generalizing s with
  | nil => exact .refl s
  | cons k l ih => exact (offerNotice_noticed k s).trans (ih _)

/-! ## Head temperature (R127 to R131) -/

/-- A condition with hysteresis, as its two limits say it (R129, R130). -/
theorem hysteresis_eq {begins ends : Int} (holds : Bool) (r : Int) :
    hysteresis begins ends holds r = (decide (begins ≤ r) || (decide (ends < r) && holds)) := by
  unfold hysteresis
  by_cases h1 : begins ≤ r
  · simp [h1]
  · by_cases h2 : r ≤ ends
    · simp [h1, h2]
    · simp [h1, h2, Int.lt_of_not_ge h2]

/-- HEAD-WARM follows the warm condition (R129). -/
theorem followWarm_spec (s : State) : ∃ r, followWarm s = setFault .headWarm r s ∧ r.active = s.stu.warm := by
  unfold followWarm
  split
  · rename_i hw
    split
    · rename_i ha
      exact ⟨faultOf s .headWarm, (setFault_faultOf _ _).symm, ha.trans hw.symm⟩
    · exact ⟨_, rfl, hw.symm⟩
  · rename_i hw
    exact ⟨_, rfl, (Bool.eq_false_iff.2 hw).symm⟩

/-- The reason HOT made present or absent. -/
def setHot (b : Bool) (s : State) : State := { s with pe := { s.pe with pause := { s.pe.pause with hot := b } } }

/-- HEAD-HOT and the reason HOT follow the hot condition (R130). -/
theorem followHot_spec {s : State} (h : s.pe.pause.hot = (faultOf s .headHot).active) :
    ∃ r, followHot s = setFault .headHot r (setHot s.stu.hot s) ∧ r.active = s.stu.hot := by
  unfold followHot
  split
  · rename_i hw
    split
    · rename_i ha
      refine ⟨faultOf s .headHot, ?_, ha.trans hw.symm⟩
      have hs : setHot s.stu.hot s = s := by
        rw [hw, ← ha, ← h]
        rfl
      rw [hs, setFault_faultOf]
    · refine ⟨{ faultOf s .headHot with active := true, latched := true }, ?_, hw.symm⟩
      rw [hw]
      rfl
  · rename_i hw
    refine ⟨{ faultOf s .headHot with active := false, latched := false }, ?_, (Bool.eq_false_iff.2 hw).symm⟩
    rw [Bool.eq_false_iff.2 hw]
    rfl

/-- What a sample's completion answers: the notices of the flags it sets. -/
theorem exec_sampleCompletion {s t : State} {r : Int} (hp : s.powered = true) (h1 : s.pe.engine ≠ .idle)
    (h2 : s.pe.engine ≠ .halted) (hpe : t.pe.engine = s.pe.engine)
    (ht : (if validReading r then endCondition .headSensor (followWarm (followHot { s with stu := s.stu.sampled r }))
      else raiseFlags .headSensor { s with stu := s.stu.sampled r }) = t) :
    exec (.sampleCompletion r) s = .next (offerNotices t) := by
  show execSampleCompletion r s = _
  rw [execSampleCompletion, inEvent_of hp rfl, takeGeometry_of_busy h1]
  simp only [completeSample, ht]
  rw [resumeIfEmptied_of_moving] <;>
    · simp only [offerNotices_frame, hpe]
      assumption

/-- The temperature state after a valid reading (R127, R129, R130, R134). -/
theorem sampled_of_valid {r : Int} (u : StrobeUnit) (h : -20 ≤ r ∧ r ≤ 120) :
    let v := u.sampled r
    v.temp = r ∧ v.sensorValid = true ∧ v.warm = (decide (70 ≤ r) || (decide (65 < r) && u.warm))
      ∧ v.hot = (decide (80 ≤ r) || (decide (70 < r) && u.hot)) := by
  have hv : validReading r = true := by simp [validReading, h]
  simp only [StrobeUnit.sampled, hv, if_true]
  exact ⟨trivial, trivial, hysteresis_eq _ _, hysteresis_eq _ _⟩

/-- The temperature state after an invalid reading (R127, R131). -/
theorem sampled_of_invalid {r : Int} (u : StrobeUnit) (h : r < -20 ∨ 120 < r) :
    let v := u.sampled r
    v.temp = u.temp ∧ v.sensorValid = false ∧ v.warm = u.warm ∧ v.hot = u.hot := by
  have hv : validReading r = false := by
    simp only [validReading, Bool.and_eq_false_iff, decide_eq_false_iff_not]
    omega
  simp [StrobeUnit.sampled, hv]

/-- The width computed from a sample waits in the buffer for a swap (R134). -/
theorem sampled_buffers (r : Int) (u : StrobeUnit) :
    let v := u.sampled r
    v.reading = r ∧ v.active = u.active ∧ v.width = u.width ∧ v.swap = true
      ∧ v.buffered = computeStrobe u.active v := by
  unfold StrobeUnit.sampled
  split <;> exact ⟨rfl, rfl, rfl, rfl, rfl⟩

/-- Settles O41: a valid reading sets the conditions and the faults that follow them, an invalid one the sensor's. -/
theorem sampleSetsTemperature : Obligations.SampleSetsTemperature := by
  unfold Obligations.SampleSetsTemperature
  intro s r hp h1 h2 hhot
  obtain ⟨hread, hact, hwidth, hswap, hbuf⟩ := sampled_buffers r s.stu
  by_cases hr : -20 ≤ r ∧ r ≤ 120
  · have hv : validReading r = true := by simp [validReading, hr]
    obtain ⟨htemp, hvalid, hwarm, hh⟩ := sampled_of_valid s.stu hr
    obtain ⟨rh, hrh, hah⟩ := followHot_spec (s := { s with stu := s.stu.sampled r }) hhot
    obtain ⟨rw', hrw, haw⟩ := followWarm_spec (followHot { s with stu := s.stu.sampled r })
    have hx := exec_sampleCompletion (r := r) (t := endCondition .headSensor
      (followWarm (followHot { s with stu := s.stu.sampled r }))) hp h1 h2 (by rw [hrw, hrh]; rfl) (if_pos hv)
    obtain ⟨jl, fm, ht, hflags⟩ := offerNotices_noticed (endCondition .headSensor
      (followWarm (followHot { s with stu := s.stu.sampled r })))
    rw [ht] at hx hflags
    rw [hrh] at haw hrw
    rw [hrh, hrw] at hx hflags
    refine ⟨s.stu.sampled r, fm, jl, (s.stu.sampled r).hot, hx, hread, hact, hwidth, hswap, hbuf,
      fun _ => ⟨htemp, hvalid, hwarm, hh, ?_, ?_, ?_, rfl⟩, fun hn => absurd hn (by omega)⟩
    · refine (hflags .headWarm).1.trans ?_
      simp only [endCondition, faultOf_setFault, reduceCtorEq, if_false, if_true]
      exact haw
    · refine (hflags .headHot).1.trans ?_
      simp only [endCondition, faultOf_setFault, reduceCtorEq, if_false, if_true]
      exact hah
    · refine (hflags .headSensor).1.trans ?_
      simp only [endCondition, faultOf_setFault, if_true]
  · have hr' : r < -20 ∨ 120 < r := by omega
    have hv : ¬validReading r = true := by simp [validReading, hr]
    obtain ⟨htemp, hvalid, hwarm, hh⟩ := sampled_of_invalid s.stu hr'
    have hx := exec_sampleCompletion (r := r) (t := raiseFlags .headSensor { s with stu := s.stu.sampled r })
      hp h1 h2 rfl (if_neg hv)
    obtain ⟨jl, fm, ht, hflags⟩ := offerNotices_noticed (raiseFlags .headSensor { s with stu := s.stu.sampled r })
    rw [ht] at hx hflags
    refine ⟨s.stu.sampled r, fm, jl, s.pe.pause.hot, hx, hread, hact, hwidth, hswap, hbuf,
      fun hn => absurd hn hr, fun _ => ⟨htemp, hvalid, hwarm, hh, ?_, ?_, rfl⟩⟩
    · refine (hflags .headSensor).1.trans ?_
      simp only [faultOf_raiseFlags, if_true]
    · refine (hflags .headSensor).2.trans ?_
      simp only [faultOf_raiseFlags, if_true]

/-! ## Head power (R143, R144) -/

/-- Settles O42: the settle by the engine's state, and the timer's expiry. -/
theorem headPowerFollows : Obligations.HeadPowerFollows := by
  unfold Obligations.HeadPowerFollows
  refine ⟨fun s hp hw => ?_, fun s n hp hn => ?_⟩
  · have hx : exec .settleCompletion s = .next (completeSettle (takeGeometry s)) := by
      show execSettleCompletion s = _
      rw [execSettleCompletion, inEvent_of hp (by simp [hw])]
    refine ⟨fun he => ?_, fun he hl => ?_, fun h1 h2 => ?_⟩
    · have hg : (takeGeometry s).pe.engine = .idle := by simp [takeGeometry_pe, he]
      rw [hx, completeSettle]
      simp only [hg, if_true]
      rw [startIdleTimer, if_pos rfl]
      simp
    · rw [hx, takeGeometry_of_busy (by simp [he]), completeSettle]
      simp [he, lineInProgress, hl]
    · rw [hx, takeGeometry_of_busy h1, completeSettle]
      simp [h1, h2]
  · show execIdleTimerExpiry s = _
    rw [execIdleTimerExpiry, inEvent_of hp (by simp [hn])]
    simp

end Sys2Proof.Machine
end

section
/-! Shifts, strobes and the closing shift (8.5 to 8.7). -/

namespace Sys2Proof.Machine

/-! ## The compare (R140, R141) -/

/-- A shift with nothing to find: no compare owed, no mismatch, or a defect found before. -/
theorem compareReadback_of_clean {rb : Dots} {s : State}
    (h : s.hi.owed = false ∨ rb = s.hi.lastMask ∨ s.hi.defect = true) : compareReadback rb s = s := by
  refine if_neg fun hx => ?_
  obtain ⟨h1, h2, h3⟩ := hx
  rcases h with h | h | h
  · simp [h] at h1
  · exact h2 h
  · simp [h] at h3

/-- The first mismatch sets the defect flag and marks the copy of the label. -/
theorem compareReadback_of_mismatch {rb : Dots} {s : State} (h1 : s.hi.owed = true) (h2 : rb ≠ s.hi.lastMask)
    (h3 : s.hi.defect = false) : compareReadback rb s
      = markLabel (fun m => { m with defect := true }) { s with hi := { s.hi with defect := true } } :=
  if_pos ⟨h1, h2, h3⟩

/-- A mark goes to the copy of the label. -/
theorem markLabel_of_copy {f : Marks → Marks} {s : State} {c : LabelContext} {id : CopyId}
    (h : s.pe.label = some c) (hc : c.copy = some id) : markLabel f s = addMark id f s := by
  simp only [markLabel, h, Option.bind_some, hc]

/-- A label without a copy takes no mark. -/
theorem markLabel_of_none {f : Marks → Marks} {s : State} (h : ∀ c, s.pe.label = some c → c.copy = none) :
    markLabel f s = s := by
  unfold markLabel
  cases hl : s.pe.label with
  | none => rfl
  | some c => simp only [Option.bind_some, h c hl]

/-- The first mismatch of a label with a copy marks it DEFECT (R141). -/
theorem compareReadback_of_copy {rb : Dots} {s : State} {c : LabelContext} {id : CopyId} (h1 : s.hi.owed = true)
    (h2 : rb ≠ s.hi.lastMask) (h3 : s.hi.defect = false) (h : s.pe.label = some c) (hc : c.copy = some id) :
    compareReadback rb s
      = addMark id (fun m => { m with defect := true }) { s with hi := { s.hi with defect := true } } :=
  (compareReadback_of_mismatch h1 h2 h3).trans (markLabel_of_copy h hc)

/-- The first mismatch of a label without a copy sets the flag alone. -/
theorem compareReadback_of_no_copy {rb : Dots} {s : State} (h1 : s.hi.owed = true) (h2 : rb ≠ s.hi.lastMask)
    (h3 : s.hi.defect = false) (h : ∀ c, s.pe.label = some c → c.copy = none) :
    compareReadback rb s = { s with hi := { s.hi with defect := true } } :=
  (compareReadback_of_mismatch h1 h2 h3).trans (markLabel_of_none h)

/-! ## Events of a line (R137, R140) -/

/-- A shift's completion. -/
theorem exec_shiftCompletion {s : State} {l : LineStrobe} {m rb : Dots} (hp : s.powered = true)
    (hl : s.hi.line = some l) (hs : l.strobed = false) (hm : l.masks[l.shifted]? = some m) :
    exec (.shiftCompletion rb) s = .next { compareReadback rb (takeGeometry s) with
      hi := { (compareReadback rb (takeGeometry s)).hi with
        line := some { l with shifted := l.shifted + 1 }, lastMask := m
        owed := (compareReadback rb (takeGeometry s)).hi.verdictDue } } := by
  have hl' : (takeGeometry s).hi.line = some l := hl
  have hm' : l.nextMask = some m := hm
  show execShiftCompletion rb s = _
  rw [execShiftCompletion, inEvent_of hp (by simp [strobing, hl, hs])]
  simp only [completeShift, hl', hm']

/-- A strobe's completion. -/
theorem exec_strobeCompletion {s : State} {l : LineStrobe} {c : LabelContext} (hp : s.powered = true)
    (hl : s.hi.line = some l) (hs : l.strobed = false) (hm : l.masks.length ≤ l.shifted) (hc : s.pe.label = some c) :
    let t := { takeGeometry s with hi := { s.hi with
      p2 := s.hi.p1, p1 := l.dots, line := some { l with strobed := true }
      power := if s.hi.offAfterStrobe then .off else s.hi.power, offAfterStrobe := false } }
    exec .strobeCompletion s
      = .next (if labelStopped s c || c.y + 1 == c.lines then beginClosing t else t) := by
  intro t
  have hl' : (takeGeometry s).hi.line = some l := hl
  have hno : ¬(l.strobed = true ∨ l.shifted < l.masks.length) := by simp [hs, hm]
  have hc' : t.pe.label = some c := by simp [t, takeGeometry_pe, hc]
  have hlast : lastLineStrobed t = (labelStopped s c || c.y + 1 == c.lines) := by
    simp only [lastLineStrobed, hc']
    rfl
  show execStrobeCompletion s = _
  rw [execStrobeCompletion, inEvent_of hp (by simp [strobing, hl, hs])]
  simp only [completeStrobe, hl', if_neg hno]
  rw [← hlast]
  rfl

/-- The closing shift's completion. -/
theorem exec_closingCompletion {s : State} {rb : Dots} (hp : s.powered = true) (hc : s.hi.closing = true) :
    exec (.closingCompletion rb) s = .next (completeClosing rb (takeGeometry s)) := by
  show execClosingCompletion rb s = _
  rw [execClosingCompletion, inEvent_of hp hc]

/-- A closing shift begins where a verdict is due, none is handed over, and no strobe is in progress (R147). -/
theorem beginClosing_of_due {s : State} (h1 : s.hi.verdictDue = true) (h2 : s.hi.verdict = none)
    (h3 : strobing s = false) : beginClosing s = { s with hi := { s.hi with closing := true } } :=
  if_pos ⟨h1, h2, h3⟩

/-- Where no verdict is due no closing shift begins (R147). -/
theorem beginClosing_of_not_due {s : State} (h : s.hi.verdictDue = false) : beginClosing s = s :=
  if_neg fun hx => by simp [h] at hx

/-! ## A label stopped while HALTED (R147, R161) -/

/-- A feed-out of a label that awaits its verdict changes the print engine alone. -/
theorem startFeedOut_of_awaited {s : State} {l : LabelContext} (h : verdictAwaited s = true) :
    ∃ pe, startFeedOut l s = { s with pe := pe } ∧ pe.engine = .feedingOut := by
  have hv : verdictAwaited (feedOutBegun l s) = true := h
  rw [startFeedOut_eq]
  split
  · rw [completeFeedOut, if_pos hv]
    exact ⟨_, rfl, rfl⟩
  · exact ⟨_, rfl, rfl⟩

/-- The band of a label between lines freed: the ring and the label's band alone change. -/
theorem freePrintingBand_spec {s : State} {l : LabelContext} (hl : s.pe.label = some l) :
    ∃ br k, freePrintingBand s
      = { s with br := br, pe := { s.pe with label := some { l with band := k } } } := by
  simp only [freePrintingBand, hl]
  cases hb : l.band with
  | none =>
    have hsame : { s with pe := { s.pe with label := some { l with band := none } } } = s := by
      rw [← hb, ← hl]
    exact ⟨s.br, none, hsame.symm⟩
  | some b => exact ⟨_, none, rfl⟩

/-- A label stopped while HALTED, its verdict due: the closing shift is made in the event, and the boundary is decided
again (R147, R159, R161; log entry 41). -/
theorem stopLabel_of_halted {s : State} {l : LabelContext} (he : s.pe.engine = .halted) (hl : s.pe.label = some l)
    (hp : l.phase = .print) (hline : s.hi.line = none) (hdue : s.hi.verdictDue = true) (hv : s.hi.verdict = none)
    (hstop : labelStopped s l = true) :
    (stopLabel s).jq = s.jq
      ∧ (s.pe.pause.isEmpty = true →
        (stopLabel s).hi = { s.hi with closing := true } ∧ (stopLabel s).pe.engine = .feedingOut)
      ∧ (s.pe.pause.isEmpty = false →
        (stopLabel s).hi = { s.hi with closing := true, resumed := true } ∧ (stopLabel s).pe.engine = .halted) := by
  obtain ⟨br, k, hf⟩ := freePrintingBand_spec hl
  have hno : lineInProgress s = false := by simp [lineInProgress, hline]
  have hs : stopLabel s = decideBoundary { s with
      br := br, pe := { s.pe with label := some { l with band := k } }, hi := { s.hi with closing := true } } := by
    unfold stopLabel
    simp only [hno, Bool.false_eq_true, if_false, hf]
    rw [beginClosing_of_due]
    rotate_left
    · exact hdue
    · exact hv
    · simp [strobing, hline]
    exact if_pos (by simp [atBoundary, he, lineInProgress, hline, hp])
  have hstop' : labelStopped { s with
      br := br, pe := { s.pe with label := some { l with band := k } }, hi := { s.hi with closing := true } }
      { l with band := k } = true := hstop
  rw [hs]
  cases hpause : s.pe.pause.isEmpty with
  | true =>
    simp only [decideBoundary, hstop', if_true, hpause]
    obtain ⟨pe, hfo, heng⟩ := startFeedOut_of_awaited (l := { l with band := k }) (s := { s with
      br := br, pe := { s.pe with label := some { l with band := k } }, hi := { s.hi with closing := true } })
      (by simp [verdictAwaited, hdue, hv])
    rw [hfo]
    exact ⟨rfl, fun _ => ⟨rfl, heng⟩, nofun⟩
  | false =>
    simp only [decideBoundary, hstop', if_true, hpause, Bool.false_eq_true, if_false]
    exact ⟨rfl, nofun, fun _ => ⟨rfl, rfl⟩⟩

/-- A copy in PRINTING withdrawn while HALTED. -/
theorem withdrawCopy_of_halted {s : State} {l : LabelContext} {id : CopyId} {c : Copy} (he : s.pe.engine = .halted)
    (hl : s.pe.label = some l) (hp : l.phase = .print) (hline : s.hi.line = none) (hdue : s.hi.verdictDue = true)
    (hv : s.hi.verdict = none) (hid : l.copy = some id) (hc : copyOf s id = some c) (hst : c.state = .printing)
    (hm : c.marks.withdrawn = false) :
    let t := withdrawCopy id s
    copyOf t id = some { c with marks := { c.marks with withdrawn := true } }
      ∧ (s.pe.pause.isEmpty = true → t.hi = { s.hi with closing := true } ∧ t.pe.engine = .feedingOut)
      ∧ (s.pe.pause.isEmpty = false →
        t.hi = { s.hi with closing := true, resumed := true } ∧ t.pe.engine = .halted) := by
  intro t
  obtain ⟨hjq, -, -, -, hhi, -, hpe⟩ := releaseCopy_keeps id (addMark id (fun m => { m with withdrawn := true }) s)
  have ht : t = stopLabel (releaseCopy id (addMark id (fun m => { m with withdrawn := true }) s)) := by
    refine ((withdrawCopy_of hc).2.1 hst).trans ?_
    simp only [withdraw, hc, Option.any_some, hm, Bool.false_eq_true, if_false]
  rw [ht]
  generalize releaseCopy id (addMark id (fun m => { m with withdrawn := true }) s) = u at hjq hhi hpe
  have hpe' : u.pe = s.pe := hpe
  have hhi' : u.hi = s.hi := hhi
  have hcopy : copyOf u id = some { c with marks := { c.marks with withdrawn := true } } :=
    (copyOf_congr hjq id).trans (copyOf_addMark _ hc hst)
  obtain ⟨hkeep, hrun, hpaused⟩ := stopLabel_of_halted (s := u) (l := l) (by rw [hpe', he]) (by rw [hpe', hl]) hp
    (by rw [hhi', hline]) (by rw [hhi', hdue]) (by rw [hhi', hv]) (by simp [labelStopped, hid, hcopy])
  rw [hpe', hhi'] at hrun hpaused
  exact ⟨(copyOf_congr hkeep id).trans hcopy, hrun, hpaused⟩

/-- An abort while HALTED. -/
theorem abort_of_halted {s : State} {l : LabelContext} (he : s.pe.engine = .halted) (hl : s.pe.label = some l)
    (hp : l.phase = .print) (hline : s.hi.line = none) (hdue : s.hi.verdictDue = true) (hv : s.hi.verdict = none)
    (h : Takes .abort formNone () s) : ∃ t, exec .abort s = .next t
      ∧ (s.pe.pause.isEmpty = true → t.hi = { s.hi with closing := true } ∧ t.pe.engine = .feedingOut)
      ∧ (s.pe.pause.isEmpty = false →
        t.hi = { s.hi with closing := true, resumed := true } ∧ t.pe.engine = .halted) := by
  have hx : exec .abort s = .next (takeAbort () (removeRecord s)) := congrArg _ (onRecord_of_takes h takeAbort)
  refine ⟨_, hx, ?_⟩
  simp only [takeAbort, performAbort_eq, reply]
  generalize hr : enterReport (.abt (removeRecord s).jq.jobs.length) (abandonContext (removeRecord s)) = r
  have hbusy : s.pe.engine ≠ .idle := by simp [he]
  have hpe : r.pe = s.pe := by rw [← hr]; simp [takeGeometry_of_busy hbusy]
  have hhi : r.hi = s.hi := by rw [← hr]; simp
  have hlabel : (abortedJobs r).pe.label = some { l with copy := none } := by
    show r.pe.label.map _ = _
    rw [hpe, hl]
    rfl
  have hpause : (abortedJobs r).pe.pause = s.pe.pause := by
    show r.pe.pause = _
    rw [hpe]
  have hhi' : (abortedJobs r).hi = s.hi := hhi
  have heng : (abortedJobs r).pe.engine = .halted := by
    show r.pe.engine = _
    rw [hpe, he]
  obtain ⟨-, hrun, hpaused⟩ := stopLabel_of_halted heng hlabel hp (by rw [hhi', hline]) (by rw [hhi', hdue])
    (by rw [hhi', hv]) rfl
  rw [hpause, hhi'] at hrun hpaused
  exact ⟨hrun, hpaused⟩

/-- Settles O40: the compare of each shift, the strobe's end, the verdict, and the label stopped while HALTED. -/
theorem readbackAndHistory : Obligations.ReadbackAndHistory := by
  unfold Obligations.ReadbackAndHistory
  refine ⟨fun s l m rb hp hl hs hm => ?_, fun s l c hp hl hs hm hc => ?_, fun s rb hp hc => ?_,
    fun s l he hl hp hline hdue hv => ⟨fun id c hid hc hst hm => ?_, fun h => ?_⟩⟩
  · intro s0 hi
    have hx := exec_shiftCompletion (rb := rb) hp hl hs hm
    refine ⟨fun h => ?_, fun c id h1 h2 h3 hlab hcp => ?_, fun h1 h2 h3 hlab => ?_⟩
    · rw [hx, compareReadback_of_clean (s := takeGeometry s) h]
      rfl
    · have hlab' : (takeGeometry s).pe.label = some c := by simp [takeGeometry_pe, hlab]
      rw [hx, compareReadback_of_copy (s := takeGeometry s) h1 h2 h3 hlab' hcp]
      rfl
    · have hlab' : ∀ c, (takeGeometry s).pe.label = some c → c.copy = none := by simpa [takeGeometry_pe] using hlab
      rw [hx, compareReadback_of_no_copy (s := takeGeometry s) h1 h2 h3 hlab']
      rfl
  · intro s0 hi
    have hx := exec_strobeCompletion hp hl hs hm hc
    refine ⟨fun h1 h2 => ?_, fun h hdue hv => ?_, fun h hdue => ?_⟩
    · rw [hx, if_neg (by simp [h1, h2])]
    · rw [hx, if_pos (by simpa using h)]
      exact congrArg _ (beginClosing_of_due hdue hv rfl)
    · rw [hx, if_pos (by simpa using h)]
      exact congrArg _ (beginClosing_of_not_due hdue)
  · intro s0 closed shown
    have hx := exec_closingCompletion (rb := rb) hp hc
    have hlab : (takeGeometry s).pe.label = s.pe.label := by simp [takeGeometry_pe]
    have hshown : ∀ t : State, t.pe.label = s.pe.label → (match t.pe.label with
        | some c => if c.arrived then present c t else t
        | none => t) = shown t := by
      intro t ht
      rw [ht] <;> rfl
    refine ⟨fun h => ?_, fun c id h1 h2 h3 hc hcp => ?_, fun h1 h2 h3 hc => ?_⟩
    · rw [hx, completeClosing, compareReadback_of_clean (s := takeGeometry s) h]
      exact congrArg _ (hshown _ hlab)
    · have hlab' : (takeGeometry s).pe.label = some c := hlab.trans hc
      rw [hx, completeClosing, compareReadback_of_copy (s := takeGeometry s) h1 h2 h3 hlab' hcp]
      exact congrArg _ (hshown _ hlab)
    · have hlab' : ∀ c, (takeGeometry s).pe.label = some c → c.copy = none := by rwa [hlab]
      rw [hx, completeClosing, compareReadback_of_no_copy (s := takeGeometry s) h1 h2 h3 hlab']
      exact congrArg _ (hshown _ hlab)
  · exact withdrawCopy_of_halted he hl hp hline hdue hv hid hc hst hm
  · exact abort_of_halted he hl hp hline hdue hv h

end Sys2Proof.Machine
end

section
/-! The image that SAVE forms read back (13.3). -/

namespace Sys2Proof.Machine

/-! ## Numbers in an image (R205) -/

/-- The number that `n` bytes of a value spell. -/
theorem fromBytes_toBytes_mod (n v : Nat) : fromBytes (toBytes n v) = v % 256 ^ n := by
  induction n generalizing v with
  | zero => simp [toBytes, fromBytes, Nat.mod_one]
  | succ n ih =>
    show v % 256 + 256 * fromBytes (toBytes n (v / 256)) = _
    rw [ih, Nat.pow_succ', Nat.mod_mul]

/-- A number behind other bytes. -/
theorem imageNumber_add (bytes : List Byte) (a off k : Nat) :
    imageNumber bytes (a + off) k = imageNumber (bytes.drop a) off k := by
  simp only [imageNumber, List.drop_drop]

/-- A number behind a value's bytes. -/
theorem imageNumber_skip {n v off k : Nat} {rest : List Byte} (h : n ≤ off) :
    imageNumber (toBytes n v ++ rest) off k = imageNumber rest (off - n) k := by
  obtain ⟨m, rfl⟩ := Nat.exists_eq_add_of_le h
  rw [imageNumber_add, Nat.add_sub_cancel_left]
  rw [List.drop_left' (toBytes_length n v)]

/-- A value's bytes spell it. -/
theorem imageNumber_here (k v : Nat) (rest : List Byte) : imageNumber (toBytes k v ++ rest) 0 k = v % 256 ^ k := by
  have : (toBytes k v ++ rest).take k = toBytes k v :=
    List.take_left' (toBytes_length k v)
  rw [imageNumber, List.drop_zero, this, fromBytes_toBytes_mod]

/-- A number behind a byte. -/
theorem imageNumber_cons {b : Byte} {off k : Nat} {rest : List Byte} (h : 1 ≤ off) :
    imageNumber (b :: rest) off k = imageNumber rest (off - 1) k := by
  obtain ⟨m, rfl⟩ := Nat.exists_eq_add_of_le h
  rw [imageNumber_add, Nat.add_sub_cancel_left]
  rfl

/-- One byte is its own number. -/
theorem imageNumber_byte (b : Byte) (rest : List Byte) : imageNumber (b :: rest) 0 1 = b.toNat := by
  simp [imageNumber, fromBytes]

/-- A signed number of few bits reads back (R205). -/
theorem fromSigned_toSigned {w : Nat} {v : Int} (h1 : -(2 ^ (w - 1) : Int) ≤ v) (h2 : v < 2 ^ (w - 1)) (hw : 0 < w) :
    fromSigned w (toSigned w v % 2 ^ w) = v := by
  have hmod : BitVec.ofNat w (toSigned w v % 2 ^ w) = BitVec.ofInt w v := by
    rw [toSigned, Nat.mod_eq_of_lt (BitVec.isLt _), BitVec.ofNat_toNat, BitVec.setWidth_eq]
  rw [fromSigned, hmod]
  exact BitVec.toInt_ofInt_eq_self hw h1 h2

/-! ## A counter's bytes (R209) -/

/-- The byte of a counter's mode. -/
def CounterMode.byte : CounterMode → Byte
  | .wrap => 0
  | .hold => 1

/-- The byte of a counter's cascade. -/
def cascadeByte : Option Nat → Byte
  | some j => BitVec.ofNat 8 j
  | none => 0xFF

/-- The byte of a counter's fill. -/
def CounterFill.byte : CounterFill → Byte
  | .zero => 0
  | .space => 1

/-- A counter's 19 bytes, each by its name. -/
theorem counterBytes_eq (c : Counter) : counterBytes c =
    toBytes 4 c.value ++ (toBytes 4 c.low ++ (toBytes 4 c.high ++ (toBytes 2 (toSigned 16 c.step)
      ++ [c.mode.byte, cascadeByte c.cascade, BitVec.ofNat 8 c.digits, c.fill.byte,
        if c.exhausted then 1 else 0]))) := by
  simp only [counterBytes, List.append_assoc]
  rfl

theorem CounterMode.codeValue_byte (m : CounterMode) : codeValue [.wrap, .hold] m.byte.toNat = some m := by
  cases m <;> rfl

theorem CounterFill.codeValue_byte (f : CounterFill) : codeValue [.zero, .space] f.byte.toNat = some f := by
  cases f <;> rfl

theorem codeValue_exhausted (b : Bool) : codeValue [false, true] (if b then (1 : Byte) else 0).toNat = some b := by
  cases b <;> rfl

/-- The cascade read from its byte. -/
theorem cascade_of_byte {n : Nat} {o : Option Nat} (h : ∀ j, o = some j → n < j ∧ j ≤ 7) :
    ((cascadeByte o).toNat = 255 ∨ n < (cascadeByte o).toNat ∧ (cascadeByte o).toNat ≤ 7)
      ∧ (if (cascadeByte o).toNat = 255 then none else some (cascadeByte o).toNat) = o := by
  cases o with
  | none => exact ⟨.inl rfl, rfl⟩
  | some j =>
    obtain ⟨h1, h2⟩ := h j rfl
    have hj : (cascadeByte (some j)).toNat = j := by
      rw [cascadeByte, BitVec.toNat_ofNat]
      omega
    rw [hj]
    exact ⟨.inr ⟨h1, h2⟩, if_neg (by omega)⟩

/-- The record of a legal counter reads back from its 19 bytes. -/
theorem readCounter_of_drop {bytes rest : List Byte} {n : Nat} {c : Counter} (hc : legalCounter n c)
    (h : bytes.drop (39 + 19 * n) = counterBytes c ++ rest) : readCounter bytes n = some c := by
  obtain ⟨hlh, hh, hlv, hvh, hs0, hs, hsr, hcas, hd1, hd9, hex⟩ := hc
  have hat : ∀ o k, imageNumber bytes (39 + 19 * n + o) k = imageNumber (counterBytes c ++ rest) o k := by
    intro o k
    rw [imageNumber_add, h]
  have hstep : fromSigned 16 (toSigned 16 c.step % 65536) = c.step :=
    fromSigned_toSigned (by omega) (by omega) (by omega)
  have hvalue : c.value % 4294967296 = c.value := Nat.mod_eq_of_lt (by omega)
  have hlow : c.low % 4294967296 = c.low := Nat.mod_eq_of_lt (by omega)
  have hhigh : c.high % 4294967296 = c.high := Nat.mod_eq_of_lt (by omega)
  have hdig : c.digits % 256 = c.digits := Nat.mod_eq_of_lt (by omega)
  obtain ⟨hcas1, hcas2⟩ := cascade_of_byte hcas
  have hsound : exhaustedSound c = true := by
    unfold exhaustedSound
    cases he : c.exhausted with
    | false => rfl
    | true =>
      obtain ⟨hmode, hval⟩ := hex he
      simp [hmode, hval]
  unfold readCounter
  simp only [hat, counterBytes_eq, List.append_assoc, imageNumber_skip, imageNumber_here, imageNumber_cons,
    imageNumber_byte, List.cons_append, List.nil_append, Nat.reduceLeDiff, Nat.reduceSub, Nat.reducePow,
    BitVec.toNat_ofNat, hstep, hvalue, hlow, hhigh, hdig, Nat.le_refl, Nat.sub_self, CounterMode.codeValue_byte,
    CounterFill.codeValue_byte, codeValue_exhausted, hcas2]
  rw [if_pos ⟨hlh, hh, hlv, hvh, hs0, hs, hsr, hcas1, hd1, hd9⟩, if_pos hsound]

/-- The records of the counters follow one another. -/
theorem drop_flatMap_counterBytes {l : List Counter} {n : Nat} (rest : List Byte) (h : n < l.length) :
    ∃ more, (l.flatMap counterBytes ++ rest).drop (19 * n) = counterBytes l[n] ++ more := by
  induction l generalizing n with
  | nil => cases h
  | cons c l ih =>
    cases n with
    | zero => exact ⟨l.flatMap counterBytes ++ rest, by simp⟩
    | succ n =>
      obtain ⟨more, hm⟩ := ih (n := n) (by simpa using h)
      refine ⟨more, ?_⟩
      have hlen : (counterBytes c).length = 19 := by simp [counterBytes]
      rw [List.flatMap_cons, List.append_assoc, Nat.mul_succ, Nat.add_comm, ← List.drop_drop,
        List.drop_left' hlen, hm]
      rfl

/-! ## The image (R209, R210) -/

/-- The bytes of the image before the routes. -/
def imageFront (x : Settings) (cb : Vector Counter 8) : List Byte :=
  toBytes 2 0x4C31 ++ (toBytes 2 (imageSum (imageBody x cb)) ++ (toBytes 1 (rateCode x.rate)
    ++ (toBytes 2 x.energy.speed ++ (toBytes 1 (toSigned 8 x.energy.dark) ++ (toBytes 2 x.energy.basew
    ++ (toBytes 1 x.energy.ha ++ (toBytes 1 x.energy.hb ++ (toBytes 2 x.energy.split ++ (toBytes 2 x.idle
    ++ (toBytes 1 (mediaCode x.media) ++ (toBytes 2 x.pitch ++ (toBytes 1 x.peel ++ (toBytes 1 x.start
    ++ (toBytes 1 (lineModeCode x.mode) ++ toBytes 2 x.applyd))))))))))))))

/-- The bytes of the routes. -/
def imageRoutes (x : Settings) : List Byte := x.routes.toList.map fun r => BitVec.ofNat 8 (routeCode r)

/-- The bytes of the counters. -/
def imageCounters (cb : Vector Counter 8) : List Byte := cb.toList.flatMap counterBytes

/-- The parts of the image that SAVE forms. -/
theorem formImage_eq (x : Settings) (cb : Vector Counter 8) : formImage x cb =
    imageFront x cb ++ (imageRoutes x ++ (imageCounters cb ++ List.replicate 65 0)) := by
  simp only [formImage, imageBody, imageFront, imageRoutes, imageCounters, List.append_assoc]

theorem imageFront_length (x : Settings) (cb : Vector Counter 8) : (imageFront x cb).length = 24 := by
  simp [imageFront]

theorem imageRoutes_length (x : Settings) : (imageRoutes x).length = 15 := by simp [imageRoutes]

theorem imageCounters_length (cb : Vector Counter 8) : (imageCounters cb).length = 152 := by
  have : ∀ l : List Counter, (l.flatMap counterBytes).length = 19 * l.length := by
    intro l
    induction l with
    | nil => rfl
    | cons c l ih =>
      have hlen : (counterBytes c).length = 19 := by simp [counterBytes]
      rw [List.flatMap_cons, List.length_append, hlen, ih, List.length_cons]
      omega
  rw [imageCounters, this]
  simp

/-- Behind the settings stand the routes. -/
theorem formImage_drop_front (x : Settings) (cb : Vector Counter 8) :
    (formImage x cb).drop 24 = imageRoutes x ++ (imageCounters cb ++ List.replicate 65 0) := by
  rw [formImage_eq, List.drop_left' (imageFront_length x cb)]

/-- Behind the routes stand the counters. -/
theorem formImage_drop_routes (x : Settings) (cb : Vector Counter 8) :
    (formImage x cb).drop 39 = imageCounters cb ++ List.replicate 65 0 := by
  rw [show 39 = 24 + 15 from rfl, ← List.drop_drop, formImage_drop_front, List.drop_left' (imageRoutes_length x)]

/-- Behind the counters stand zeros. -/
theorem formImage_drop_counters (x : Settings) (cb : Vector Counter 8) :
    (formImage x cb).drop 191 = List.replicate 65 0 := by
  rw [show 191 = 39 + 152 from rfl, ← List.drop_drop, formImage_drop_routes, List.drop_left' (imageCounters_length cb)]

/-- The counters of the image read back (R56). -/
theorem readCounters_formImage {x : Settings} {cb : Vector Counter 8} (h : legalCounters cb) :
    readCounters (formImage x cb) = some cb := by
  have hread : (List.range 8).mapM (readCounter (formImage x cb)) = some cb.toList := by
    rw [mapM_eq_some_iff]
    refine List.ext_getElem (by simp) fun n h1 h2 => ?_
    have hn : n < 8 := by simpa using h1
    obtain ⟨more, hm⟩ := drop_flatMap_counterBytes (l := cb.toList) (n := n) (List.replicate 65 0) (by simpa using hn)
    simp only [List.getElem_map, List.getElem_range]
    refine readCounter_of_drop (rest := more) (h n _ (by simp [hn])) ?_
    rw [← List.drop_drop, formImage_drop_routes]
    exact hm
  rw [readCounters, hread]
  refine congrArg some (Vector.ext fun i hi => ?_)
  simp

/-- The routes of the image read back (R196). -/
theorem readRoutes_formImage (x : Settings) (cb : Vector Counter 8) :
    readRoutes (formImage x cb) = some x.routes := by
  have hcode : ∀ r : Route,
      codeValue [Route.none, .line, .host, .both] (BitVec.ofNat 8 (routeCode r)).toNat = some r := by
    intro r
    cases r <;> rfl
  have hread : ((List.range 15).mapM fun i =>
      codeValue [Route.none, .line, .host, .both] (imageNumber (formImage x cb) (24 + i) 1))
        = some x.routes.toList := by
    rw [mapM_eq_some_iff]
    refine List.ext_getElem (by simp) fun n h1 h2 => ?_
    have hn : n < 15 := by simpa using h1
    have hlt : n < (imageRoutes x).length := by rw [imageRoutes_length]; exact hn
    simp only [List.getElem_map, List.getElem_range]
    have hnum : imageNumber (formImage x cb) (24 + n) 1 = (imageRoutes x)[n].toNat := by
      rw [imageNumber_add, formImage_drop_front, ← imageNumber_byte (imageRoutes x)[n]
        ((imageRoutes x).drop (n + 1) ++ (imageCounters cb ++ List.replicate 65 0)), ← List.cons_append,
        ← List.drop_eq_getElem_cons hlt, ← List.drop_append_of_le_length hlt.le, ← imageNumber_add, Nat.add_zero]
    rw [hnum]
    simp only [imageRoutes, List.getElem_map]
    exact hcode _
  rw [readRoutes, hread]
  refine congrArg some (Vector.ext fun i hi => ?_)
  simp

/-- A rate reads back from its code (R1). -/
theorem codeValue_rateCode {r : Nat} (h : r ∈ rates) : codeValue rates (rateCode r) = some r ∧ rateCode r < 6 := by
  simp only [rates, List.mem_cons, List.not_mem_nil, or_false] at h
  rcases h with rfl | rfl | rfl | rfl | rfl | rfl <;> exact ⟨rfl, by decide⟩

/-- The energy set of the image reads back (R125). -/
theorem readEnergy_formImage {x : Settings} (cb : Vector Counter 8) (h : legalEnergy x.energy) :
    readEnergy (formImage x cb) = some x.energy := by
  have hall := h
  obtain ⟨h1, h2, h3, h4, h5, h6, h7, h8, h9, h10, h11, h12, h13⟩ := h
  have hspeed : x.energy.speed % 65536 = x.energy.speed := Nat.mod_eq_of_lt (by omega)
  have hdark : fromSigned 8 (toSigned 8 x.energy.dark % 256) = x.energy.dark :=
    fromSigned_toSigned (by omega) (by omega) (by omega)
  have hbasew : x.energy.basew % 65536 = x.energy.basew := Nat.mod_eq_of_lt (by omega)
  have hha : x.energy.ha % 256 = x.energy.ha := Nat.mod_eq_of_lt (by omega)
  have hhb : x.energy.hb % 256 = x.energy.hb := Nat.mod_eq_of_lt (by omega)
  have hsplit : x.energy.split % 65536 = x.energy.split := Nat.mod_eq_of_lt (by omega)
  unfold readEnergy
  simp only [formImage_eq, imageFront, List.append_assoc, imageNumber_skip, imageNumber_here, Nat.reduceLeDiff,
    Nat.reduceSub, Nat.reducePow, Nat.le_refl, Nat.sub_self, hspeed, hdark, hbasew, hha, hhb, hsplit]
  exact if_pos hall

/-- The settings of the image read back (R200). -/
theorem readSettings_formImage {x : Settings} (cb : Vector Counter 8) (h : legalSettings x) :
    readSettings (formImage x cb) = some x := by
  obtain ⟨hrate, henergy, h1, h2, h3, h4, h5, h6, h7, h8⟩ := h
  obtain ⟨hcode, hlt⟩ := codeValue_rateCode hrate
  have hrate' : rateCode x.rate % 256 = rateCode x.rate := Nat.mod_eq_of_lt (by omega)
  have hidle : x.idle % 65536 = x.idle := Nat.mod_eq_of_lt (by omega)
  have hpitch : x.pitch % 65536 = x.pitch := Nat.mod_eq_of_lt (by omega)
  have hpeel : x.peel % 256 = x.peel := Nat.mod_eq_of_lt (by omega)
  have hstart : x.start % 256 = x.start := Nat.mod_eq_of_lt (by omega)
  have happlyd : x.applyd % 65536 = x.applyd := Nat.mod_eq_of_lt (by omega)
  have hmedia : codeValue [MediaKind.gap, .mark, .cont] (mediaCode x.media % 256) = some x.media := by
    cases x.media <;> rfl
  have hmode : codeValue [LineMode.ahead, .trigger] (lineModeCode x.mode % 256) = some x.mode := by
    cases x.mode <;> rfl
  have henergy' := readEnergy_formImage cb henergy
  have hroutes := readRoutes_formImage x cb
  have hnum : imageNumber (formImage x cb) 4 1 = rateCode x.rate ∧ imageNumber (formImage x cb) 14 2 = x.idle
      ∧ imageNumber (formImage x cb) 16 1 = mediaCode x.media % 256 ∧ imageNumber (formImage x cb) 17 2 = x.pitch
      ∧ imageNumber (formImage x cb) 19 1 = x.peel ∧ imageNumber (formImage x cb) 20 1 = x.start
      ∧ imageNumber (formImage x cb) 21 1 = lineModeCode x.mode % 256
      ∧ imageNumber (formImage x cb) 22 2 = x.applyd := by
    simp only [formImage_eq, imageFront, List.append_assoc, imageNumber_skip, imageNumber_here, Nat.reduceLeDiff,
      Nat.reduceSub, Nat.reducePow, Nat.le_refl, Nat.sub_self, hrate', hidle, hpitch, hpeel, hstart, happlyd, and_self]
  obtain ⟨n1, n2, n3, n4, n5, n6, n7, n8⟩ := hnum
  unfold readSettings
  simp only [n1, n2, n3, n4, n5, n6, n7, n8, hcode, henergy', hmedia, hmode, hroutes]
  exact if_pos ⟨h1, h2, h3, h4, h5, h6, h7⟩

/-- Settles O60: the magic, the sum, the zeros, and the values read back. -/
theorem storedImageReadsBack : Obligations.StoredImageReadsBack := by
  unfold Obligations.StoredImageReadsBack
  intro x cb hx hcb
  refine ⟨?_, ?_⟩
  · rw [formImage_eq]
    simp only [List.length_append, imageFront_length, imageRoutes_length, imageCounters_length, List.length_replicate]
  · have hmagic : imageNumber (formImage x cb) 0 2 = 0x4C31 := by
      simp only [formImage, List.append_assoc, imageNumber_here]
      rfl
    have hsum : imageNumber (formImage x cb) 2 2 = imageSum ((formImage x cb).drop 4) := by
      have hbody : (formImage x cb).drop 4 = imageBody x cb := List.drop_left' (by simp)
      rw [hbody]
      simp only [formImage, List.append_assoc, imageNumber_skip, imageNumber_here, Nat.le_refl, Nat.sub_self]
      exact Nat.mod_eq_of_lt (Nat.mod_lt _ (by decide))
    have hzeros : ((formImage x cb).drop 191).all (· == 0) = true := by
      rw [formImage_drop_counters]
      rfl
    rw [judgeImage, if_pos ⟨hmagic, hsum, hzeros⟩, readSettings_formImage cb hx, readCounters_formImage hcb]

end Sys2Proof.Machine
end

section
/-! Line boundaries and the feed-out (9.4). -/

namespace Sys2Proof.Machine

/-! ## The boundary's cases (R159) -/

/-- The band read for a line is the copy's, of the line's index, and one of the ring. -/
theorem bandForLine_some {s : State} {id : CopyId} {y b : Nat} (h : bandForLine s id y = some b) :
    b < 16 ∧ (bandOf s b).owner = some id ∧ (bandOf s b).index = some (y / 64) := by
  unfold bandForLine at h
  have hmem := List.mem_of_find?_eq_some h
  have hp := List.find?_some h
  simp only [Bool.and_eq_true, beq_iff_eq] at hp
  exact ⟨List.mem_range.1 hmem, hp.1.1, hp.1.2⟩

/-- A band replaced reads as replaced. -/
theorem bandOf_setBand_self {b : Nat} (hb : b < 16) (band : Band) (s : State) : bandOf (setBand b band s) b = band := by
  simp only [bandOf, setBand_br, Vector.getElem?_setIfInBounds_self_of_lt hb, Option.getD_some]

/-- The boundary of a label that is not stopped and has lines left, with no reason present (R159). -/
theorem decideBoundary_of_band {s : State} {l : LabelContext} {id : CopyId} {b : Nat} (hl : s.pe.label = some l)
    (hs : labelStopped s l = false) (hy : l.y ≠ l.lines) (hp : s.pe.pause.isEmpty = true) (hid : l.copy = some id)
    (hb : bandForLine s id l.y = some b) : decideBoundary s =
      if l.y = 0 ∧ s.hi.power ≠ .on then { s with pe := { s.pe with engine := .printing } } else beginLine l b s := by
  simp only [decideBoundary, hl, hs, Bool.false_eq_true, if_false, if_neg hy, hp, Bool.not_true, hid,
    Option.bind_some, hb]

/-- The target of a feed-out (R162). -/
theorem feedTarget_eq (s : State) (l : LabelContext) : feedTarget s l =
    if s.pe.calibrated = true ∧ s.pe.stock ≠ .cont then s.pe.tops.head?.map (· + (l.peel : Int))
    else some (l.top + l.pitch + l.peel) := by
  unfold feedTarget
  cases s.pe.calibrated <;> cases s.pe.stock <;> rfl

/-- A known target is reached where the media stands at it or beyond. -/
theorem reached_iff (s : State) (target : Option Int) :
    reached s target = true ↔ ∃ n, target = some n ∧ n ≤ s.pe.position := by
  cases target <;> simp [reached]

/-- A label that awaits no verdict is presented (R163). -/
theorem completeFeedOut_of_handed {s : State} {l : LabelContext} (h : s.hi.verdictDue = false ∨ s.hi.verdict ≠ none) :
    completeFeedOut l s = present l s := by
  refine if_neg fun hv => ?_
  simp only [verdictAwaited, Bool.and_eq_true, Option.isNone_iff_eq_none] at hv
  obtain ⟨h1, h2⟩ := hv
  rcases h with h | h
  · simp [h] at h1
  · exact h h2

/-- Settles O45: the table's cases, and the feed-out to its target. -/
theorem boundaryTable : Obligations.BoundaryTable := by
  unfold Obligations.BoundaryTable
  refine ⟨fun s l hl => ⟨fun h1 h2 => ?_, fun h1 h2 => ?_, fun h1 h2 => ?_, fun h1 h2 h3 => ?_,
    fun id b h1 h2 h3 h4 h5 => ⟨fun h6 h7 => ?_, fun h6 => ?_⟩⟩, fun s l => ?_⟩
  · simp only [decideBoundary, hl, h1, if_true, h2]
  · have hhalt : decideBoundary s = halt s := by
      simp only [decideBoundary, hl, h1, if_true, h2, Bool.false_eq_true, if_false]
    exact hhalt
  · simp only [decideBoundary, hl, h1, Bool.false_eq_true, if_false, if_pos h2]
  · have hhalt : decideBoundary s = halt s := by
      simp only [decideBoundary, hl, h1, Bool.false_eq_true, if_false, if_neg h2]
      split
      · rfl
      · rename_i hp
        rcases h3 with h3 | h3
        · simp [h3] at hp
        · simp only [h3]
    exact hhalt
  · rw [decideBoundary_of_band hl h1 h2 h3 h4 h5, if_pos ⟨h6, h7⟩]
  · obtain ⟨hlt, howner, hindex⟩ := bandForLine_some h5
    intro stu p1 p2 tline
    refine ⟨_, newLineStrobe ((bandOf s b).lines.getD (l.y % 64) 0) p1 p2 stu.width stu.active.split tline,
      (decideBoundary_of_band hl h1 h2 h3 h4 h5).trans (if_neg fun hx => ?_), rfl, rfl, rfl, rfl, rfl, rfl, rfl, rfl,
      ?_, howner, hindex⟩
    · exact h6.elim (fun h => h hx.1) fun h => hx.2 h
    · exact congrArg Band.state (bandOf_setBand_self hlt { bandOf s b with state := .printing } s)
  · intro l' target t
    have htarget : feedTarget t l' = target := feedTarget_eq t l'
    have hstart : startFeedOut l s = if reached t target then completeFeedOut l' t else t := by
      rw [← htarget]
      exact startFeedOut_eq l s
    refine ⟨fun h => ?_, fun n hn hle h1 h2 => ?_, fun n hn hle h => ?_⟩
    · rw [hstart, if_neg]
      rw [reached_iff]
      rintro ⟨n, hn, hle⟩
      exact absurd (h n hn) (Int.not_lt.2 hle)
    · rw [hstart, if_pos ((reached_iff t target).2 ⟨n, hn, hle⟩)]
      exact if_pos (by simp [verdictAwaited, t, h1, h2])
    · rw [hstart, if_pos ((reached_iff t target).2 ⟨n, hn, hle⟩), completeFeedOut_of_handed (s := t) h]
      exact ⟨rfl, rfl, _, rfl⟩

end Sys2Proof.Machine
end

section
/-! The notices owed, and STAT and CLR (Chapter 11). -/

namespace Sys2Proof.Machine

/-! ## Reports offered (R15, R198) -/

/-- A report stands in the queue or on the waiting list. -/
def Offered (r : Report) (s : State) : Prop := r ∈ s.jl.reports ∨ r ∈ s.jl.waiting

/-- A report offered is there, and one that was there stays. -/
theorem offered_offerReport {x r : Report} {s : State} (h : x = r ∨ Offered x s) : Offered x (offerReport r s) := by
  unfold Offered at h ⊢
  rcases offerReport_cases r s with ⟨-, -, he⟩ | ⟨-, he⟩
  · rw [he, enterReport_reports, enterReport_waiting, List.mem_append, List.mem_singleton]
    tauto
  · rw [he]
    simp only [List.mem_append, List.mem_singleton]
    tauto

/-- A notice offered adds at most itself to the waiting list. -/
theorem waiting_offerReport_flt (j k : FaultKind) (b : Bool) (s : State) (h : k ≠ j) :
    (offerReport (.flt j b) s).jl.waiting.any (isNoticeOf k) = s.jl.waiting.any (isNoticeOf k) := by
  rcases offerReport_cases (.flt j b) s with ⟨-, -, he⟩ | ⟨-, he⟩
  · rw [he, enterReport_waiting]
  · simp [he, isNoticeOf, Ne.symm h]

/-- Every kind of fault is in kind order. -/
theorem FaultKind.mem_all (k : FaultKind) : k ∈ FaultKind.all := by cases k <;> decide

/-- What a kind owes depends on the routes, its record, and the notices of the kind that wait (R198). -/
theorem noticeOwed_congr {s t : State} {k : FaultKind} (hss : t.ss = s.ss) (hf : faultOf t k = faultOf s k)
    (hw : t.jl.waiting.any (isNoticeOf k) = s.jl.waiting.any (isNoticeOf k)) : noticeOwed t k = noticeOwed s k := by
  simp only [noticeOwed, routeOf, hss, hf, hw]

/-- A kind whose reported state is its latched flag owes no notice. -/
theorem noticeOwed_of_reported {s : State} {k : FaultKind} (h : (faultOf s k).latched = (faultOf s k).reported) :
    noticeOwed s k = false := by
  simp [noticeOwed, h]

/-- The notice of one kind leaves what another owes. -/
theorem noticeOwed_offerNotice_of_ne {j k : FaultKind} (h : k ≠ j) (s : State) :
    noticeOwed (offerNotice j s) k = noticeOwed s k ∧ faultOf (offerNotice j s) k = faultOf s k := by
  unfold offerNotice
  split
  · generalize hu : setFault j { faultOf s j with reported := (faultOf s j).latched } s = u
    have hfault : faultOf u k = faultOf s k := by rw [← hu, faultOf_setFault, if_neg h]
    have hjl : u.jl = s.jl := by rw [← hu]; rfl
    have hss : u.ss = s.ss := by rw [← hu]; rfl
    have hwait := waiting_offerReport_flt j k (faultOf s j).latched u h
    obtain ⟨jl, hr⟩ := offerReport_flt j (faultOf s j).latched u
    rw [hr] at hwait ⊢
    exact ⟨noticeOwed_congr hss hfault (hwait.trans (by rw [hjl])), hfault⟩
  · exact ⟨rfl, rfl⟩

/-- A kind whose notice has been offered owes none. -/
theorem noticeOwed_offerNotice_self (k : FaultKind) (s : State) : noticeOwed (offerNotice k s) k = false := by
  unfold offerNotice
  split
  · obtain ⟨jl, hr⟩ := offerReport_flt k (faultOf s k).latched
      (setFault k { faultOf s k with reported := (faultOf s k).latched } s)
    have hf := faultOf_setFault k k { faultOf s k with reported := (faultOf s k).latched } s
    rw [if_pos rfl] at hf
    rw [hr]
    have hf' : faultOf { setFault k { faultOf s k with reported := (faultOf s k).latched } s with jl := jl } k
        = { faultOf s k with reported := (faultOf s k).latched } := hf
    exact noticeOwed_of_reported (by rw [hf'])
  · exact Bool.eq_false_iff.2 ‹_›

/-- After the notices of an event no notice is owed (R198). -/
theorem noticeOwed_offerNotices (s : State) (k : FaultKind) : noticeOwed (offerNotices s) k = false := by
  have : ∀ (l : List FaultKind) (s : State), k ∈ l ∨ noticeOwed s k = false →
      noticeOwed (l.foldl (fun s k => offerNotice k s) s) k = false := by
    intro l
    induction l with
    | nil => exact fun s h => h.elim (absurd · List.not_mem_nil) fun h => h
    | cons j l ih =>
      intro s h
      refine ih _ ?_
      by_cases hk : k = j
      · subst hk
        exact .inr (noticeOwed_offerNotice_self k s)
      · rcases h with h | h
        · exact .inl ((List.mem_cons.1 h).resolve_left hk)
        · exact .inr (((noticeOwed_offerNotice_of_ne hk s).1).trans h)
  exact this _ s (.inl k.mem_all)

/-- A notice offered leaves the reports that were there. -/
theorem offered_offerNotice {r : Report} {s : State} (k : FaultKind) (h : Offered r s) :
    Offered r (offerNotice k s) := by
  unfold offerNotice
  split
  · exact offered_offerReport (.inr h)
  · exact h

/-- The notice of a kind that owes one is offered in the event (R198). -/
theorem offered_offerNotices {s : State} {k : FaultKind} (h : noticeOwed s k = true) :
    Offered (.flt k (faultOf s k).latched) (offerNotices s) := by
  have : ∀ (l : List FaultKind) (b : Bool) (s : State),
      (k ∈ l ∧ noticeOwed s k = true ∧ (faultOf s k).latched = b) ∨ Offered (.flt k b) s →
      Offered (.flt k b) (l.foldl (fun s k => offerNotice k s) s) := by
    intro l b
    induction l with
    | nil => exact fun s h => h.elim (fun h => absurd h.1 List.not_mem_nil) fun h => h
    | cons j l ih =>
      intro s h
      refine ih _ ?_
      rcases h with ⟨hm, ho, hb⟩ | h
      · by_cases hk : k = j
        · subst hk
          refine .inr ?_
          show Offered _ (offerNotice k s)
          rw [offerNotice, if_pos ho, hb]
          exact offered_offerReport (.inl rfl)
        · obtain ⟨h1, h2⟩ := noticeOwed_offerNotice_of_ne hk s
          exact .inl ⟨(List.mem_cons.1 hm).resolve_left hk, h1.trans ho, by rw [h2, hb]⟩
      · exact .inr (offered_offerNotice j h)
  exact this _ _ s (.inl ⟨k.mem_all, h, rfl⟩)

/-! ## STAT (R193, R194) -/

/-- The flags that STAT leaves (R193 step 2). -/
theorem clearByStat_spec (s : State) : ∃ fm, clearByStat s = { s with fm := fm }
    ∧ ∀ k : FaultKind, fm[k.index] =
      if clearedByStat s k then { faultOf s k with active := false, latched := false } else faultOf s k := by
  have : ∀ (l : List FaultKind) (s : State),
      ∃ fm, l.foldl (fun s k => if clearedByStat s k then clearFlags k s else s) s = { s with fm := fm }
        ∧ ∀ k : FaultKind, fm[k.index] = if k ∈ l ∧ clearedByStat s k = true
          then { faultOf s k with active := false, latched := false } else faultOf s k := by
    intro l
    induction l with
    | nil => exact fun s => ⟨s.fm, rfl, fun k => (if_neg fun h => List.not_mem_nil h.1).symm⟩
    | cons j l ih =>
      intro s
      obtain ⟨fm, h1, h2⟩ := ih (if clearedByStat s j then clearFlags j s else s)
      by_cases hj : clearedByStat s j = true
      · simp only [if_pos hj] at h1 h2
        refine ⟨fm, by rw [List.foldl_cons, if_pos hj, h1]; rfl, fun k => ?_⟩
        rw [h2 k]
        have hk := faultOf_setFault j k { faultOf s j with active := false, latched := false } s
        by_cases he : k = j
        · subst he
          rw [if_pos rfl] at hk
          have hc : clearedByStat (clearFlags k s) k = false := by
            have hk' : faultOf (clearFlags k s) k = { faultOf s k with active := false, latched := false } := hk
            simp [clearedByStat, hk']
          rw [if_neg (by simp [hc]), if_pos ⟨List.mem_cons_self, hj⟩]
          exact hk
        · rw [if_neg he] at hk
          have hk' : faultOf (clearFlags j s) k = faultOf s k := hk
          have hc : clearedByStat (clearFlags j s) k = clearedByStat s k := by simp only [clearedByStat, hk']
          simp only [hk', hc, List.mem_cons, he, false_or]
      · simp only [if_neg hj] at h1 h2
        refine ⟨fm, by rw [List.foldl_cons, if_neg hj, h1], fun k => ?_⟩
        rw [h2 k]
        by_cases he : k = j
        · subst he
          simp [hj]
        · simp only [List.mem_cons, he, false_or]
  obtain ⟨fm, h1, h2⟩ := this FaultKind.all s
  exact ⟨fm, h1, fun k => by simpa [k.mem_all] using h2 k⟩

/-- What STAT clears (R193 step 2). -/
theorem clearedByStat_iff (s : State) (k : FaultKind) : clearedByStat s k = true ↔
    (faultOf s k).latched = true ∧ (k.group = .event ∨ k.group = .condition ∧ (faultOf s k).active = false) := by
  simp [clearedByStat]

/-! ## CLR (R166, R195) -/

/-- A record with both flags clear. -/
def FaultRecord.cleared (r : FaultRecord) : FaultRecord := { r with active := false, latched := false }

/-- CLR's part of MEDIA-OUT: the sensor read, and the kind cleared at the label level (R166). -/
theorem readSensorForMediaOut_spec (level : SensorLevel) (s : State) :
    let media := (faultOf s .mediaOut).active && level != s.pe.sense.gapLevel
    ∃ fm, readSensorForMediaOut level s = { s with
        fm := fm
        pe := { s.pe with
          sensor := if (faultOf s .mediaOut).active then level else s.pe.sensor
          pause := { s.pe.pause with media := !media && s.pe.pause.media } } }
      ∧ ∀ k : FaultKind,
        fm[k.index] = if k = .mediaOut ∧ media = true then (faultOf s k).cleared else faultOf s k := by
  intro media
  unfold readSensorForMediaOut
  cases ha : (faultOf s .mediaOut).active with
  | false =>
    have hm : media = false := by simp [media, ha]
    refine ⟨s.fm, ?_, fun k => by simp [hm, faultOf]⟩
    simp [hm]
  | true =>
    by_cases hl : level = s.pe.sense.gapLevel
    · have hm : media = false := by simp [media, hl]
      refine ⟨s.fm, ?_, fun k => by simp [hm, faultOf]⟩
      simp [hm, hl]
    · have hm : media = true := by simp [media, ha, hl]
      refine ⟨(setFault .mediaOut (faultOf s .mediaOut).cleared s).fm, ?_, fun k => ?_⟩
      · simp only [if_true, ne_eq, hl, not_false_eq_true, hm, Bool.not_true, Bool.false_and]
        rfl
      · refine (faultOf_setFault .mediaOut k (faultOf s .mediaOut).cleared s).trans ?_
        by_cases hk : k = .mediaOut
        · subst hk
          simp [hm]
        · simp [hk]

/-- CLR's part of HEAD-FAULT (R142, R195). -/
theorem clearHeadFault_spec (s : State) :
    let head := (faultOf s .headFault).latched
    ∃ fm, clearHeadFault s = { s with
        fm := fm
        hi := { s.hi with defectCount := if head then 0 else s.hi.defectCount }
        pe := { s.pe with pause := { s.pe.pause with headFault := !head && s.pe.pause.headFault } } }
      ∧ ∀ k : FaultKind,
        fm[k.index] = if k = .headFault ∧ head = true then (faultOf s k).cleared else faultOf s k := by
  intro head
  unfold clearHeadFault
  cases hh : (faultOf s .headFault).latched with
  | false =>
    have hm : head = false := hh
    refine ⟨s.fm, ?_, fun k => by simp [hm, faultOf]⟩
    simp [hm]
  | true =>
    have hm : head = true := hh
    refine ⟨(setFault .headFault (faultOf s .headFault).cleared s).fm, ?_, fun k => ?_⟩
    · simp only [if_true, hm, Bool.not_true, Bool.false_and]
      rfl
    · refine (faultOf_setFault .headFault k (faultOf s .headFault).cleared s).trans ?_
      by_cases hk : k = .headFault
      · subst hk
        simp [hm]
      · simp [hk]

/-! ## The notices after an event (R197, R198) -/

/-- What the notices of an event leave: none owed, each that was owed offered, and the output LINE-FAULT with the flags
(R197, R198). -/
theorem offerNotices_notified {s u t : State} (hstart : s.ss.start = .running) (hss : u.ss = s.ss) (hlp : u.lp = s.lp)
    (hrep : ∀ k, (faultOf u k).reported = (faultOf s k).reported) (hwait : u.jl.waiting = [])
    (hu : offerNotices u = t) :
    (∀ k, noticeOwed t k = false)
    ∧ (∀ k : FaultKind, (routeOf s k).toHost = true → (faultOf t k).latched ≠ (faultOf s k).reported →
      Report.flt k (faultOf t k).latched ∈ t.jl.reports ∨ Report.flt k (faultOf t k).latched ∈ t.jl.waiting)
    ∧ (lineFaultOutput t = true ↔ s.lp.on = true
      ∧ ∃ k : FaultKind, (faultOf t k).active = true ∧ (routeOf s k = .line ∨ routeOf s k = .both)) := by
  have hnone := noticeOwed_offerNotices u
  obtain ⟨jl, fm, ht, hflags⟩ := offerNotices_noticed u
  have hroute : ∀ x : State, x.ss = s.ss → ∀ k, routeOf x k = routeOf s k := by
    intro x hx k
    simp only [routeOf, hx]
  have htss : t.ss = s.ss := by simp [← hu, hss]
  have htlp : t.lp = s.lp := by simp [← hu, hlp]
  rw [hu] at hnone hflags
  refine ⟨hnone, fun k hk hne => ?_, ?_⟩
  · have hl : (faultOf t k).latched = (faultOf u k).latched := (hflags k).2
    have howed : noticeOwed u k = true := by
      simp [noticeOwed, hss, hstart, hroute u hss k, hk, hrep, hwait, ← hl, hne]
    have hoff := offered_offerNotices howed
    rw [← hl, hu] at hoff
    exact hoff
  · simp only [lineFaultOutput, htlp, Bool.and_eq_true, List.any_eq_true]
    refine and_congr_right fun _ => ⟨fun ⟨k, _, h1, h2⟩ => ⟨k, h2, ?_⟩, fun ⟨k, h1, h2⟩ => ⟨k, k.mem_all, ?_, h1⟩⟩
    · rw [hroute t htss k] at h1
      cases hr : routeOf s k <;> simp_all [Route.toLine]
    · rw [hroute t htss k]
      rcases h2 with h2 | h2 <;> rw [h2] <;> rfl

/-- The status that STAT reports (R194). -/
theorem stsValues_removeRecord (s : State) : stsValues (removeRecord s) =
    { engine := s.pe.engine, pause := s.pe.pause, jobs := s.jq.jobs.length, readyBands := readyBands s,
      presented := s.pe.presented, reading := s.stu.reading, speed := effectiveSpeed s, pitch := s.pe.pitch,
      calibrated := (removeRecord s).pe.calibrated, portOn := s.lp.on, parcels := s.lp.parcels.length,
      faults := (FaultKind.all.filter fun k => (faultOf s k).latched).map fun k => (k, (faultOf s k).active) } := by
  obtain ⟨h1, -, -, -, h2, h3, -, -, h4, -⟩ := takeGeometry_pe s
  simp only [stsValues, removeRecord_pe, h1, h2, h3, h4]
  rfl

/-- Settles O56: the reply, the flags that STAT and CLR leave, and the notices after them. -/
theorem statAndClrClearFaults : Obligations.StatAndClrClearFaults := by
  unfold Obligations.StatAndClrClearFaults
  intro notified
  refine ⟨fun s h => ?_, fun s level h h1 h2 => ?_⟩
  · obtain ⟨-, -, hwait, -, hstart⟩ := takes_ready h
    have hx : exec .stat s = .next (takeStat () (removeRecord s)) := by
      show execStat s = _
      rw [execStat, onRecord_of_takes h]
    generalize hv : stsValues (removeRecord s) = v at hx
    obtain ⟨jl1, hq⟩ : ∃ jl, reply (.sts v) (removeRecord s) = { removeRecord s with jl := jl } := by
      rw [reply, enterReport, onEnter_sts, beginCharacter_eq]
      exact ⟨_, rfl⟩
    have hreports : jl1.reports = s.jl.reports ++ [.sts v] := by
      have : (reply (.sts v) (removeRecord s)).jl.reports = s.jl.reports ++ [.sts v] := by simp [reply]
      rwa [hq] at this
    have hwait1 : jl1.waiting = [] := by
      have : (reply (.sts v) (removeRecord s)).jl.waiting = [] := by simp [reply, hwait]
      rwa [hq] at this
    obtain ⟨fm1, hc, hfm1⟩ := clearByStat_spec { removeRecord s with jl := jl1 }
    have hcl : ∀ k, clearedByStat { removeRecord s with jl := jl1 } k = clearedByStat s k := fun _ => rfl
    have hfl : ∀ k, faultOf { removeRecord s with jl := jl1 } k = faultOf s k := fun _ => rfl
    simp only [hcl, hfl] at hfm1
    obtain ⟨jl, fm, ht, hflags⟩ := offerNotices_noticed { removeRecord s with jl := jl1, fm := fm1 }
    have hrun : exec .stat s = .next { removeRecord s with jl := jl, fm := fm } := by
      rw [hx, takeStat, hv, hq, hc, ht]
    have hflags' : ∀ k : FaultKind,
        fm[k.index].active = fm1[k.index].active ∧ fm[k.index].latched = fm1[k.index].latched := by
      rw [ht] at hflags
      exact hflags
    refine ⟨fm, jl, hrun, ?_, ?_, fun k => ?_⟩
    · obtain ⟨more, hmore⟩ := (offerNotices_keeps { removeRecord s with jl := jl1, fm := fm1 }).1
      rw [ht] at hmore
      have hjl : jl.reports = s.jl.reports ++ [.sts v] ++ more := by
        rw [← hreports]
        exact hmore.symm
      rw [hjl, ← hv, stsValues_removeRecord]
      simp
    · refine offerNotices_notified (u := { removeRecord s with jl := jl1, fm := fm1 }) hstart rfl rfl (fun k => ?_)
        hwait1 ht
      refine (congrArg FaultRecord.reported (hfm1 k)).trans ?_
      split <;> rfl
    · obtain ⟨ha, hl⟩ := hflags' k
      rw [ha, hl, hfm1 k]
      by_cases hcs : clearedByStat s k = true
      · rw [if_pos hcs, if_pos ((clearedByStat_iff s k).1 hcs)]
        exact ⟨rfl, rfl⟩
      · rw [if_neg hcs, if_neg fun hcond => hcs ((clearedByStat_iff s k).2 hcond)]
        exact ⟨rfl, rfl⟩
  · obtain ⟨-, -, hwait, -, hstart⟩ := takes_ready h
    have hx : exec (.clr level) s = .next (takeClr level (removeRecord s)) := by
      show execClr level s = _
      rw [execClr, onRecord_of_takes h]
    intro media head
    have hpe : (removeRecord s).pe = s.pe := by simp [takeGeometry_of_busy h1]
    obtain ⟨fm1, hm, hfm1⟩ := readSensorForMediaOut_spec level (removeRecord s)
    generalize hq : readSensorForMediaOut level (removeRecord s) = q at hm
    obtain ⟨fm2, hh, hfm2⟩ := clearHeadFault_spec q
    generalize hu : clearHeadFault q = u at hh
    obtain ⟨jl, fm, ht, hflags⟩ := offerNotices_noticed u
    have hqf : ∀ k, faultOf q k = fm1[k.index] := by rw [hm]; exact fun _ => rfl
    have huf : ∀ k, faultOf u k = fm2[k.index] := by rw [hh]; exact fun _ => rfl
    have hrf : ∀ k, faultOf (removeRecord s) k = faultOf s k := fun _ => rfl
    simp only [hpe, hrf] at hfm1 hm
    have hhead : (faultOf q .headFault).latched = head := by
      rw [hqf, hfm1, if_neg (by simp)]
    have hu' : ∀ k, faultOf u k = if k = .mediaOut ∧ media = true ∨ k = .headFault ∧ head = true then
        (faultOf s k).cleared else faultOf s k := by
      intro k
      rw [huf, hfm2, hhead, hqf, hfm1]
      by_cases hk : k = .headFault
      · subst hk
        simp [media]
      · simp [hk, media]
    have hpause : u.pe.engine = s.pe.engine := by rw [hh, hm]
    have hrun : exec (.clr level) s = .next (offerNotices u) := by
      rw [hx, takeClr, hq, hu, resumeIfEmptied_of_moving] <;>
        · simp only [offerNotices_frame, hpause]
          assumption
    refine ⟨fm, jl, _, hrun, ?_, ?_, fun k => ?_⟩
    · rw [ht, hh, hhead, hm]
      simp [media]
    · have hfm : fm = (offerNotices u).fm := by rw [ht]
      rw [hfm]
      refine offerNotices_notified (u := u) hstart (by rw [hh, hm]; rfl) (by rw [hh, hm]; rfl) (fun k => ?_)
        (by rw [hh, hm]; simp [hwait]) rfl
      rw [hu']
      split <;> rfl
    · have hfm : (faultOf (offerNotices u) k) = fm[k.index] := by rw [ht]; rfl
      obtain ⟨ha, hl⟩ := hflags k
      rw [← hfm, ha, hl, hu']
      split <;> exact ⟨rfl, rfl⟩

end Sys2Proof.Machine
end

section
/-! The bar codes (Chapter 7). -/

namespace Sys2Proof.Machine

/-! ## The walk over a C128 text (R112, R113) -/

/-- The run of digits a text begins with is carried in set C (R112). -/
abbrev LongRun (t : Text) : Prop := 6 ≤ digitRun t ∨ 4 ≤ digitRun t ∧ digitRun t = t.length

/-- The symbols of a text from a position in a code set, one rule for each round of the walk (R112, R113). -/
inductive Walks : CodeSet → Text → List Nat → Prop
  | done (st : CodeSet) : Walks st [] []
  | char {carry : Nat} {ch : Byte} {rest : Text} {vs : List Nat} (h : isDigit ch = false)
      (hw : Walks (.b 0) rest vs) : Walks (.b carry) (ch :: rest) (setBValue ch :: vs)
  | carry {n : Nat} {ch : Byte} {rest : Text} {vs : List Nat} (h : isDigit ch = true)
      (hw : Walks (.b n) rest vs) : Walks (.b (n + 1)) (ch :: rest) (setBValue ch :: vs)
  | evenRun {ch : Byte} {rest : Text} {vs : List Nat} (h : isDigit ch = true) (hl : LongRun (ch :: rest))
      (he : digitRun (ch :: rest) % 2 = 0) (hw : Walks .c (ch :: rest) vs) : Walks (.b 0) (ch :: rest) (99 :: vs)
  | oddRun {ch : Byte} {rest : Text} {vs : List Nat} (h : isDigit ch = true) (hl : LongRun (ch :: rest))
      (ho : digitRun (ch :: rest) % 2 = 1) (hw : Walks .c rest vs) :
      Walks (.b 0) (ch :: rest) (setBValue ch :: 99 :: vs)
  | shortRun {ch : Byte} {rest : Text} {vs : List Nat} (h : isDigit ch = true) (hl : ¬LongRun (ch :: rest))
      (hw : Walks (.b (digitRun (ch :: rest) - 1)) rest vs) : Walks (.b 0) (ch :: rest) (setBValue ch :: vs)
  | pair {x y : Byte} {rest : Text} {vs : List Nat} (hx : isDigit x = true) (hy : isDigit y = true)
      (hw : Walks .c rest vs) : Walks .c (x :: y :: rest) ((10 * digitValue x + digitValue y) :: vs)
  | leave {ch : Byte} {rest : Text} {vs : List Nat} (h : ¬2 ≤ digitRun (ch :: rest))
      (hw : Walks (.b 1) (ch :: rest) vs) : Walks .c (ch :: rest) (100 :: vs)

/-- A text that begins with a digit begins with a run one longer than the rest does. -/
theorem digitRun_cons (ch : Byte) (rest : Text) :
    digitRun (ch :: rest) = if isDigit ch then digitRun rest + 1 else 0 := by
  unfold digitRun
  rw [List.takeWhile_cons]
  split <;> rfl

/-- The rounds that the walk takes at most from a position: two for each character, one fewer where the next round
takes a character. -/
def rounds : CodeSet → Text → Nat
  | _, [] => 0
  | .b carry, ch :: rest => if carry = 0 ∧ isDigit ch = true then 2 * rest.length + 2 else 2 * rest.length + 1
  | .c, ch :: rest => if 2 ≤ digitRun (ch :: rest) then 2 * rest.length + 1 else 2 * rest.length + 2

/-- No position takes more than two rounds for each character. -/
theorem rounds_le (st : CodeSet) (t : Text) : rounds st t ≤ 2 * t.length := by
  cases t with
  | nil => cases st <;> exact Nat.zero_le _
  | cons ch rest =>
    cases st <;>
      · simp only [rounds, List.length_cons]
        split <;> omega

/-- With enough rounds the walk follows its rules. -/
theorem walks_of_rounds {fuel : Nat} {st : CodeSet} {t : Text} (h : rounds st t ≤ fuel) :
    Walks st t (c128Walk fuel st t) := by
  induction fuel generalizing st t with
  | zero =>
    cases t with
    | nil => cases st <;> exact .done _
    | cons ch rest =>
      exfalso
      cases st <;>
        · simp only [rounds] at h
          split at h <;> omega
  | succ fuel ih =>
    have hlen : ∀ st (x : Text), 2 * x.length ≤ fuel → Walks st x (c128Walk fuel st x) := fun st x hx =>
      ih ((rounds_le st x).trans hx)
    cases t with
    | nil => cases st <;> exact .done _
    | cons ch rest =>
      cases st with
      | b carry =>
        simp only [rounds] at h
        rw [c128Walk]
        by_cases hd : isDigit ch = true
        · rw [if_neg (by simp [hd])]
          by_cases hc : carry = 0
          · subst hc
            rw [if_pos ⟨rfl, hd⟩] at h
            rw [if_neg (Nat.lt_irrefl 0)]
            dsimp only
            by_cases hl : LongRun (ch :: rest)
            · rw [if_pos hl]
              by_cases he : digitRun (ch :: rest) % 2 = 0
              · rw [if_pos he]
                refine .evenRun hd hl he (ih ?_)
                simp only [rounds]
                rw [if_pos (by omega)]
                omega
              · rw [if_neg he]
                exact .oddRun hd hl (by omega) (hlen _ _ (by omega))
            · rw [if_neg hl]
              exact .shortRun hd hl (hlen _ _ (by omega))
          · rw [if_neg (fun hx => hc hx.1)] at h
            obtain ⟨n, rfl⟩ := Nat.exists_eq_succ_of_ne_zero hc
            rw [if_pos (Nat.succ_pos n)]
            exact .carry hd (hlen _ _ (by omega))
        · rw [if_neg (fun hx => hd hx.2)] at h
          rw [if_pos (by simpa using hd)]
          exact .char (by simpa using hd) (hlen _ _ (by omega))
      | c =>
        have hleave : ¬2 ≤ digitRun (ch :: rest) → Walks (.b 1) (ch :: rest) (c128Walk fuel (.b 1) (ch :: rest)) := by
          intro hn
          refine ih ?_
          simp only [rounds, if_neg hn] at h ⊢
          rw [if_neg (by simp)]
          omega
        cases rest with
        | nil =>
          rw [c128Walk]
          have hn : ¬2 ≤ digitRun [ch] := by
            rw [digitRun_cons]
            simp [digitRun]
            split <;> omega
          exact .leave hn (hleave hn)
        | cons y rest =>
          rw [c128Walk]
          have hrun : 2 ≤ digitRun (ch :: y :: rest) ↔ isDigit ch = true ∧ isDigit y = true := by
            rw [digitRun_cons, digitRun_cons]
            cases isDigit ch <;> cases isDigit y <;> simp
          by_cases hd : isDigit ch = true ∧ isDigit y = true
          · rw [if_pos hd]
            refine .pair hd.1 hd.2 (hlen _ _ ?_)
            simp only [rounds, if_pos (hrun.2 hd), List.length_cons] at h
            omega
          · rw [if_neg hd]
            have hn : ¬2 ≤ digitRun (ch :: y :: rest) := fun hx => hd (hrun.1 hx)
            exact .leave hn (hleave hn)

/-- The rules leave the walk no choice. -/
theorem Walks.unique {st : CodeSet} {t : Text} {vs ws : List Nat} (h : Walks st t vs) (h' : Walks st t ws) :
    vs = ws := by
  induction h generalizing ws with
  | done st => cases h'; rfl
  | char h _ ih =>
    cases h' with
    | char _ hw => rw [ih hw]
    | carry h2 _ | evenRun h2 _ _ _ | oddRun h2 _ _ _ | shortRun h2 _ _ => simp [h] at h2
  | carry h _ ih =>
    cases h' with
    | char h2 _ => simp [h] at h2
    | carry _ hw => rw [ih hw]
  | evenRun h hl he _ ih =>
    cases h' with
    | char h2 _ => simp [h] at h2
    | evenRun _ _ _ hw => rw [ih hw]
    | oddRun _ _ ho _ => omega
    | shortRun _ hl2 _ => exact absurd hl hl2
  | oddRun h hl ho _ ih =>
    cases h' with
    | char h2 _ => simp [h] at h2
    | evenRun _ _ he _ => omega
    | oddRun _ _ _ hw => rw [ih hw]
    | shortRun _ hl2 _ => exact absurd hl hl2
  | shortRun h hl _ ih =>
    cases h' with
    | char h2 _ => simp [h] at h2
    | evenRun _ hl2 _ _ | oddRun _ hl2 _ _ => exact absurd hl2 hl
    | shortRun _ _ hw => rw [ih hw]
  | pair hx hy _ ih =>
    cases h' with
    | pair _ _ hw => rw [ih hw]
    | leave h2 _ =>
      rw [digitRun_cons, digitRun_cons, if_pos hx, if_pos hy] at h2
      omega
  | leave h _ ih =>
    cases h' with
    | pair hx hy _ =>
      rw [digitRun_cons, digitRun_cons, if_pos hx, if_pos hy] at h
      omega
    | leave _ hw => rw [ih hw]

/-- From every position the walk takes some symbols. -/
theorem exists_walks (st : CodeSet) (t : Text) : ∃ vs, Walks st t vs := ⟨_, walks_of_rounds (rounds_le st t)⟩

/-- The code set in which a text's symbols begin (R111). -/
def openingSet (t : Text) : CodeSet := if 4 ≤ digitRun t then .c else .b 0

/-- The symbols of a text are those of its walk (R111 to R113). -/
theorem c128Symbols_walks (t : Text) :
    Walks (openingSet t) t (c128Symbols t).2 ∧ (c128Symbols t).1 = if 4 ≤ digitRun t then 105 else 104 := by
  have hr : ∀ st, rounds st t ≤ 2 * t.length + 1 := fun st => (rounds_le st t).trans (by omega)
  unfold openingSet c128Symbols
  split
  · exact ⟨walks_of_rounds (hr _), rfl⟩
  · exact ⟨walks_of_rounds (hr _), rfl⟩

/-- The symbols of a text are whatever the rules give. -/
theorem c128Symbols_of_walks {t : Text} {vs : List Nat} (h : Walks (openingSet t) t vs) : (c128Symbols t).2 = vs :=
  (c128Symbols_walks t).1.unique h

/-! ## What the symbols spell (R110) -/

/-- A printable character's symbol of set B reads as it. -/
theorem setBValue_reads {ch : Byte} (h : isPrintable ch = true) :
    setBValue ch ≤ 94 ∧ BitVec.ofNat 8 (setBValue ch + 32) = ch := by
  simp only [isPrintable, Bool.and_eq_true, decide_eq_true_eq] at h
  refine ⟨by unfold setBValue; omega, BitVec.eq_of_toNat_eq ?_⟩
  rw [BitVec.toNat_ofNat, setBValue]
  omega

/-- A digit pair's symbol of set C reads as it. -/
theorem pairValue_reads {x y : Byte} (hx : isDigit x = true) (hy : isDigit y = true) :
    10 * digitValue x + digitValue y ≤ 99 ∧ BitVec.ofNat 8 (48 + (10 * digitValue x + digitValue y) / 10) = x
      ∧ BitVec.ofNat 8 (48 + (10 * digitValue x + digitValue y) % 10) = y := by
  simp only [isDigit, Bool.and_eq_true, decide_eq_true_eq] at hx hy
  unfold digitValue
  refine ⟨by omega, BitVec.eq_of_toNat_eq ?_, BitVec.eq_of_toNat_eq ?_⟩ <;>
    · rw [BitVec.toNat_ofNat]
      omega

/-- A code set is set C. -/
def CodeSet.isC : CodeSet → Bool
  | .b _ => false
  | .c => true

/-- A symbol of set B read. -/
theorem c128Reads_char {ch : Byte} (h : isPrintable ch = true) (vs : List Nat) :
    c128Reads false (setBValue ch :: vs) = (c128Reads false vs).map (ch :: ·) := by
  obtain ⟨h1, h2⟩ := setBValue_reads h
  rw [c128Reads, if_neg (by omega), if_pos h1, h2]

/-- The symbols of a walk spell its text, and none is over 100. -/
theorem Walks.reads {st : CodeSet} {t : Text} {vs : List Nat} (h : Walks st t vs) (hp : t.all isPrintable = true) :
    c128Reads st.isC vs = some t ∧ ∀ v ∈ vs, v ≤ 100 := by
  induction h with
  | done st => cases st <;> exact ⟨rfl, nofun⟩
  | char _ _ ih | carry _ _ ih | shortRun _ _ _ ih =>
    rw [List.all_cons, Bool.and_eq_true] at hp
    obtain ⟨h1, h2⟩ := ih hp.2
    have hle := (setBValue_reads hp.1).1
    refine ⟨?_, List.forall_mem_cons.2 ⟨by omega, h2⟩⟩
    show c128Reads false _ = _
    rw [c128Reads_char hp.1, show c128Reads false _ = some _ from h1]
    rfl
  | evenRun _ _ _ _ ih =>
    obtain ⟨h1, h2⟩ := ih hp
    refine ⟨?_, List.forall_mem_cons.2 ⟨by omega, h2⟩⟩
    show c128Reads false _ = _
    rw [c128Reads, if_pos rfl]
    exact h1
  | oddRun _ _ _ _ ih =>
    rw [List.all_cons, Bool.and_eq_true] at hp
    obtain ⟨h1, h2⟩ := ih hp.2
    have hle := (setBValue_reads hp.1).1
    refine ⟨?_, List.forall_mem_cons.2 ⟨by omega, List.forall_mem_cons.2 ⟨by omega, h2⟩⟩⟩
    show c128Reads false _ = _
    rw [c128Reads_char hp.1, c128Reads, if_pos rfl, show c128Reads true _ = some _ from h1]
    rfl
  | pair hx hy _ ih =>
    simp only [List.all_cons, Bool.and_eq_true] at hp
    obtain ⟨-, -, hp⟩ := hp
    obtain ⟨h1, h2⟩ := ih hp
    obtain ⟨hv, hx', hy'⟩ := pairValue_reads hx hy
    refine ⟨?_, List.forall_mem_cons.2 ⟨by omega, h2⟩⟩
    show c128Reads true _ = _
    rw [c128Reads, if_neg (by omega), if_pos hv, hx', hy', show c128Reads true _ = some _ from h1]
    rfl
  | leave _ _ ih =>
    obtain ⟨h1, h2⟩ := ih hp
    refine ⟨?_, List.forall_mem_cons.2 ⟨by omega, h2⟩⟩
    show c128Reads true _ = _
    rw [c128Reads, if_pos rfl]
    exact h1

/-! ## Runs of digits (R111 to R113) -/

/-- A run of digits before another character or the end. -/
theorem digitRun_append {run rest : Text} (h : run.all isDigit = true) (hr : ∀ ch ∈ rest.head?, isDigit ch = false) :
    digitRun (run ++ rest) = run.length := by
  unfold digitRun
  rw [List.takeWhile_append_of_pos (by simpa using h), List.length_append]
  have : rest.takeWhile isDigit = [] := by
    cases rest with
    | nil => rfl
    | cons ch rest => simp [hr ch rfl]
  rw [this]
  rfl

/-- An even run in set C. -/
theorem Walks.pairs {run rest : Text} {vs : List Nat} (hd : run.all isDigit = true) (he : run.length % 2 = 0)
    (hw : Walks .c rest vs) : Walks .c (run ++ rest) (digitPairs run ++ vs) := by
  induction run using digitPairs.induct with
  | case1 x y run ih =>
    simp only [List.all_cons, Bool.and_eq_true] at hd
    obtain ⟨hx, hy, hd⟩ := hd
    simp only [List.length_cons] at he
    exact .pair hx hy (ih hd (by omega))
  | case2 run hn =>
    match run with
    | [] => exact hw
    | [x] => simp at he
    | x :: y :: run => exact absurd rfl (hn x y run)

/-- Set C left before another character, or at the end (R113). -/
theorem Walks.leaveRun {rest : Text} (hr : ∀ ch ∈ rest.head?, isDigit ch = false) :
    ∃ more, Walks .c rest ((if rest = [] then [] else [100]) ++ more) ∧ (rest = [] → more = []) := by
  cases rest with
  | nil => exact ⟨[], .done _, fun _ => rfl⟩
  | cons ch rest =>
    have hd : isDigit ch = false := hr ch rfl
    obtain ⟨more, hm⟩ := exists_walks (.b 0) rest
    refine ⟨setBValue ch :: more, .leave ?_ (.char hd hm), nofun⟩
    rw [digitRun_cons]
    simp [hd]

/-- The digits of a run carried in set B (R112). -/
theorem Walks.carried {run rest : Text} {vs : List Nat} (hd : run.all isDigit = true) (hw : Walks (.b 0) rest vs) :
    Walks (.b run.length) (run ++ rest) (run.map setBValue ++ vs) := by
  induction run with
  | nil => exact hw
  | cons ch run ih =>
    rw [List.all_cons, Bool.and_eq_true] at hd
    exact .carry hd.1 (ih hd.2)

end Sys2Proof.Machine
end

section
/-! The symbols and widths of the bar codes (Chapter 7). -/

namespace Sys2Proof.Machine

/-! ## C128 runs (R111 to R113) -/

/-- A text begins with a number of digits at least. -/
theorem le_digitRun_iff (n : Nat) (t : Text) : n ≤ digitRun t ↔ n ≤ t.length ∧ (t.take n).all isDigit = true := by
  induction n generalizing t with
  | zero => simp
  | succ n ih =>
    cases t with
    | nil => simp [digitRun]
    | cons ch rest =>
      rw [digitRun_cons, List.take_succ_cons, List.all_cons, List.length_cons]
      cases isDigit ch with
      | false => simp
      | true => simpa using ih rest

/-- A text that begins with a run of four digits or more begins in set C, its run in pairs (R111, R113). -/
theorem c128Symbols_openingRun {run rest : Text} (hd : run.all isDigit = true)
    (hr : ∀ ch ∈ rest.head?, isDigit ch = false) (h4 : 4 ≤ run.length) :
    ∃ more, (c128Symbols (run ++ rest)).2 = digitPairs (run.take (2 * (run.length / 2)))
        ++ (if run.length % 2 = 1 then 100 :: (run.drop (2 * (run.length / 2))).map setBValue
          else if rest = [] then [] else [100]) ++ more
      ∧ (rest = [] → more = []) := by
  have hset : openingSet (run ++ rest) = .c := by rw [openingSet, digitRun_append hd hr, if_pos h4]
  have hsplit : run.take (2 * (run.length / 2)) ++ (run.drop (2 * (run.length / 2)) ++ rest) = run ++ rest := by
    rw [← List.append_assoc, List.take_append_drop]
  have htake : (run.take (2 * (run.length / 2))).all isDigit = true := by
    rw [List.all_eq_true] at hd ⊢
    exact fun x hx => hd x (List.mem_of_mem_take hx)
  have heven : (run.take (2 * (run.length / 2))).length % 2 = 0 := by rw [List.length_take]; omega
  have hwalk : ∀ vs, Walks .c (run.drop (2 * (run.length / 2)) ++ rest) vs →
      (c128Symbols (run ++ rest)).2 = digitPairs (run.take (2 * (run.length / 2))) ++ vs := by
    intro vs hw
    refine c128Symbols_of_walks ?_
    rw [hset, ← hsplit]
    exact Walks.pairs htake heven hw
  have hlen : (run.drop (2 * (run.length / 2))).length = run.length % 2 := by rw [List.length_drop]; omega
  rcases Nat.mod_two_eq_zero_or_one run.length with he | ho
  · have hnil : run.drop (2 * (run.length / 2)) = [] := List.length_eq_zero_iff.1 (hlen.trans he)
    obtain ⟨more, hm, hmore⟩ := Walks.leaveRun hr
    refine ⟨more, ?_, hmore⟩
    rw [hnil, List.nil_append] at hwalk
    rw [if_neg (by omega), hwalk _ hm, List.append_assoc]
  · obtain ⟨x, hx⟩ := List.length_eq_one_iff.1 (hlen.trans ho)
    have hxd : isDigit x = true := by
      rw [List.all_eq_true] at hd
      exact hd x (List.mem_of_mem_drop (hx ▸ List.mem_singleton_self x))
    have hone : ¬2 ≤ digitRun (x :: rest) := by
      have := digitRun_append (run := [x]) (rest := rest) (by simp [hxd]) hr
      rw [List.singleton_append] at this
      simp [this]
    obtain ⟨more, hm⟩ := exists_walks (.b 0) rest
    have hw := hwalk (100 :: setBValue x :: more) (hx ▸ .leave hone (.carry hxd hm))
    refine ⟨more, ?_, fun hr => ?_⟩
    · rw [if_pos ho, hw, hx]
      simp
    · subst hr
      exact hm.unique (.done _)

/-- A text ends with a character that is no digit, or is empty. -/
def EndsOpen (t : Text) : Prop := ∀ ch, t.getLast? = some ch → isDigit ch = false

theorem EndsOpen.tail {ch : Byte} {rest : Text} (h : EndsOpen (ch :: rest)) : EndsOpen rest := by
  intro x hx
  refine h x ?_
  cases rest with
  | nil => cases hx
  | cons y rest => rwa [List.getLast?_cons_cons]

theorem EndsOpen.ne_nil {ch : Byte} {rest : Text} (h : EndsOpen (ch :: rest)) (hd : isDigit ch = true) : rest ≠ [] := by
  rintro rfl
  have := h ch rfl
  simp [hd] at this

/-- What follows a text that ends with a character other than a digit is no part of its runs. -/
theorem EndsOpen.digitRun_append {t : Text} (h : EndsOpen t) (hne : t ≠ []) (w : Text) :
    digitRun (t ++ w) = digitRun t ∧ digitRun t < t.length := by
  induction t with
  | nil => exact absurd rfl hne
  | cons ch rest ih =>
    rw [List.cons_append, digitRun_cons, digitRun_cons, List.length_cons]
    cases hd : isDigit ch with
    | false => exact ⟨rfl, Nat.succ_pos _⟩
    | true =>
      obtain ⟨h1, h2⟩ := ih h.tail (h.ne_nil hd)
      simp only [if_true, h1]
      exact ⟨trivial, by omega⟩

theorem EndsOpen.longRun_append {t : Text} (h : EndsOpen t) (hne : t ≠ []) (w : Text) :
    LongRun (t ++ w) ↔ LongRun t := by
  obtain ⟨h1, h2⟩ := h.digitRun_append hne w
  rw [LongRun, LongRun, h1, List.length_append]
  omega

/-- After a character that is no digit the walk stands in set B with no digit to carry, whatever follows (R112). -/
theorem Walks.append {st : CodeSet} {t : Text} {vs : List Nat} (h : Walks st t vs) (ho : EndsOpen t)
    (hst : t = [] → st = .b 0) {w : Text} {ws : List Nat} (hw : Walks (.b 0) w ws) : Walks st (t ++ w) (vs ++ ws) := by
  induction h with
  | done st =>
    rw [hst rfl]
    exact hw
  | char hd _ ih => exact .char hd (ih ho.tail fun _ => rfl)
  | carry hd _ ih => exact .carry hd (ih ho.tail fun hn => absurd hn (ho.ne_nil hd))
  | evenRun hd hl he _ ih =>
    refine .evenRun hd ((ho.longRun_append nofun w).2 hl) ?_ (ih ho nofun)
    exact (congrArg (· % 2) (ho.digitRun_append nofun w).1).trans he
  | oddRun hd hl hodd _ ih =>
    refine .oddRun hd ((ho.longRun_append nofun w).2 hl) ?_ (ih ho.tail fun hn => absurd hn (ho.ne_nil hd))
    exact (congrArg (· % 2) (ho.digitRun_append nofun w).1).trans hodd
  | @shortRun ch rest vs hd hl _ ih =>
    have hrun : digitRun (ch :: (rest ++ w)) = digitRun (ch :: rest) := (ho.digitRun_append nofun w).1
    have hrest := ih ho.tail fun hn => absurd hn (ho.ne_nil hd)
    rw [← hrun] at hrest
    exact .shortRun hd (fun hx => hl ((ho.longRun_append nofun w).1 hx)) hrest
  | pair hx hy _ ih => exact .pair hx hy (ih ho.tail.tail fun hn => absurd hn (ho.tail.ne_nil hy))
  | @leave ch rest vs hn _ ih =>
    have hrun : digitRun (ch :: (rest ++ w)) = digitRun (ch :: rest) := (ho.digitRun_append nofun w).1
    exact .leave (rest := rest ++ w) (by rwa [hrun]) (ih ho nofun)

/-- A run of digits after a character of set B (R112, R113). -/
theorem walks_innerRun {run rest : Text} (hne : run ≠ []) (hd : run.all isDigit = true)
    (hr : ∀ ch ∈ rest.head?, isDigit ch = false) :
    ∃ more, Walks (.b 0) (run ++ rest)
        ((if 6 ≤ run.length ∨ 4 ≤ run.length ∧ rest = [] then
            (if run.length % 2 = 0 then 99 :: digitPairs run
              else (run.take 1).map setBValue ++ 99 :: digitPairs (run.drop 1))
            ++ (if rest = [] then [] else [100])
          else run.map setBValue) ++ more)
      ∧ (rest = [] → more = []) := by
  have hrun := digitRun_append hd hr
  obtain ⟨x, run, rfl⟩ := List.exists_cons_of_ne_nil hne
  have hlong : LongRun (x :: run ++ rest) ↔ 6 ≤ (x :: run).length ∨ 4 ≤ (x :: run).length ∧ rest = [] := by
    rw [LongRun, hrun, List.length_append, ← List.length_eq_zero_iff (l := rest)]
    omega
  have hds := hd
  rw [List.all_cons, Bool.and_eq_true] at hds
  obtain ⟨hx, hds⟩ := hds
  by_cases hl : LongRun (x :: run ++ rest)
  · obtain ⟨more, hm, hmore⟩ := Walks.leaveRun hr
    refine ⟨more, ?_, hmore⟩
    rw [if_pos (hlong.1 hl)]
    by_cases he : (x :: run).length % 2 = 0
    · rw [if_pos he, List.append_assoc, List.cons_append]
      exact .evenRun hx hl (hrun ▸ he) (Walks.pairs hd he hm)
    · rw [if_neg he, List.append_assoc]
      have hodd : run.length % 2 = 0 := by
        rw [List.length_cons] at he
        omega
      have ho : digitRun (x :: (run ++ rest)) % 2 = 1 := by
        rw [show digitRun (x :: (run ++ rest)) = (x :: run).length from hrun]
        omega
      exact .oddRun hx hl ho (Walks.pairs hds hodd hm)
  · obtain ⟨more, hm⟩ := exists_walks (.b 0) rest
    refine ⟨more, ?_, fun hn => ?_⟩
    · rw [if_neg (mt hlong.2 hl)]
      have hcarry : digitRun (x :: (run ++ rest)) - 1 = run.length := by
        rw [show digitRun (x :: (run ++ rest)) = (x :: run).length from hrun, List.length_cons, Nat.add_sub_cancel]
      have hw := Walks.carried hds hm
      rw [← hcarry] at hw
      exact .shortRun hx hl hw
    · subst hn
      exact hm.unique (.done _)

/-- A run of digits after another character (R112, R113). -/
theorem c128Symbols_innerRun {before : Text} {ch : Byte} {run rest : Text} (hc : isDigit ch = false)
    (hne : run ≠ []) (hd : run.all isDigit = true) (hr : ∀ x ∈ rest.head?, isDigit x = false) :
    ∃ more, (c128Symbols (before ++ [ch] ++ run ++ rest)).2 = (c128Symbols (before ++ [ch])).2
        ++ (if 6 ≤ run.length ∨ 4 ≤ run.length ∧ rest = [] then
            (if run.length % 2 = 0 then 99 :: digitPairs run
              else (run.take 1).map setBValue ++ 99 :: digitPairs (run.drop 1))
            ++ (if rest = [] then [] else [100])
          else run.map setBValue) ++ more
      ∧ (rest = [] → more = []) := by
  have ho : EndsOpen (before ++ [ch]) := by
    intro x hx
    rw [List.getLast?_append, List.getLast?_singleton, Option.some_or, Option.some.injEq] at hx
    rwa [← hx]
  have hnil : before ++ [ch] ≠ [] := by simp
  obtain ⟨more, hm, hmore⟩ := walks_innerRun hne hd hr
  refine ⟨more, ?_, hmore⟩
  have hset : openingSet (before ++ [ch] ++ (run ++ rest)) = openingSet (before ++ [ch]) := by
    rw [openingSet, openingSet, (ho.digitRun_append hnil _).1]
  rw [List.append_assoc (before ++ [ch]), List.append_assoc (c128Symbols _).2]
  refine c128Symbols_of_walks ?_
  rw [hset]
  exact (c128Symbols_walks _).1.append ho (fun h => absurd h hnil) hm

/-! ## Widths (R108, R114, R117) -/

/-- The symbol width is the sum of the nominal widths (R108). -/
theorem symbolWidth_elementsOf (r : Nat) (bar : Bool) (ws : List Nat) : symbolWidth (elementsOf r bar ws) = ws.sum := by
  induction ws generalizing bar with
  | nil => rfl
  | cons w ws ih =>
    have := ih (!bar)
    simp only [symbolWidth, elementsOf, List.map_cons, List.sum_cons] at this ⊢
    rw [this]

/-- A pattern's modules (R110): 11 for a value to 105, 13 for the stop. -/
theorem c128Patterns_sum : (∀ v < 106, (c128Patterns.getD v []).sum = 11) ∧ (c128Patterns.getD 106 []).sum = 13 := by
  decide

/-- Modules of a width each. -/
theorem sum_map_mul (m : Nat) (l : List Nat) : (l.map (m * ·)).sum = l.sum * m := by
  induction l with
  | nil => simp
  | cons x l ih =>
    rw [List.map_cons, List.sum_cons, List.sum_cons, ih]
    ring

/-- The weighted sum of R114, by the places of the symbols. -/
theorem weightedSum_eq (i : Nat) (vs : List Nat) :
    weightedSum i vs = ((vs.zipIdx i).map fun x => x.2 * x.1).sum := by
  induction vs generalizing i with
  | nil => rfl
  | cons v vs ih =>
    rw [weightedSum, ih, List.zipIdx_cons]
    rfl

/-- Symbols to 105 have 11 modules each. -/
theorem sum_c128Widths {vs : List Nat} (m : Nat) (h : ∀ v ∈ vs, v < 106) :
    (vs.flatMap fun v => (c128Patterns.getD v []).map (m * ·)).sum = 11 * vs.length * m := by
  induction vs with
  | nil => simp
  | cons v vs ih =>
    rw [List.forall_mem_cons] at h
    rw [List.flatMap_cons, List.sum_append, ih h.2, sum_map_mul, c128Patterns_sum.1 v h.1, List.length_cons]
    ring

/-- A fit text of C128 is printable (R109). -/
theorem printable_of_fit {t : Text} (h : fitText .c128 t = true) : t.all isPrintable = true := by
  simp only [fitText, Bool.and_eq_true] at h
  exact h.2

/-- A fit text of I25 holds digits (R109). -/
theorem digits_of_fit {t : Text} (h : fitText .i25 t = true) : t.all isDigit = true := by
  simp only [fitText, Bool.and_eq_true] at h
  exact h.2

/-- The symbols before the stop are values to 105 (R110). -/
theorem c128_values {t : Text} (h : fitText .c128 t = true) :
    ∀ v ∈ (c128Symbols t).1 :: (c128Symbols t).2 ++ [c128Check (c128Symbols t).1 (c128Symbols t).2], v < 106 := by
  obtain ⟨hw, hs⟩ := c128Symbols_walks t
  obtain ⟨-, hv⟩ := hw.reads (printable_of_fit h)
  simp only [List.cons_append, List.mem_cons, List.mem_append, List.not_mem_nil, or_false]
  rintro v (rfl | hm | rfl)
  · rw [hs]
    split <;> omega
  · have := hv v hm
    omega
  · have : c128Check (c128Symbols t).1 (c128Symbols t).2 < 103 := Nat.mod_lt _ (by omega)
    omega

/-- The width of a C128 symbol (R114). -/
theorem c128_width {t : Text} (m w r : Nat) (check : Bool) (h : fitText .c128 t = true) :
    symbolWidth (barElements .c128 m w r check t) = (11 * ((c128Symbols t).2.length + 2) + 13) * m
      ∧ ∀ v ∈ c128Sequence t, v ≤ 106 := by
  have hv := c128_values h
  have hseq : c128Sequence t = ((c128Symbols t).1 :: (c128Symbols t).2
      ++ [c128Check (c128Symbols t).1 (c128Symbols t).2]) ++ [106] := by
    simp [c128Sequence]
  refine ⟨?_, fun v hm => ?_⟩
  · show symbolWidth (elementsOf r true (c128Widths m t)) = _
    rw [symbolWidth_elementsOf, c128Widths, hseq, List.flatMap_append, List.sum_append, sum_c128Widths m hv]
    simp only [List.flatMap_cons, List.flatMap_nil, List.append_nil, sum_map_mul, c128Patterns_sum.2,
      List.length_append, List.length_cons, List.length_nil]
    ring
  · rw [hseq, List.mem_append, List.mem_singleton] at hm
    rcases hm with hm | rfl
    · exact (hv v hm).le.trans (by omega)
    · exact Nat.le_refl _

/-! ## I25 (R115 to R117) -/

/-- The width of some elements, wide or narrow. -/
def patternWidth (m w : Nat) (p : List Bool) : Nat := (p.map fun b => if b then w else m).sum

/-- A digit's pattern has five elements, two of them wide (R116). -/
theorem patternWidth_digit (m w : Nat) {d : Nat} (h : d ≤ 9) :
    (i25Patterns.getD d []).length = 5 ∧ patternWidth m w (i25Patterns.getD d []) = 3 * m + 2 * w := by
  have hcount : ∀ p : List Bool, patternWidth m w p = p.countP (· == false) * m + p.countP (· == true) * w := by
    intro p
    induction p with
    | nil => simp [patternWidth]
    | cons b p ih =>
      have hcons : patternWidth m w (b :: p) = (if b then w else m) + patternWidth m w p := rfl
      rw [hcons, ih]
      cases b <;> simp <;> ring
  have hdec : ∀ d < 10, (i25Patterns.getD d []).length = 5
      ∧ (i25Patterns.getD d []).countP (· == false) = 3 ∧ (i25Patterns.getD d []).countP (· == true) = 2 := by decide
  obtain ⟨h1, h2, h3⟩ := hdec d (by omega)
  exact ⟨h1, by rw [hcount, h2, h3]⟩

/-- Two patterns interleaved are as wide as both. -/
theorem sum_interleaved (m w : Nat) {p q : List Bool} (h : p.length = q.length) :
    ((p.zip q).flatMap fun x => [if x.1 then w else m, if x.2 then w else m]).sum
      = patternWidth m w p + patternWidth m w q := by
  induction p generalizing q with
  | nil =>
    cases q with
    | nil => rfl
    | cons b q => cases h
  | cons a p ih =>
    cases q with
    | nil => cases h
    | cons b q =>
      have hrest := ih (q := q) (by simpa using h)
      simp only [List.zip_cons_cons, List.flatMap_cons, List.sum_append, hrest, patternWidth, List.map_cons,
        List.sum_cons, List.sum_nil]
      omega

/-- The pairs of an even number of digits (R116). -/
theorem sum_i25Pairs (m w : Nat) {ds : List Nat} (he : ds.length % 2 = 0) (hd : ∀ d ∈ ds, d ≤ 9) :
    (i25Pairs m w ds).sum = ds.length / 2 * (6 * m + 4 * w) := by
  induction ds using i25Pairs.induct with
  | case1 a b ds ih =>
    simp only [List.forall_mem_cons] at hd
    obtain ⟨ha, hb, hd⟩ := hd
    simp only [List.length_cons] at he ⊢
    obtain ⟨ha5, haw⟩ := patternWidth_digit m w ha
    obtain ⟨hb5, hbw⟩ := patternWidth_digit m w hb
    rw [i25Pairs, List.sum_append, sum_interleaved m w (ha5.trans hb5.symm), haw, hbw, ih (by omega) hd,
      show (ds.length + 1 + 1) / 2 = ds.length / 2 + 1 by omega]
    ring
  | case2 ds hn =>
    match ds with
    | [] => simp [i25Pairs]
    | [x] => simp at he
    | x :: y :: ds => exact absurd rfl (hn x y ds)

/-- The check sum of R115, by the places of the digits from the right. -/
theorem i25Sum_eq (ds : List Nat) (n : Nat) :
    i25Sum (n % 2 == 0) ds = ((ds.zipIdx n).map fun x => if x.2 % 2 = 0 then 3 * x.1 else x.1).sum := by
  induction ds generalizing n with
  | nil => rfl
  | cons d ds ih =>
    have hnext : (!(n % 2 == 0)) = ((n + 1) % 2 == 0) := by
      rcases Nat.mod_two_eq_zero_or_one n with h | h
      · simp [h, Nat.add_mod]
      · simp [h, Nat.add_mod]
    rw [i25Sum, hnext, ih, List.zipIdx_cons, List.map_cons, List.sum_cons]
    simp

/-- The digits with any check digit and any leading 0 (R115, R116). -/
theorem i25Digits_eq (check : Bool) (t : Text) :
    let data := t.map digitValue
    let tail := if check then [i25CheckDigit data] else []
    i25Digits check t = (if (data ++ tail).length % 2 = 1 then [0] else []) ++ data ++ tail := by
  intro data tail
  have hds : (if check then data ++ [i25CheckDigit data] else data) = data ++ tail := by
    cases check <;> simp [tail]
  unfold i25Digits
  dsimp only
  rw [show t.map digitValue = data from rfl, hds]
  split <;> simp

/-- The check digit makes the weighted sum a multiple of 10 (R115). -/
theorem i25CheckDigit_spec (data : List Nat) : i25CheckDigit data ≤ 9
    ∧ ((data.reverse.zipIdx.map fun x => if x.2 % 2 = 0 then 3 * x.1 else x.1).sum + i25CheckDigit data) % 10 = 0 := by
  have hs := i25Sum_eq data.reverse 0
  have hs' : i25Sum true data.reverse
      = (data.reverse.zipIdx.map fun x => if x.2 % 2 = 0 then 3 * x.1 else x.1).sum := hs
  rw [i25CheckDigit, hs']
  generalize (data.reverse.zipIdx.map fun x => if x.2 % 2 = 0 then 3 * x.1 else x.1).sum = n
  omega

/-- The digits are even in number, and digits (R116). -/
theorem i25Digits_spec {check : Bool} {t : Text} (h : fitText .i25 t = true) :
    (i25Digits check t).length % 2 = 0 ∧ ∀ d ∈ i25Digits check t, d ≤ 9 := by
  have hdata : ∀ d ∈ t.map digitValue, d ≤ 9 := by
    intro d hd
    obtain ⟨b, hb, rfl⟩ := List.mem_map.1 hd
    have hdig := digits_of_fit h
    rw [List.all_eq_true] at hdig
    have := hdig b hb
    simp only [isDigit, Bool.and_eq_true, decide_eq_true_eq] at this
    unfold digitValue
    omega
  have htail : ∀ d ∈ (if check then [i25CheckDigit (t.map digitValue)] else []), d ≤ 9 := by
    have hc := (i25CheckDigit_spec (t.map digitValue)).1
    cases check with
    | false => exact nofun
    | true => simpa using hc
  rw [i25Digits_eq]
  generalize (if check then [i25CheckDigit (t.map digitValue)] else []) = tail at htail
  generalize t.map digitValue = data at hdata
  by_cases ho : (data ++ tail).length % 2 = 1
  · rw [if_pos ho, List.append_assoc]
    refine ⟨?_, fun d hd => ?_⟩
    · rw [List.length_append, List.length_singleton]
      omega
    · simp only [List.mem_append, List.mem_singleton] at hd
      rcases hd with rfl | hd | hd
      · exact Nat.zero_le 9
      · exact hdata d hd
      · exact htail d hd
  · rw [if_neg ho, List.nil_append]
    exact ⟨by omega, fun d hd => (List.mem_append.1 hd).elim (hdata d) (htail d)⟩

/-- The width of an I25 symbol (R117). -/
theorem i25_width {t : Text} (m w r : Nat) (check : Bool) (h : fitText .i25 t = true) :
    symbolWidth (barElements .i25 m w r check t)
      = 4 * m + (i25Digits check t).length / 2 * (6 * m + 4 * w) + w + 2 * m := by
  obtain ⟨he, hd⟩ := i25Digits_spec (check := check) h
  show symbolWidth (elementsOf r true (i25Widths m w (i25Digits check t))) = _
  rw [symbolWidth_elementsOf, i25Widths, List.sum_append, List.sum_append, sum_i25Pairs m w he hd]
  simp only [List.sum_cons, List.sum_nil]
  ring

/-- Settles O37: the C128 symbols by their walk, the I25 digits, and the widths of both. -/
theorem barCodeWidths : Obligations.BarCodeWidths := by
  unfold Obligations.BarCodeWidths
  refine ⟨fun m w r check t h => c128_width m w r check h, fun t h => ?_, fun m w r check t h => ?_,
    fun check t h => ?_⟩
  · obtain ⟨hw, hs⟩ := c128Symbols_walks t
    intro start vs
    have hstart : (start == 105) = (openingSet t).isC := by
      simp only [start, hs, openingSet]
      split <;> rfl
    have hfour := le_digitRun_iff 4 t
    refine ⟨?_, ?_, ?_, fun run rest ht hd hr h4 => ?_, fun before ch run rest ht hc hne hd hr => ?_⟩
    · rw [← weightedSum_eq]
      rfl
    · exact hs.trans (if_congr hfour rfl rfl)
    · rw [hstart]
      exact (hw.reads (printable_of_fit h)).1
    · subst ht
      exact c128Symbols_openingRun hd hr h4
    · subst ht
      exact c128Symbols_innerRun hc hne hd hr
  · obtain ⟨he, hd⟩ := i25Digits_spec (check := check) h
    exact ⟨he, hd, i25_width m w r check h⟩
  · intro data
    obtain ⟨hc, hsum⟩ := i25CheckDigit_spec data
    refine ⟨if check then [i25CheckDigit data] else [], fun hf => by rw [hf]; rfl, fun hck => ?_, i25Digits_eq check t⟩
    exact ⟨i25CheckDigit data, by rw [hck]; rfl, hc, hsum⟩

end Sys2Proof.Machine
end

section
/-! The pause reasons (9.7) and the port turned ON and OFF (10.1). -/

namespace Sys2Proof.Machine

/-! ## A reason that leaves (R167, R168) -/

/-- The last reason that leaves resumes the part. -/
theorem resumeIfEmptied_of_emptied {before s : State} (h1 : before.pe.pause.isEmpty = false)
    (h2 : s.pe.pause.isEmpty = true) : resumeIfEmptied before s = resume s := by
  simp [resumeIfEmptied, pauseEmptied, h1, h2]

/-- A HALTED label of phase PRINT resumes with its boundary decided (R168). -/
theorem resume_of_print {s : State} {l : LabelContext} (he : s.pe.engine = .halted) (hl : s.pe.label = some l)
    (hp : l.phase = .print) : resume s = decideBoundary s := by
  simp [resume, he, hl, hp]

/-- A HALTED feed-out resumes (R168). -/
theorem resume_of_feedOut {s : State} {l : LabelContext} (he : s.pe.engine = .halted) (hl : s.pe.label = some l)
    (hp : l.phase = .feedOut) : resume s = startFeedOut l s := by
  simp [resume, he, hl, hp]

/-- A set with a reason present is not empty. -/
theorem PauseSet.isEmpty_of_has {p : PauseSet} {r : PauseReason} (h : p.has r = true) : p.isEmpty = false := by
  cases r <;> simp_all [PauseSet.has, PauseSet.isEmpty]

/-- What follows where the reason that leaves was the last, or not (R168). -/
theorem removeReason_spec (r : PauseReason) (s : State) :
    ((dropReason r s).pe.pause.isEmpty = false ∨ s.pe.engine ≠ .idle ∧ s.pe.engine ≠ .halted →
      removeReason r s = dropReason r s)
    ∧ (∀ l, s.pe.pause.has r = true → (dropReason r s).pe.pause.isEmpty = true → s.pe.engine = .halted →
      s.pe.label = some l → l.phase = .print → removeReason r s = decideBoundary (dropReason r s))
    ∧ (∀ l, s.pe.pause.has r = true → (dropReason r s).pe.pause.isEmpty = true → s.pe.engine = .halted →
      s.pe.label = some l → l.phase = .feedOut → removeReason r s = startFeedOut l (dropReason r s)) := by
  refine ⟨fun h => ?_, fun l h1 h2 h3 h4 h5 => ?_, fun l h1 h2 h3 h4 h5 => ?_⟩
  · rcases h with h | ⟨h1, h2⟩
    · exact resumeIfEmptied_of_paused h
    · exact resumeIfEmptied_of_moving h1 h2
  · exact (resumeIfEmptied_of_emptied (PauseSet.isEmpty_of_has h1) h2).trans (resume_of_print h3 h4 h5)
  · exact (resumeIfEmptied_of_emptied (PauseSet.isEmpty_of_has h1) h2).trans (resume_of_feedOut h3 h4 h5)

/-- The PAUSE key's event (R167). -/
theorem exec_pauseKey {s : State} (hp : s.powered = true) (h1 : s.ss.start ≠ .loading) (h2 : s.ss.start ≠ .startRdy) :
    exec .pauseKey s = .next (if s.pe.pause.panel then removeReason .panel (takeGeometry s)
      else addReason .panel (takeGeometry s)) := by
  show execPauseKey s = _
  rw [execPauseKey, inEvent_of hp (by simp [started, h1, h2])]
  simp only [takeGeometry_pause]

/-- Settles O49: HOST and PANEL join and leave, and what follows when the last leaves. -/
theorem pauseReasonsFollowRecords : Obligations.PauseReasonsFollowRecords := by
  unfold Obligations.PauseReasonsFollowRecords
  refine ⟨fun s h => ?_, fun s h => ?_, fun s hp h1 h2 => ⟨fun h => ?_, fun h h3 h4 => ?_, fun h h3 => ?_⟩⟩
  · have hx : exec .pause s = .next (addReason .host (removeRecord s)) := by
      show execPause s = _
      rw [execPause, onRecord_of_takes h]
    rw [hx, addReason, removeRecord_pe, takeGeometry_pause]
    simp only [removeRecord, ctsAfterRemove]
    split <;> rfl
  · have hx : exec .go s = .next (removeReason .host (removeRecord s)) := by
      show execGo s = _
      rw [execGo, onRecord_of_takes h]
    intro s1
    have hs1 : dropReason .host (removeRecord s) = s1 := by
      simp only [s1, dropReason, removeRecord_pe, takeGeometry_pause]
      rfl
    obtain ⟨heng, -, -, hlab, -, hpause, -⟩ := takeGeometry_pe s
    obtain ⟨hno, hprint, hfeed⟩ := removeReason_spec .host (removeRecord s)
    rw [hs1] at hno hprint hfeed
    simp only [removeRecord_pe, heng, hlab, hpause] at hno hprint hfeed
    rw [hx]
    exact ⟨fun h => congrArg _ (hno h), fun l g1 g2 g3 g4 g5 => congrArg _ (hprint l g1 g2 g3 g4 g5),
      fun l g1 g2 g3 g4 g5 => congrArg _ (hfeed l g1 g2 g3 g4 g5)⟩
  · rw [exec_pauseKey hp h1 h2, if_neg (by simp [h]), addReason, takeGeometry_pause]
    rfl
  · rw [exec_pauseKey hp h1 h2, if_pos h, takeGeometry_of_busy h3]
    exact congrArg _ ((removeReason_spec .panel s).1 (.inr ⟨h3, h4⟩))
  · intro s2
    obtain ⟨hno, hprint, hfeed⟩ := removeReason_spec .panel s
    rw [exec_pauseKey hp h1 h2, if_pos h, takeGeometry_of_busy (by simp [h3])]
    exact ⟨fun he => congrArg _ (hno (.inl he)), fun l he hl => ⟨fun hph => congrArg _ (hprint l h he h3 hl hph),
      fun hph => congrArg _ (hfeed l h he h3 hl hph)⟩⟩

/-! ## The port (R172, R173) -/

/-- A LINE record taken gives its word. -/
theorem lineWord_of_takes {b : Bool} {s : State} (h : Takes .line formLine b s) : lineWord s = some b := by
  obtain ⟨rest, ps, h1, -, h2, h3⟩ := h
  simp only [lineWord, h1, h2, h3]

/-- Bindings dropped leave the cursor's place (R172, R173). -/
theorem cursorStart_unbindAll (s : State) : cursorStart (unbindAll s) = cursorStart s := by
  have horder : printOrder (unbindAll s) = (printOrder s).map fun p => (p.1, { p.2 with bound := false }) := by
    simp only [printOrder, unbindAll, List.flatMap_map, List.map_flatMap, List.map_map]
    rfl
  simp only [cursorStart, horder, List.findIdx?_map, List.length_map]
  rfl

/-- The port turned ON (R172). -/
theorem portOn_eq (s : State) : portOn s = { s with
    lp := { s.lp with
      on := true, cursor := cursorStart s, apply := { owed := 0, high := false }, miss := { owed := 0, high := false } }
    pe := { s.pe with pause := { s.pe.pause with line := s.lp.hold || s.pe.pause.line } } } := by
  unfold portOn
  dsimp only
  cases s.lp.hold <;> rfl

/-- LINE ON with the port ON, and LINE OFF with it OFF, change nothing. -/
theorem takeLine_of_same {b : Bool} {s : State} (h : s.lp.on = b) : takeLine b s = s := if_pos h.symm

/-- LINE ON with the port OFF (R172). -/
theorem takeLine_on {s : State} (h : s.lp.on = false) : takeLine true s = portOn s := by
  rw [takeLine, h]
  rfl

/-- LINE OFF with the port ON (R173). -/
theorem takeLine_off {s : State} (h : s.lp.on = true) :
    takeLine false s = testLabelStart (removeReason .line (portOff s)) := by
  rw [takeLine, h]
  rfl

/-- The output LINE-FAULT (R197). -/
theorem lineFaultOutput_iff (s : State) : lineFaultOutput s = true ↔ s.lp.on = true
    ∧ ∃ k : FaultKind, (faultOf s k).active = true ∧ (routeOf s k = .line ∨ routeOf s k = .both) := by
  have hroute : ∀ r : Route, r.toLine = true ↔ r = .line ∨ r = .both := by
    intro r
    cases r <;> simp [Route.toLine]
  simp only [lineFaultOutput, Bool.and_eq_true, List.any_eq_true, hroute]
  exact and_congr_right fun _ => ⟨fun ⟨k, _, h1, h2⟩ => ⟨k, h2, h1⟩, fun ⟨k, h1, h2⟩ => ⟨k, k.mem_all, h2, h1⟩⟩

/-- Settles O50: the port turned ON and OFF, and its three level outputs. -/
theorem portTurnsOnAndOff : Obligations.PortTurnsOnAndOff := by
  unfold Obligations.PortTurnsOnAndOff
  refine ⟨fun s h => ?_, fun s h => ?_, fun s => ⟨?_, ?_, lineFaultOutput_iff s⟩⟩
  · have hx : exec .lineOn s = .next (takeLine true (removeRecord s)) := by
      show execLineOn s = _
      rw [execLineOn, if_neg (by simp [lineWord_of_takes h]), onRecord_of_takes h]
    refine ⟨fun hon => ?_, fun hon => ?_⟩
    · rw [hx, takeLine_on (s := removeRecord s) hon, portOn_eq]
      simp only [removeRecord_pe, takeGeometry_pause]
      rfl
    · rw [hx, takeLine_of_same (s := removeRecord s) hon]
  · have hx : exec .lineOff s = .next (takeLine false (removeRecord s)) := by
      show execLineOff s = _
      rw [execLineOff, if_neg (by simp [lineWord_of_takes h]), onRecord_of_takes h]
    refine ⟨fun hon h1 h2 => ?_, fun hoff => ?_⟩
    · have hpe : (portOff (removeRecord s)).pe = s.pe := by
        show (removeRecord s).pe = _
        simp [takeGeometry_of_busy h1]
      have hdrop := (removeReason_spec .line (portOff (removeRecord s))).1 (.inr ⟨by rwa [hpe], by rwa [hpe]⟩)
      have hbusy : (dropReason .line (portOff (removeRecord s))).pe.engine ≠ .idle := by
        show (portOff (removeRecord s)).pe.engine ≠ _
        rwa [hpe]
      have hcursor : cursorStart (unbindAll (removeRecord s)) = cursorStart s := cursorStart_unbindAll _
      rw [hx, takeLine_off (s := removeRecord s) hon, hdrop, testLabelStart_of_busy hbusy]
      simp only [dropReason, hpe]
      simp only [portOff, hcursor]
      rfl
    · rw [hx, takeLine_of_same (s := removeRecord s) hoff]
  · simp [readyOutput, Option.any_eq_true]
  · simp [wasteOutput, Option.any_eq_true]

end Sys2Proof.Machine
end

section
/-! The line port's inputs and pulses (10.2, 10.5). -/

namespace Sys2Proof.Machine

/-! ## Input edges (R175 to R177) -/

/-- A trigger edge of an input that is low (R176). -/
theorem exec_triggerEdge {s : State} {i : LineInput} {k : ParcelKind} (hp : s.powered = true)
    (hk : triggerKind i = some k) (hl : s.lp.level i = false) :
    exec (.triggerEdge i) s = .next (triggerRises k (setLevel i true (takeGeometry s))) := by
  show execTriggerEdge i s = _
  simp only [execTriggerEdge, hk]
  exact inEvent_of hp (by simp [hl])

/-- The levels of the inputs are apart from the port's state and its window. -/
theorem withLevel_keeps (lp : LinePort) (i : LineInput) (b : Bool) :
    (lp.withLevel i b).on = lp.on ∧ (lp.withLevel i b).window = lp.window
      ∧ (lp.withLevel i b).conveyor = lp.conveyor := by
  cases i <;> exact ⟨rfl, rfl, rfl⟩

/-- A trigger with the port OFF does nothing (R176). -/
theorem triggerRises_of_off {k : ParcelKind} {s : State} (h : s.lp.on = false) : triggerRises k s = s := by
  simp [triggerRises, h]

/-- A trigger with no other waiting opens its window (R176). -/
theorem triggerRises_of_free {k : ParcelKind} {s : State} (h : s.lp.on = true) (hw : s.lp.window = none) :
    triggerRises k s = { s with lp := { s.lp with window := some { kind := k, position := s.lp.conveyor } } } := by
  simp [triggerRises, h, hw]

/-- A trigger of the other input conflicts with the one that waits (R176). -/
theorem triggerRises_of_conflict {k : ParcelKind} {s : State} {w : ConflictWindow} (h : s.lp.on = true)
    (hw : s.lp.window = some w) (hk : w.kind ≠ k) :
    triggerRises k s = raiseFault .lineConflict { s with lp := { s.lp with window := none } } := by
  simp [triggerRises, h, hw, hk]

/-- An edge of HOLD (R177). -/
theorem exec_holdEdge {s : State} {b : Bool} (hp : s.powered = true) (h : s.lp.hold ≠ b) :
    exec (.holdEdge b) s = .next (holdChanges b (setLevel .hold b (takeGeometry s))) := by
  show execHoldEdge b s = _
  rw [execHoldEdge, inEvent_of hp (by simp [h])]

/-- Settles O51: the edges by the port's state, the window, and HOLD's level. -/
theorem inputEdgesAct : Obligations.InputEdgesAct := by
  unfold Obligations.InputEdgesAct
  refine ⟨fun s i k hp hk hl => ?_, fun s hp => ⟨fun hon hh => ?_, fun hon hh h1 h2 => ?_, fun b hoff hb => ?_,
    fun i hi => ⟨fun hl => ?_, fun hl => ?_⟩⟩⟩
  · intro s0
    have hkind : triggerKind i = some k := by
      rcases hk with ⟨rfl, rfl⟩ | ⟨rfl, rfl⟩ <;> rfl
    have hx := exec_triggerEdge hp hkind hl
    obtain ⟨hon, hwin, hconv⟩ := withLevel_keeps s.lp i true
    refine ⟨fun h => ?_, fun h hw => ?_, fun w h hw hne => ?_⟩
    · rw [hx, triggerRises_of_off (hon.trans h)]
      rfl
    · rw [hx, triggerRises_of_free (hon.trans h) (hwin.trans hw), ← hconv]
      rfl
    · rw [hx, triggerRises_of_conflict (hon.trans h) (hwin.trans hw) hne]
      rfl
  · rw [exec_holdEdge hp (by simp [hh])]
    have hon' : (setLevel .hold true (takeGeometry s)).lp.on = true := hon
    rw [holdChanges, if_pos hon', if_pos rfl, ← takeGeometry_pause s]
    rfl
  · rw [exec_holdEdge hp (by simp [hh]), takeGeometry_of_busy h1]
    have hon' : (setLevel .hold false s).lp.on = true := hon
    rw [holdChanges, if_pos hon', if_neg (by simp)]
    exact congrArg _ ((removeReason_spec .line (setLevel .hold false s)).1 (.inr ⟨h1, h2⟩))
  · rw [exec_holdEdge hp hb]
    have hoff' : ¬(setLevel .hold b (takeGeometry s)).lp.on = true := by
      show ¬s.lp.on = true
      simp [hoff]
    rw [holdChanges, if_neg hoff']
    rfl
  · have hfalls : i.fallsAlone = true := by rcases hi with rfl | rfl | rfl <;> rfl
    show execFallingEdge i s = _
    rw [execFallingEdge, if_pos hfalls]
    exact inEvent_of hp hl
  · have hfalls : i.fallsAlone = true := by rcases hi with rfl | rfl | rfl <;> rfl
    show execFallingEdge i s = _
    rw [execFallingEdge, if_pos hfalls]
    exact inEvent_of_not (by simp [hl])

/-! ## Pulses (R186, R187) -/

/-- A pulse begun (R186). -/
theorem exec_pulseBegin {s : State} {o : LineOutput} {p : PulseOutput} (hp : s.powered = true)
    (ho : s.lp.pulse o = some p) (hon : s.lp.on = true) (hh : p.high = false) (hw : 0 < p.owed) :
    exec (.pulseBegin o) s = .next { takeGeometry s with
      lp := startApplyTimer o (s.lp.withPulse o { owed := p.owed - 1, high := true }) } := by
  show execPulseBegin o s = _
  simp only [execPulseBegin, ho]
  exact inEvent_of hp (by simp [hon, hh, hw])

/-- An output that owes none begins no pulse (R186). -/
theorem exec_pulseBegin_of_none {s : State} {o : LineOutput} {p : PulseOutput} (ho : s.lp.pulse o = some p)
    (hw : p.owed = 0) : exec (.pulseBegin o) s = .next s := by
  show execPulseBegin o s = _
  simp only [execPulseBegin, ho]
  exact inEvent_of_not (by simp [hw])

/-- A pulse ended (R186). -/
theorem exec_pulseEnd {s : State} {o : LineOutput} {p : PulseOutput} (hp : s.powered = true)
    (ho : s.lp.pulse o = some p) (hh : p.high = true) :
    exec (.pulseEnd o) s = .next { takeGeometry s with lp := s.lp.withPulse o { p with high := false } } := by
  show execPulseEnd o s = _
  simp only [execPulseEnd, ho]
  exact inEvent_of hp hh

/-- Settles O54: a pulse begun and ended on each output. -/
theorem pulsesGiven : Obligations.PulsesGiven := by
  unfold Obligations.PulsesGiven
  intro s hp s0
  refine ⟨fun hon hh hw => ?_, fun hon hh hw => ?_, fun hon hh hw => ?_, fun hw => ?_, fun hw => ?_, fun hh => ?_,
    fun hh => ?_⟩
  · have hne : s.lp.apply.owed - 1 ≠ 0 := by omega
    rw [exec_pulseBegin (o := .apply) hp rfl hon hh (by omega)]
    simp only [startApplyTimer, LinePort.withPulse, hne, and_false, if_false]
    rfl
  · rw [exec_pulseBegin (o := .apply) hp rfl hon hh (by omega)]
    simp only [startApplyTimer, LinePort.withPulse, hw]
    rfl
  · rw [exec_pulseBegin (o := .miss) hp rfl hon hh hw]
    rfl
  · exact exec_pulseBegin_of_none (o := .apply) rfl hw
  · exact exec_pulseBegin_of_none (o := .miss) rfl hw
  · exact exec_pulseEnd (o := .apply) hp rfl hh
  · exact exec_pulseEnd (o := .miss) hp rfl hh

end Sys2Proof.Machine
end

section
/-! A trigger taken (10.2 to 10.4). -/

namespace Sys2Proof.Machine

/-! ## Entries OPEN (R180, R181) -/

/-- No parcel entry is OPEN. -/
def NoneOpen (s : State) : Prop := ∀ e ∈ s.lp.parcels, e.state ≠ .open

namespace NoneOpen
variable {s t : State}

theorem same (h : NoneOpen s) (e : t.lp.parcels = s.lp.parcels) : NoneOpen t := by
  unfold NoneOpen
  rw [e]
  exact h

theorem ite {c : Prop} [Decidable c] {a b : State} (ha : NoneOpen a) (hb : NoneOpen b) :
    NoneOpen (if c then a else b) := by
  split
  · exact ha
  · exact hb

/-- A DONE offered moves the cursor alone (R80, R180). -/
theorem offerDone (tag : Nat) (h : NoneOpen s) : NoneOpen (offerDone tag s) := by
  unfold Machine.offerDone
  cases hj : jobOf s tag with
  | none => exact h
  | some j =>
    refine .ite ?_ h
    have he : j.tag = tag := jobOf_tag hj
    rcases offerReport_cases (doneReport j) s with ⟨-, -, hr⟩ | ⟨-, hr⟩
    · obtain ⟨cursor, sending, hen⟩ := enterReport_doneReport (he ▸ hj : jobOf s j.tag = some j)
      rw [hr, hen]
      exact h
    · rw [hr]
      exact h

/-- A copy that ends makes a BOUND entry FORSAKEN (R76). -/
theorem endCopy (id : CopyId) (r : CopyResult) (h : NoneOpen s) : NoneOpen (endCopy id r s) := by
  intro e he
  obtain ⟨x, hx, rfl⟩ := List.mem_map.1 he
  unfold Parcel.forsake
  split
  · exact nofun
  · exact h x hx

theorem releaseCopy (id : CopyId) (h : NoneOpen s) : NoneOpen (releaseCopy id s) := by
  obtain ⟨-, hlp, -⟩ := releaseCopy_keeps id s
  exact h.same (by rw [hlp])

theorem presentCopy (copy : Option CopyId) (h : NoneOpen s) : NoneOpen (presentCopy copy s).1 := by
  unfold Machine.presentCopy
  split
  · exact h
  · split
    · exact h
    · split
      · exact (h.endCopy _ _).offerDone _
      · exact h

theorem present (l : LabelContext) (h : NoneOpen s) : NoneOpen (present l s) := by
  have h1 := h.presentCopy l.copy
  refine h1.same ?_
  simp [Machine.present]

theorem completeFeedOut (l : LabelContext) (h : NoneOpen s) : NoneOpen (completeFeedOut l s) :=
  .ite h (h.present l)

theorem startFeedOut (l : LabelContext) (h : NoneOpen s) : NoneOpen (startFeedOut l s) := by
  have h1 : NoneOpen (feedOutBegun l s) := h
  rw [startFeedOut_eq]
  exact .ite (h1.completeFeedOut _) h1

theorem decideBoundary (h : NoneOpen s) : NoneOpen (decideBoundary s) := by
  unfold Machine.decideBoundary
  split
  · exact h
  · next l _ =>
    have hfree : NoneOpen (freeLabelBands l s) := h.same (by simp)
    refine .ite (.ite (h.startFeedOut l) h) (.ite (hfree.startFeedOut l) (.ite h ?_))
    split
    · exact h
    · exact .ite h (h.same (by simp))

theorem stopLabel (h : NoneOpen s) : NoneOpen (stopLabel s) := by
  have h1 : NoneOpen (if lineInProgress s then s else freePrintingBand s) :=
    .ite h (h.same (by rw [(freePrintingBand_keeps s).2.2.2.2.2.1]))
  have h2 : NoneOpen (beginClosing (if lineInProgress s then s else freePrintingBand s)) := .ite h1 h1
  exact .ite h2.decideBoundary h2

theorem withdrawCopy (id : CopyId) (h : NoneOpen s) : NoneOpen (withdrawCopy id s) := by
  have hend : NoneOpen (endUnprinted id .voided s) := (h.endCopy id .voided).releaseCopy id
  unfold Machine.withdrawCopy
  split
  · exact hend
  · exact hend
  · exact hend
  · refine .ite h (NoneOpen.stopLabel (NoneOpen.releaseCopy id ?_))
    exact h
  · exact h.endCopy id .wasted
  · exact h
  · exact h
  · exact h

end NoneOpen

/-! ## The engine in a withdrawal (R82, R161) -/

/-- A label stopped does not leave the engine IDLE. -/
theorem stopLabel_engine {s : State} (h : s.pe.engine ≠ .idle) : (stopLabel s).pe.engine ≠ .idle := by
  have h1 : (if lineInProgress s then s else freePrintingBand s).pe.engine ≠ .idle := by
    split
    · exact h
    · cases hl : s.pe.label with
      | none => simpa [freePrintingBand, hl] using h
      | some l =>
        obtain ⟨br, k, hf⟩ := freePrintingBand_spec hl
        rw [hf]
        exact h
  show (if atBoundary (beginClosing (if lineInProgress s then s else freePrintingBand s)) = true then
    decideBoundary (beginClosing (if lineInProgress s then s else freePrintingBand s))
    else beginClosing (if lineInProgress s then s else freePrintingBand s)).pe.engine ≠ .idle
  generalize (if lineInProgress s then s else freePrintingBand s) = u at h1
  have h2 : (beginClosing u).pe.engine ≠ .idle := by simpa using h1
  split
  · exact decideBoundary_engine h2
  · exact h2

/-- A withdrawal does not leave the engine IDLE. -/
theorem withdrawCopy_engine {s : State} (id : CopyId) (h : s.pe.engine ≠ .idle) :
    (withdrawCopy id s).pe.engine ≠ .idle := by
  have hrel : ∀ t : State, (releaseCopy id t).pe = t.pe := fun t => (releaseCopy_keeps id t).2.2.2.2.2.2
  have hend : (endUnprinted id .voided s).pe.engine ≠ .idle := by
    rw [endUnprinted, hrel]
    exact h
  unfold withdrawCopy
  split
  · exact hend
  · exact hend
  · exact hend
  · unfold withdraw
    split
    · exact h
    · refine stopLabel_engine ?_
      rw [hrel]
      exact h
  · exact h
  · exact h
  · exact h
  · exact h

/-! ## A trigger taken (R179 to R182) -/

/-- The first OPEN entry changed is the last one, where no other is OPEN. -/
theorem changeFirst_append {ps : List Parcel} {e : Parcel} (h : ∀ x ∈ ps, x.state ≠ .open) (he : e.state = .open)
    (f : Parcel → Option Parcel) : changeFirst Parcel.isOpen f (ps ++ [e]) = ps ++ (f e).toList := by
  induction ps with
  | nil =>
    have ho : e.isOpen = true := by simp [Parcel.isOpen, he]
    simp only [List.nil_append, changeFirst, ho, if_true]
    cases f e <;> rfl
  | cons x ps ih =>
    have hx : x.isOpen = false := by simpa [Parcel.isOpen] using h x List.mem_cons_self
    simp only [List.cons_append, changeFirst, hx, Bool.false_eq_true, if_false,
      ih fun y hy => h y (List.mem_cons_of_mem _ hy)]

/-- The oldest OPEN entry is the last one, where no other is OPEN. -/
theorem findOpen_append {ps : List Parcel} {e : Parcel} (h : ∀ x ∈ ps, x.state ≠ .open) (he : e.state = .open) :
    (ps ++ [e]).find? Parcel.isOpen = some e := by
  have hnone : ps.find? Parcel.isOpen = none := by simpa [List.find?_eq_none, Parcel.isOpen] using h
  rw [List.find?_append, hnone]
  simp [Parcel.isOpen, he]

/-- The entry of a trigger in the list, OPEN, before the binding (R179). -/
def entered (w : ConflictWindow) (s : State) : State :=
  { s with lp := { s.lp with
    window := none, parcels := s.lp.parcels ++ [newParcel s w], seq := s.lp.seq + 1 } }

/-- A binding of the entry of a trigger, where no other is OPEN (R180, R181). -/
theorem bindEvent_entered {s t : State} {w : ConflictWindow} (ht : bindOne (entered w s) = some t)
    (hopen : NoneOpen t) (he : t.pe.engine ≠ .idle) : bindEvent (entered w s) = t := by
  have hlen : (entered w s).lp.parcels.length = s.lp.parcels.length + 1 := by simp [entered]
  rw [bindEvent, hlen, bindAll, ht]
  dsimp only
  rw [bindAll_of_none_open hopen, testLabelStart_of_busy he]

/-- The expiry of a window with room in the list. -/
theorem exec_conflictWindowExpiry {s : State} {w : ConflictWindow} (hp : s.powered = true)
    (hw : s.lp.window = some w) : exec .conflictWindowExpiry s
      = .next (takeTrigger w { takeGeometry s with lp := { s.lp with window := none } }) := by
  have hw' : (takeGeometry s).lp.window = some w := hw
  show execConflictWindowExpiry s = _
  rw [execConflictWindowExpiry, inEvent_of hp (by simp [hw])]
  simp only [hw']
  rfl

/-- A trigger with room in the list whose apply point is not reached binds and does no more (R179). -/
theorem takeTrigger_of_room {s : State} {w : ConflictWindow} (hlen : s.lp.parcels.length < 8)
    (hno : w.kind = .purge
      ∨ conveyorReached (bindEvent (entered w s)).lp.conveyor (newParcel s w).apply = false) :
    takeTrigger w { s with lp := { s.lp with window := none } } = bindEvent (entered w s) := by
  rw [takeTrigger, if_pos hlen]
  refine if_neg fun hx => ?_
  obtain ⟨h1, -, h2⟩ := hx
  rcases hno with hno | hno
  · have h1' : w.kind = .label := h1
    simp [hno] at h1'
  · exact absurd h2 (by rw [Bool.not_eq_true]; exact hno)

/-- Settles O52: the entry that stays OPEN, is bound, or purges, and the trigger dropped. -/
theorem triggerMakesEntry : Obligations.TriggerMakesEntry := by
  unfold Obligations.TriggerMakesEntry
  intro s w hp hw e
  have hx := exec_conflictWindowExpiry hp hw
  refine ⟨fun hlen ho he hreach => ?_, fun i id hlen ho he hk ha => ?_, fun hlen => ?_⟩
  · rw [takeGeometry_of_busy he] at hx
    have hfind : (entered w s).lp.parcels.find? Parcel.isOpen = some (newParcel s w) := findOpen_append ho rfl
    refine ⟨fun ha => ?_, fun i id hk ha => ?_⟩
    · have hone : bindOne (entered w s) = none := by
        have ha' : availableCopy (entered w s) = none := ha
        simp only [bindOne, hfind, ha']
      have hbind : bindEvent (entered w s) = entered w s := by
        have hall : ∀ fuel, bindAll fuel (entered w s) = entered w s := by
          intro fuel
          cases fuel with
          | zero => rfl
          | succ n => simp only [bindAll, hone]
        rw [bindEvent, hall]
        exact testLabelStart_of_busy he
      rw [hx, takeTrigger_of_room hlen (.inr (by rw [hbind]; exact hreach)), hbind]
      rfl
    · have hone : bindOne (entered w s) = some { setBound id true s with lp := { s.lp with
          window := none, parcels := s.lp.parcels ++ [e (some id) .bound], seq := s.lp.seq + 1, cursor := i + 1 } } := by
        have ha' : availableCopy (entered w s) = some (i, id) := ha
        have hk' : (newParcel s w).kind = .label := hk
        have hchange := changeFirst_append ho (e := newParcel s w) rfl
          fun e => some { e with state := .bound, copy := some id }
        simp only [bindOne, hfind, ha', hk', bindLabel, mapParcels]
        simp only [entered, hchange]
        rfl
      have hopen : NoneOpen { setBound id true s with lp := { s.lp with
          window := none, parcels := s.lp.parcels ++ [e (some id) .bound], seq := s.lp.seq + 1, cursor := i + 1 } } := by
        intro x hx
        rcases List.mem_append.1 hx with hx | hx
        · exact ho x hx
        · cases List.mem_singleton.1 hx
          exact nofun
      have hbind := bindEvent_entered hone hopen he
      rw [hx, takeTrigger_of_room hlen (.inr (by rw [hbind]; exact hreach)), hbind]
  · rw [takeGeometry_of_busy he] at hx
    have hfind : (entered w s).lp.parcels.find? Parcel.isOpen = some (newParcel s w) := findOpen_append ho rfl
    have hone : bindOne (entered w s) = some (offerDone id.tag (withdrawCopy id { s with lp := { s.lp with
        window := none, seq := s.lp.seq + 1, cursor := i + 1 } })) := by
      have ha' : availableCopy (entered w s) = some (i, id) := ha
      have hk' : (newParcel s w).kind = .purge := hk
      have hchange := changeFirst_append ho (e := newParcel s w) rfl fun _ => none
      simp only [bindOne, hfind, ha', hk', bindPurge, mapParcels]
      simp only [entered, hchange, Option.toList_none, List.append_nil]
    have hopen : NoneOpen { s with lp := { s.lp with window := none, seq := s.lp.seq + 1, cursor := i + 1 } } := ho
    have hbind := bindEvent_entered hone ((hopen.withdrawCopy id).offerDone id.tag) (by
      rw [(offerDone_frame _ _).2.2.2.2.2.2.1]
      exact withdrawCopy_engine id he)
    rw [hx, takeTrigger_of_room hlen (.inl hk), hbind]
  · rw [hx, takeTrigger, if_neg (Nat.not_lt.2 hlen)]
    rfl

end Sys2Proof.Machine
end

section
/-! The apply points the conveyor reaches (10.5). -/

namespace Sys2Proof.Machine

/-! ## A fault raised apart from the rest of the part -/

/-- A report that enters the queue acts on the link alone, where nothing follows from it. -/
theorem enterReport_quiet_jl {r : Report} {s t : State} (hr : r.quiet = true) (h : t.jl = s.jl) (hss : t.ss = s.ss) :
    (enterReport r t).jl = (enterReport r s).jl := by
  simp only [enterReport, onEnter_quiet hr, beginCharacter_eq, mayTransmit, linkOn, h, hss]

/-- The link and the flags after a fault depend on the link, the flags and the routes alone. -/
theorem raiseFault_congr {s t : State} (k : FaultKind) (hjl : t.jl = s.jl) (hfm : t.fm = s.fm) (hss : t.ss = s.ss) :
    (raiseFault k t).jl = (raiseFault k s).jl ∧ (raiseFault k t).fm = (raiseFault k s).fm := by
  have hfl : ∀ j, faultOf (raiseFlags k t) j = faultOf (raiseFlags k s) j := by
    intro j
    simp only [faultOf, raiseFlags, setFault, hfm]
  have hrj : (raiseFlags k t).jl = (raiseFlags k s).jl := hjl
  have howed : noticeOwed (raiseFlags k t) k = noticeOwed (raiseFlags k s) k :=
    noticeOwed_congr hss (hfl k) (by rw [hrj])
  have hrf : (raiseFlags k t).fm = (raiseFlags k s).fm := by simp only [raiseFlags, setFault, faultOf, hfm]
  simp only [raiseFault, offerNotice, howed]
  split
  · rw [hfl k]
    generalize hu : setFault k { faultOf (raiseFlags k s) k with reported := (faultOf (raiseFlags k s) k).latched }
      (raiseFlags k t) = u
    generalize hv : setFault k { faultOf (raiseFlags k s) k with reported := (faultOf (raiseFlags k s) k).latched }
      (raiseFlags k s) = v
    have huv : u.jl = v.jl := by rw [← hu, ← hv]; exact hrj
    have huf : u.fm = v.fm := by rw [← hu, ← hv]; simp only [setFault, hrf]
    refine ⟨?_, ?_⟩
    · unfold offerReport
      rw [huv]
      split
      · exact enterReport_quiet_jl rfl huv (by rw [← hu, ← hv]; exact hss)
      · rfl
    · rw [(offerReport_frame _ _).2.2.2.2.2.2.2.1, (offerReport_frame _ _).2.2.2.2.2.2.2.1, huf]
  · exact ⟨hrj, hrf⟩

/-! ## The entries of a list (R184) -/

/-- The first entry that a change finds, behind others that it does not. -/
theorem changeFirst_of_split {p : Parcel → Bool} {before behind : List Parcel} {e : Parcel}
    (hb : ∀ x ∈ before, p x = false) (he : p e = true) (f : Parcel → Option Parcel) :
    changeFirst p f (before ++ e :: behind) = before ++ ((f e).toList ++ behind) := by
  induction before with
  | nil =>
    simp only [List.nil_append, changeFirst, he, if_true]
    cases f e <;> rfl
  | cons x before ih =>
    simp only [List.cons_append, changeFirst, hb x List.mem_cons_self, Bool.false_eq_true, if_false,
      ih fun y hy => hb y (List.mem_cons_of_mem _ hy)]

/-- The first entry awaiting its apply point, behind others that await none. -/
theorem find_of_split {p : Parcel → Bool} {before behind : List Parcel} {e : Parcel}
    (hb : ∀ x ∈ before, p x = false) (he : p e = true) : (before ++ e :: behind).find? p = some e := by
  have hnone : before.find? p = none := List.find?_eq_none.2 fun x hx => by simp [hb x hx]
  rw [List.find?_append, hnone, List.find?_cons, he]
  rfl

/-- No apply point that is still awaited has been reached. -/
def NoneReached (s : State) : Prop :=
  ∀ x ∈ s.lp.parcels, x.awaitsApply = true → conveyorReached s.lp.conveyor x.apply = false

/-- Where none is reached no apply point is handled (R184). -/
theorem handleApplyPoints_of_noneReached {s : State} (h : ∀ e, s.lp.parcels.find? Parcel.awaitsApply = some e →
    conveyorReached s.lp.conveyor e.apply = false) (fuel : Nat) : handleApplyPoints fuel s = s := by
  cases fuel with
  | zero => rfl
  | succ n =>
    unfold handleApplyPoints
    split
    · next e he => simp only [h e he, Bool.false_eq_true, if_false]
    · rfl

theorem NoneReached.first {s : State} (h : NoneReached s) : ∀ e, s.lp.parcels.find? Parcel.awaitsApply = some e →
    conveyorReached s.lp.conveyor e.apply = false :=
  fun e he => h e (List.mem_of_find?_eq_some he) (List.find?_some he)

theorem NoneReached.same {s t : State} (h : NoneReached s) (e : t.lp = s.lp) : NoneReached t := by
  unfold NoneReached
  rw [e]
  exact h

/-- A DONE offered moves the cursor alone. -/
theorem NoneReached.offerDone {s : State} (tag : Nat) (h : NoneReached s) : NoneReached (offerDone tag s) := by
  unfold Machine.offerDone
  cases hj : jobOf s tag with
  | none => exact h
  | some j =>
    dsimp only
    split
    · have he : j.tag = tag := jobOf_tag hj
      rcases offerReport_cases (doneReport j) s with ⟨-, -, hr⟩ | ⟨-, hr⟩
      · obtain ⟨cursor, sending, hen⟩ := enterReport_doneReport (he ▸ hj : jobOf s j.tag = some j)
        rw [hr, hen]
        exact h
      · rw [hr]
        exact h
    · exact h

/-- An entry FORSAKEN awaits the apply point it awaited (R76). -/
theorem NoneReached.endCopy {s : State} (id : CopyId) (r : CopyResult) (h : NoneReached s) :
    NoneReached (endCopy id r s) := by
  intro e he ha
  obtain ⟨x, hx, rfl⟩ := List.mem_map.1 he
  have hkeep : (Parcel.forsake id x).apply = x.apply ∧ (Parcel.forsake id x).awaitsApply = x.awaitsApply := by
    unfold Parcel.forsake
    split
    · next hc => exact ⟨rfl, by rw [Parcel.awaitsApply, Parcel.awaitsApply, hc.2]; rfl⟩
    · exact ⟨rfl, rfl⟩
  rw [hkeep.1]
  exact h x hx (hkeep.2 ▸ ha)

/-! ## ENC_PULSE (R175, R184) -/

/-- The conveyor advanced by one count (R175). -/
def advanced (s : State) : State := { s with lp := { s.lp with conveyor := s.lp.conveyor + 1 } }

/-- A pulse that reaches no apply point. -/
theorem exec_encPulse_of_none {s : State} (hp : s.powered = true) (he : s.pe.engine ≠ .idle)
    (h : ∀ e, s.lp.parcels.find? Parcel.awaitsApply = some e →
      conveyorReached (s.lp.conveyor + 1) e.apply = false) : exec .encPulse s = .next (advanced s) := by
  have hstop := handleApplyPoints_of_noneReached (s := advanced s) h (advanced s).lp.parcels.length
  show execEncPulse s = _
  rw [execEncPulse, inEvent_of hp rfl, takeGeometry_of_busy he]
  show Host.Outcome.next (testLabelStart (handleApplyPoints (advanced s).lp.parcels.length (advanced s))) = _
  rw [hstop, testLabelStart_of_busy (s := advanced s) he]

/-- A pulse that reaches one apply point. -/
theorem exec_encPulse_of_one {s t : State} {e : Parcel} (hp : s.powered = true) (he : s.pe.engine ≠ .idle)
    (hf : s.lp.parcels.find? Parcel.awaitsApply = some e) (hr : conveyorReached (s.lp.conveyor + 1) e.apply = true)
    (ht : handleEntry e (advanced s) = t) (hn : NoneReached t) (hb : t.pe.engine = s.pe.engine) :
    exec .encPulse s = .next t := by
  obtain ⟨n, hlen⟩ : ∃ n, s.lp.parcels.length = n + 1 := by
    cases hl : s.lp.parcels with
    | nil => rw [hl] at hf; cases hf
    | cons x l => exact ⟨l.length, rfl⟩
  have hf' : (advanced s).lp.parcels.find? Parcel.awaitsApply = some e := hf
  have hr' : conveyorReached (advanced s).lp.conveyor e.apply = true := hr
  have hlen' : (advanced s).lp.parcels.length = n + 1 := hlen
  show execEncPulse s = _
  rw [execEncPulse, inEvent_of hp rfl, takeGeometry_of_busy he]
  show Host.Outcome.next (testLabelStart (handleApplyPoints (advanced s).lp.parcels.length (advanced s))) = _
  rw [hlen', handleApplyPoints]
  simp only [hf', hr', if_true, ht]
  rw [handleApplyPoints_of_noneReached hn.first, testLabelStart_of_busy (by rwa [hb])]

/-- A copy not yet printed that ends while its job has another to end: its bands are freed, and no DONE is offered. -/
theorem offerDone_endUnprinted {u : State} {id : CopyId} {r : CopyResult} {j : Job} (hj : jobOf u id.tag = some j)
    (ho : ∃ x ∈ j.copies, x.number ≠ id.number ∧ x.state.isTerminal = false) :
    offerDone id.tag (endUnprinted id r u) = endUnprinted id r u := by
  obtain ⟨x, hx1, hx2, hx3⟩ := ho
  obtain ⟨y, hy, -, -, hkeep⟩ := jobOf_endCopy r hj
  have hjob : jobOf (endUnprinted id r u) id.tag = some y := by
    simp only [jobOf] at hy ⊢
    rw [endUnprinted, (releaseCopy_keeps _ _).1]
    exact hy
  exact offerDone_of_not_finished hjob (not_finished_of_mem (hkeep x hx1 hx2) hx3)

/-- A copy not yet printed that ends (R74, R103). -/
theorem copyOf_endUnprinted {u : State} {id : CopyId} (r : CopyResult) {c : Copy} (hc : copyOf u id = some c) :
    copyOf (endUnprinted id r u) id = some { c with state := .terminal r, bound := false } :=
  (copyOf_congr (releaseCopy_keeps id (endCopy id r u)).1 id).trans (copyOf_endCopy r hc)

/-- The copy of an entry not yet printed when its apply point is reached (R184). -/
theorem missedUnprinted_spec {u : State} {id : CopyId} {j : Job} {c : Copy} (hj : jobOf u id.tag = some j)
    (ho : ∃ x ∈ j.copies, x.number ≠ id.number ∧ x.state.isTerminal = false) (hc : copyOf u id = some c) :
    let t := raiseFault .late (offerDone id.tag (endUnprinted id .missedUnprinted u))
    copyOf t id = some { c with state := .terminal .missedUnprinted, bound := false }
      ∧ t.jl = (raiseFault .late u).jl
      ∧ ∀ b, bandOf t b =
        if (bandOf u b).owner = some id ∧ ((bandOf u b).state = .filling ∨ (bandOf u b).state = .ready) then
          { bandOf u b with state := .free, owner := none, index := none, used := none }
        else bandOf u b := by
  intro t
  have ht : t = raiseFault .late (endUnprinted id .missedUnprinted u) :=
    congrArg (raiseFault .late) (offerDone_endUnprinted hj ho)
  have hcopy := copyOf_endUnprinted .missedUnprinted hc
  have hband := bandOf_releaseCopy id (endCopy id .missedUnprinted u)
  obtain ⟨-, -, -, hjl, -, hfm, -⟩ := releaseCopy_keeps id (endCopy id .missedUnprinted u)
  have hss : (endUnprinted id .missedUnprinted u).ss = u.ss := by simp
  rw [ht]
  generalize hv : endUnprinted id .missedUnprinted u = v at hcopy hss
  rw [show releaseCopy id (endCopy id .missedUnprinted u) = v from hv] at hband hjl hfm
  have hjl' : v.jl = u.jl := hjl
  have hfm' : v.fm = u.fm := hfm
  refine ⟨?_, (raiseFault_congr (s := u) .late hjl' hfm' hss).1, fun b => ?_⟩
  · rw [copyOf_congr (s := v) (by simp)]
    exact hcopy
  · refine Eq.trans ?_ (hband b)
    simp [bandOf]

/-- Settles O53: the apply point of an entry by its state and that of its copy. -/
theorem applyPointsHandled : Obligations.ApplyPointsHandled := by
  unfold Obligations.ApplyPointsHandled
  intro s hp he p
  refine ⟨fun h => ?_, fun before e behind hs hb hae hre hbe => ?_⟩
  · refine exec_encPulse_of_none hp he fun e hf => ?_
    rcases h with h | ⟨e', h1, h2⟩
    · rw [h] at hf
      cases hf
    · rw [h1] at hf
      cases hf
      exact h2
  · intro missed
    have hf : s.lp.parcels.find? Parcel.awaitsApply = some e := by rw [hs]; exact find_of_split hb hae
    have hmiss : missEntry (advanced s) = missed := by
      simp only [missEntry, requestMiss, mapParcels, advanced, hs, changeFirst_of_split hb hae]
      rfl
    have hnone : NoneReached missed := by
      intro x hx ha
      rcases List.mem_append.1 hx with hx | hx
      · simp [hb x hx] at ha
      · exact hbe x hx
    have hcopy : ∀ id, copyOf (advanced s) id = copyOf s id := fun _ => rfl
    refine ⟨fun id c hst hid hc hcs => ?_, fun hst => ?_, fun id c hst hid hc hcs => ?_,
      fun id c hst hid hc hcs => ?_⟩
    · refine exec_encPulse_of_one hp he hf hre ?_ ?_ rfl
      · simp only [handleEntry, hst, hid, hcopy, hc, Option.map_some, hcs, applyEntry, mapParcels, requestApply]
        simp only [advanced, hs, changeFirst_of_split hb hae, Option.toList_some, List.singleton_append,
          PulseOutput.request, hid]
        rfl
      · intro x hx ha
        rcases List.mem_append.1 hx with hx | hx
        · simp [hb x hx] at ha
        · rcases List.mem_cons.1 hx with rfl | hx
          · simp [Parcel.awaitsApply] at ha
          · exact hbe x hx
    · refine exec_encPulse_of_one hp he hf hre ?_ (hnone.same (by simp)) (by simp [missed])
      rw [← hmiss]
      rcases hst with hst | hst <;> simp only [handleEntry, hst]
    · have hend : NoneReached (endUnprinted id .missedUnprinted missed) :=
        (hnone.endCopy id .missedUnprinted).same (by rw [endUnprinted, (releaseCopy_keeps _ _).2.1])
      have hx : exec .encPulse s
          = .next (raiseFault .late (offerDone id.tag (endUnprinted id .missedUnprinted missed))) := by
        refine exec_encPulse_of_one hp he hf hre ?_ ((hend.offerDone id.tag).same (by simp)) ?_
        · rw [← hmiss]
          rcases hcs with hcs | hcs | hcs <;> simp only [handleEntry, hst, hid, hcopy, hc, Option.map_some, hcs]
        · have hpe : (endUnprinted id .missedUnprinted missed).pe.engine = s.pe.engine := by
            rw [endUnprinted, (releaseCopy_keeps _ _).2.2.2.2.2.2]
            rfl
          simp [hpe]
      refine ⟨_, hx, rfl, fun j hj hother => ?_⟩
      obtain ⟨h1, h2, h3⟩ := missedUnprinted_spec (u := missed) hj hother hc
      exact ⟨h1, h2.trans (raiseFault_congr (s := s) (t := missed) .late rfl rfl rfl).1, h3⟩
    · have hx : exec .encPulse s = .next
          (raiseFault .late (addMark id (fun m => { m with late := true }) (setBound id false missed))) := by
        refine exec_encPulse_of_one hp he hf hre ?_ (hnone.same (by simp)) (by simp [missed])
        rw [← hmiss]
        simp only [handleEntry, hst, hid, hcopy, hc, Option.map_some, hcs]
      refine ⟨_, hx, rfl, ?_⟩
      have hbound : copyOf (setBound id false missed) id = some { c with bound := false } :=
        copyOf_mapCopy_self (s := missed) (fun c => { c with bound := false }) hc fun _ => rfl
      rw [copyOf_congr (s := addMark id (fun m => { m with late := true }) (setBound id false missed)) (by simp)]
      exact copyOf_addMark _ hbound hcs

end Sys2Proof.Machine
end

section
/-! TAKEN and the apply wait's expiry (10.5, 10.6). -/

namespace Sys2Proof.Machine

/-- A fault's flags are read from the fault table alone. -/
theorem faultOf_congr {s t : State} (h : t.fm = s.fm) (k : FaultKind) : faultOf t k = faultOf s k := by
  rw [faultOf, faultOf, h]

/-- A fault raised stands, active and latched (R191). -/
theorem faultOf_raiseFault (k : FaultKind) (s : State) :
    (faultOf (raiseFault k s) k).active = true ∧ (faultOf (raiseFault k s) k).latched = true := by
  obtain ⟨jl, fm, -, hf⟩ := offerNotice_noticed k (raiseFlags k s)
  have h := hf k
  rw [faultOf_raiseFlags, if_pos rfl] at h
  exact h

/-- An engine that becomes IDLE with the settings' geometry in use (R143, R149). -/
theorem enterIdle_of_same {s : State} (hm : s.ss.settings.media = s.pe.stock)
    (hc : s.ss.settings.pitch = s.pe.contPitch) :
    enterIdle s = { s with
      hi := { s.hi with idleTimer := if s.hi.power = .on then some s.ss.settings.idle else s.hi.idleTimer }
      pe := { s.pe with engine := .idle, stepTime := 0 } } := by
  rw [enterIdle, takeGeometry_of_same (by simpa using hm) (by simpa using hc), startIdleTimer]
  split
  · simp [*]
  · simp [*]

/-- The presented label leaves a HOLDING engine, and the label start is tested (R164). -/
theorem removePresented_of_holding {s : State} (he : s.pe.engine = .holding)
    (hm : s.ss.settings.media = s.pe.stock) (hc : s.ss.settings.pitch = s.pe.contPitch) :
    removePresented s = testLabelStart { s with
      hi := { s.hi with idleTimer := if s.hi.power = .on then some s.ss.settings.idle else s.hi.idleTimer }
      pe := { s.pe with engine := .idle, stepTime := 0, presented := none } } := by
  unfold removePresented
  dsimp only
  rw [if_pos he, enterIdle_of_same (s := { s with pe := { s.pe with presented := none } }) hm hc]

/-- It leaves with no label to follow while a pause reason holds back the next. -/
theorem removePresented_of_paused {s : State} (he : s.pe.engine = .holding) (hp : s.pe.pause.isEmpty = false)
    (hm : s.ss.settings.media = s.pe.stock) (hc : s.ss.settings.pitch = s.pe.contPitch) :
    removePresented s = { s with
      hi := { s.hi with idleTimer := if s.hi.power = .on then some s.ss.settings.idle else s.hi.idleTimer }
      pe := { s.pe with engine := .idle, stepTime := 0, presented := none } } :=
  (removePresented_of_holding he hm hc).trans (testLabelStart_of_paused hp)

/-- A copy that ends and that no calibration was made for leaves PE as it is. -/
theorem endCopy_pe {s : State} {id : CopyId} (r : CopyResult) (hcal : ∀ x, s.pe.cal = some x → x.copy ≠ some id) :
    (endCopy id r s).pe = s.pe := by
  have hwithout : s.pe.cal.map (Calibration.without id) = s.pe.cal := by
    cases h : s.pe.cal with
    | none => rfl
    | some x => simp [Calibration.without, hcal x h]
  show { s.pe with cal := s.pe.cal.map (Calibration.without id) } = s.pe
  rw [hwithout]

/-- A copy whose entries are all APPLYING leaves the parcel list as it is when it ends. -/
theorem endCopy_lp_of_applying {s : State} {id : CopyId} (r : CopyResult)
    (h : ∀ e ∈ s.lp.parcels, e.copy = some id → e.state = .applying) : (endCopy id r s).lp = s.lp := by
  have hmap : s.lp.parcels.map (Parcel.forsake id) = s.lp.parcels := by
    refine (List.map_congr_left fun e he => ?_).trans (List.map_id _)
    refine if_neg fun hb => ?_
    rw [h e he hb.1] at hb
    exact absurd hb.2 (by decide)
  show { s.lp with parcels := s.lp.parcels.map (Parcel.forsake id) } = s.lp
  rw [hmap]

/-- The end of a copy whose job has another to end offers no DONE. -/
theorem offerDone_endCopy {s : State} {id : CopyId} {r : CopyResult} {j : Job} (hj : jobOf s id.tag = some j)
    (ho : ∃ x ∈ j.copies, x.number ≠ id.number ∧ x.state.isTerminal = false) {u : State}
    (hu : u.jq = (endCopy id r s).jq) : offerDone id.tag u = u := by
  obtain ⟨x, hx, hn, ht⟩ := ho
  obtain ⟨y, hy, -, -, hkeep⟩ := jobOf_endCopy r hj
  have hjob : jobOf u id.tag = some y := by
    rw [← hy, jobOf, jobOf, hu]
  exact offerDone_of_not_finished hjob (not_finished_of_mem (hkeep x hx hn) ht)

/-- The end of an apply wait, its copy's job having another copy to end (R187). -/
theorem endApplyWait_spec {s : State} {id : CopyId} {r : CopyResult} {j : Job} {c : Copy}
    (hj : jobOf s id.tag = some j) (ho : ∃ x ∈ j.copies, x.number ≠ id.number ∧ x.state.isTerminal = false)
    (hc : copyOf s id = some c) (hp : ∀ e ∈ s.lp.parcels, e.copy = some id → e.state = .applying)
    (hcal : ∀ x, s.pe.cal = some x → x.copy ≠ some id) :
    offerDone id.tag (endApplyWait id r s) = endApplyWait id r s
      ∧ copyOf (endApplyWait id r s) id = some { c with state := .terminal r, bound := false }
      ∧ (endApplyWait id r s).lp = { s.lp with
        applyWait := none, parcels := changeFirst (fun e => e.state == .applying) (fun _ => none) s.lp.parcels }
      ∧ (endApplyWait id r s).pe = s.pe := by
  have hjq : (endApplyWait id r s).jq = (endCopy id r s).jq := rfl
  refine ⟨offerDone_endCopy hj ho hjq, (copyOf_congr hjq id).trans (copyOf_endCopy r hc), ?_, endCopy_pe r hcal⟩
  have hlp := endCopy_lp_of_applying r hp
  simp only [endApplyWait, removeApplying, mapParcels, hlp]

/-- What the end of an apply wait leaves alone. -/
theorem endApplyWait_keeps (id : CopyId) (r : CopyResult) (s : State) :
    (endApplyWait id r s).fm = s.fm ∧ (endApplyWait id r s).jl = s.jl ∧ (endApplyWait id r s).br = s.br
      ∧ (endApplyWait id r s).os = s.os := ⟨rfl, rfl, rfl, rfl⟩

/-- What TAKEN does at its rising edge (R188). -/
theorem exec_taken {s : State} (hp : s.powered = true) (ht : s.lp.taken = false) :
    exec .taken s = .next (takenRises { takeGeometry s with lp := { s.lp with taken := true } }) := by
  show execTaken s = _
  rw [execTaken, inEvent_of hp (by simp [ht])]
  rfl

/-- Settles O55: the presented label by the apply wait and by what it is. -/
theorem takenRemovesLabel : Obligations.TakenRemovesLabel := by
  unfold Obligations.TakenRemovesLabel
  refine ⟨fun s hp ht hw => ⟨fun hn => ?_, fun p hpr he hpa hm hc => ?_⟩,
    fun s w j hp hw hj ho ⟨c, hc⟩ hpar hcal => ⟨fun ht he hpa hm hcp => ?_, fun htimer => ?_⟩⟩
  · rw [exec_taken hp ht]
    have hn' : (takeGeometry s).pe.presented = none := (takeGeometry_pe s).2.2.2.2.1.trans hn
    simp only [takenRises, hw, hn']
  · intro hi pe forsaken
    have hx : exec .taken s = .next (takenPresented p { s with lp := { s.lp with taken := true } }) := by
      rw [exec_taken hp ht, takeGeometry_of_same hm hc]
      simp only [takenRises, hw, hpr]
    refine ⟨fun hwaste => ?_, fun id j c hwaste hid hj ho hcp hcal => ?_⟩
    · rw [hx, takenPresented, hwaste]
      exact congrArg Host.Outcome.next
        (removePresented_of_paused (s := { s with lp := { s.lp with taken := true } }) he hpa hm hc)
    · have hx2 : exec .taken s = .next (removePresented (wastePresented id
          { s with lp := { s.lp with taken := true } })) := by
        rw [hx, takenPresented, hwaste, hid]
        exact congrArg (fun u => Host.Outcome.next (removePresented u)) (offerDone_endCopy hj ho rfl)
      have hpe := endCopy_pe (s := { s with lp := { s.lp with taken := true } }) .wasted hcal
      have hwpe : (wastePresented id { s with lp := { s.lp with taken := true } }).pe = { s.pe with
          presented := s.pe.presented.map fun p => { p with waste := true } } := by
        rw [wastePresented, spoilPresented, hpe]
      have hss : (wastePresented id { s with lp := { s.lp with taken := true } }).ss = s.ss := by simp
      rw [removePresented_of_paused (by rw [hwpe]; exact he) (by rw [hwpe]; exact hpa)
        (by rw [hwpe, hss]; exact hm) (by rw [hwpe, hss]; exact hc), hwpe, hss] at hx2
      refine ⟨_, hx2, ?_, rfl, rfl, rfl, rfl, rfl, rfl, rfl⟩
      exact (copyOf_congr (s := endCopy id .wasted s) rfl id).trans (copyOf_endCopy .wasted hcp)
  · have hx : exec .taken s = .next (removePresented (offerDone w.copy.tag (endApplyWait w.copy .applied
        (withdrawPulse w { s with lp := { s.lp with taken := true } })))) := by
      rw [exec_taken hp ht, takeGeometry_of_same hm hcp]
      simp only [takenRises, hw]
    obtain ⟨-, fjl, fos, -, fjq, -, fbr, -, fhi, fpe, ffm, fss, -, -⟩ :=
      withdrawPulse_frame w { s with lp := { s.lp with taken := true } }
    have flp : (withdrawPulse w { s with lp := { s.lp with taken := true } }).lp = { s.lp with
        taken := true
        apply := { s.lp.apply with owed := if w.timer then s.lp.apply.owed else s.lp.apply.owed - 1 } } := by
      unfold withdrawPulse
      split
      · simp [*]
      · simp [*]
    generalize hu : withdrawPulse w { s with lp := { s.lp with taken := true } } = u at *
    obtain ⟨h1, h2, h3, h4⟩ := endApplyWait_spec (r := .applied) (s := u) (by rw [jobOf, fjq]; exact hj) ho
      ((copyOf_congr fjq _).trans hc) (by rw [flp]; exact hpar) (by rw [fpe]; exact hcal)
    rw [h1, removePresented_of_paused (by rw [h4, fpe]; exact he) (by rw [h4, fpe]; exact hpa)
        (by simpa [h4, fpe, fss] using hm) (by simpa [h4, fpe, fss] using hcp)] at hx
    refine ⟨_, _, hx, (copyOf_congr (s := endApplyWait w.copy .applied u) rfl _).trans h2, rfl, rfl, ?_, ?_, ?_, ?_,
      ?_, ?_⟩
    · exact h3.trans (by rw [flp])
    · simp only [h4, fpe]
    · simp [fjl]
    · simp [ffm]
    · simp [fbr]
    · simp [fos]
  · have hx : exec .applyWaitExpiry s = .next (offerDone w.copy.tag (endApplyWait w.copy .wasted
        (spoilPresented (raiseFault .applyTimeout (takeGeometry s))))) := by
      show execApplyWaitExpiry s = _
      rw [execApplyWaitExpiry, inEvent_of hp (by simp [hw, htimer])]
      simp only [takeGeometry_lp, hw, expireApplyWait]
    obtain ⟨gjl, gfm⟩ := raiseFault_congr (s := s) (t := takeGeometry s) .applyTimeout rfl rfl rfl
    have hraised := faultOf_raiseFault .applyTimeout (takeGeometry s)
    have hjq : (raiseFault .applyTimeout (takeGeometry s)).jq = s.jq := by simp
    have hlp : (raiseFault .applyTimeout (takeGeometry s)).lp = s.lp := by simp
    have hpe : (raiseFault .applyTimeout (takeGeometry s)).pe = (takeGeometry s).pe := by simp
    have hbr : (raiseFault .applyTimeout (takeGeometry s)).br = s.br := by simp
    have hos : (raiseFault .applyTimeout (takeGeometry s)).os = s.os := by simp
    generalize raiseFault .applyTimeout (takeGeometry s) = u at *
    obtain ⟨-, -, -, -, hpres, -, -, -, -, hcal', -⟩ := takeGeometry_pe s
    obtain ⟨h1, h2, h3, h4⟩ := endApplyWait_spec (r := .wasted) (s := spoilPresented u)
      (by simpa [jobOf, spoilPresented, hjq] using hj) ho
      ((copyOf_congr (s := s) (t := spoilPresented u) hjq _).trans hc) (by simpa [spoilPresented, hlp] using hpar)
      (by simpa [spoilPresented, hpe, hcal'] using hcal)
    obtain ⟨k1, k2, k3, k4⟩ := endApplyWait_keeps w.copy .wasted (spoilPresented u)
    have hflag := faultOf_congr (s := u) (t := endApplyWait w.copy .wasted (spoilPresented u)) k1 .applyTimeout
    rw [h1] at hx
    refine ⟨_, _, hx, h2, rfl, rfl, ?_, ?_, k1.trans gfm, k2.trans gjl, ?_, ?_, k3.trans hbr, k4.trans hos⟩
    · exact h3.trans (by simp only [spoilPresented, hlp])
    · exact h4.trans (by simp only [spoilPresented, hpe, hpres])
    · rw [hflag]
      exact hraised.1
    · rw [hflag]
      exact hraised.2

end Sys2Proof.Machine
end

section
/-! The FEED key and the FEED move (9.6, 9.8). -/

namespace Sys2Proof.Machine

/-! ## The notice of the one kind raised (R198) -/

/-- A fold in which one element alone acts, and nothing after it, is that element's act. -/
theorem foldl_of_only {σ κ : Type} {f : σ → κ → σ} {s : σ} {k : κ} (hother : ∀ j, j ≠ k → f s j = s)
    (hfix : ∀ j, f (f s k) j = f s k) {l : List κ} (hk : k ∈ l) : l.foldl f s = f s k := by
  induction l with
  | nil => cases hk
  | cons j l ih =>
    rw [List.foldl_cons]
    by_cases hj : j = k
    · rw [hj]
      exact List.foldl_fixed' hfix l
    · rw [hother j hj]
      exact ih ((List.mem_cons.1 hk).resolve_left (Ne.symm hj))

/-- Where one kind alone may owe its notice, that notice is all that is offered. -/
theorem offerNotices_of_only {s : State} (k : FaultKind) (h : ∀ j, j ≠ k → noticeOwed s j = false) :
    offerNotices s = offerNotice k s := by
  refine foldl_of_only (f := fun s k => offerNotice k s) (fun j hj => offerNotice_of_not_owed j s (h j hj))
    (fun j => ?_) (FaultKind.mem_all k)
  refine offerNotice_of_not_owed j _ ?_
  by_cases hj : j = k
  · rw [hj, noticeOwed_offerNotice_self]
  · rw [(noticeOwed_offerNotice_of_ne hj s).1, h j hj]

/-- The link and the flags after an event that raises one kind, where none owed a notice before: those of the kind
raised alone. -/
theorem offerNotices_of_raised {s u : State} (k : FaultKind) (hn : ∀ j, noticeOwed s j = false) (hjl : u.jl = s.jl)
    (hfm : u.fm = (raiseFlags k s).fm) (hss : u.ss = s.ss) :
    (offerNotices u).jl = (raiseFault k s).jl ∧ (offerNotices u).fm = (raiseFault k s).fm := by
  have hother : ∀ j, j ≠ k → noticeOwed u j = false := fun j hj => by
    have hf : faultOf u j = faultOf s j := by rw [faultOf_congr hfm, faultOf_raiseFlags, if_neg hj]
    rw [noticeOwed_congr hss hf (by rw [hjl]), hn j]
  have hraise : u = raiseFlags k { u with fm := s.fm } := by
    have : (raiseFlags k { u with fm := s.fm }).fm = (raiseFlags k s).fm := rfl
    show u = { u with fm := (raiseFlags k { u with fm := s.fm }).fm }
    rw [this, ← hfm]
  rw [offerNotices_of_only k hother]
  conv => rw [hraise]
  exact raiseFault_congr (s := s) (t := { u with fm := s.fm }) k hjl rfl hss

/-- Such an event leaves the kind raised active and latched. -/
theorem faultOf_offerNotices_of_raised {s u : State} (k : FaultKind) (hfm : u.fm = (raiseFlags k s).fm) :
    (faultOf (offerNotices u) k).active = true ∧ (faultOf (offerNotices u) k).latched = true := by
  obtain ⟨jl, fm, -, hf⟩ := offerNotices_noticed u
  have h := hf k
  rw [faultOf_congr hfm, faultOf_raiseFlags, if_pos rfl] at h
  exact h

/-! ## The engine becomes IDLE (R143, R149, R204) -/

/-- The head's registers when the engine becomes IDLE. -/
theorem enterIdle_hi (s : State) : (enterIdle s).hi = { s.hi with
    idleTimer := if s.hi.power = .on then some s.ss.settings.idle else s.hi.idleTimer } := by
  rw [enterIdle, takeGeometry_hi, startIdleTimer]
  split
  · simp [*]
  · simp [*]

/-- What the engine's registers keep when it becomes IDLE. -/
theorem enterIdle_pe (s : State) :
    (enterIdle s).pe.engine = .idle ∧ (enterIdle s).pe.position = s.pe.position ∧ (enterIdle s).pe.label = s.pe.label
      ∧ (enterIdle s).pe.presented = s.pe.presented ∧ (enterIdle s).pe.pause = s.pe.pause
      ∧ (enterIdle s).pe.sense = s.pe.sense ∧ (enterIdle s).pe.pitch = s.pe.pitch
      ∧ (enterIdle s).pe.feedMove = s.pe.feedMove := by
  have hpe : (startIdleTimer { s with pe := { s.pe with engine := .idle, stepTime := 0 } }).pe
      = { s.pe with engine := .idle, stepTime := 0 } := by
    unfold startIdleTimer
    split <;> rfl
  have h := takeGeometry_pe (startIdleTimer { s with pe := { s.pe with engine := .idle, stepTime := 0 } })
  obtain ⟨h1, h2, -, h4, h5, h6, -, h8, h9, -, h11⟩ := h
  rw [hpe] at h1 h2 h4 h5 h6 h8 h9 h11
  exact ⟨h1, h2, h4, h5, h6, h8, h9, h11⟩

/-- The stock is forgotten: uncalibrated, with no capture and no top known. -/
def Forgotten (pe : PrintEngine) : Prop :=
  pe.calibrated = false ∧ pe.tops = [] ∧ pe.lastCapture = none ∧ pe.lastGapStart = none

/-- No geometry that comes into use recalls a stock forgotten. -/
theorem Forgotten.takeGeometry {s : State} (h : Forgotten s.pe) : Forgotten (takeGeometry s).pe := by
  obtain ⟨h1, h2, h3, h4⟩ := h
  simp only [Forgotten, Machine.takeGeometry, applyGeometry, forgetStock]
  (repeat' split) <;> simp_all

theorem Forgotten.enterIdle {s : State} (h : Forgotten s.pe) : Forgotten (enterIdle s).pe := by
  refine Forgotten.takeGeometry ?_
  unfold startIdleTimer
  split <;> exact h

/-- The gap-lost guard with no label in progress ends a FEED move (R165). -/
theorem tripGuard_of_no_label {s : State} (h : s.pe.label = none) :
    tripGuard s = enterIdle { s with
      fm := (raiseFlags .mediaOut s).fm
      pe := { s.pe with
        lastCapture := none, lastGapStart := none, tops := [], calibrated := false, feedMove := none
        pause := { s.pe.pause with media := true } } } := by
  unfold tripGuard
  dsimp only
  split
  · rename_i l hl
    rw [show s.pe.label = some l from hl] at h
    cases h
  · rfl

/-! ## The FEED key (R166, R169) -/

/-- With MEDIA-OUT clear and no notice owed, the first part of a FEED press does nothing (R166). -/
theorem feedFirstPart_of_clear {s : State} (level : SensorLevel) (hm : (faultOf s .mediaOut).active = false)
    (hn : ∀ k, noticeOwed s k = false) : feedFirstPart level s = s := by
  have hread : readSensorForMediaOut level s = s := if_neg (by simp [hm])
  rw [feedFirstPart, hread, offerNotices_of_none_owed s hn]
  cases h : s.pe.pause.isEmpty with
  | false => exact resumeIfEmptied_of_paused h
  | true => exact resumeIfEmptied_of_running h

/-- A FEED press once the part has started (R169). -/
theorem exec_feedKey {s : State} (level : SensorLevel) (hp : s.powered = true) (h1 : s.ss.start ≠ .loading)
    (h2 : s.ss.start ≠ .startRdy) (hm : (faultOf s .mediaOut).active = false) (hn : ∀ k, noticeOwed s k = false) :
    exec (.feedKey level) s = .next (feedSecondPart (takeGeometry s)) := by
  show execFeedKey level s = _
  rw [execFeedKey, inEvent_of hp (by simp [started, h1, h2]),
    feedFirstPart_of_clear (s := takeGeometry s) level hm fun k => (noticeOwed_congr rfl rfl rfl).trans (hn k)]

/-- A FEED press during start-up is nothing (R167). -/
theorem exec_feedKey_of_starting {s : State} (level : SensorLevel)
    (h : s.ss.start = .loading ∨ s.ss.start = .startRdy) :
    exec (.feedKey level) s = .next s := by
  show execFeedKey level s = _
  exact inEvent_of_not (by rcases h with h | h <;> simp [started, h])

/-- A FEED press on an engine that is not IDLE is nothing (R169). -/
theorem feedSecondPart_of_busy {s : State} (h : s.pe.engine ≠ .idle) : feedSecondPart s = s :=
  if_neg fun hc => h hc.2.1

/-- A target ahead of the media is not reached. -/
theorem not_reached_of_lt {s : State} {x : Option Int} (h : ∀ m, x = some m → s.pe.position < m) :
    reached s x = false := by
  cases x with
  | none => rfl
  | some m => exact decide_eq_false (by have := h m rfl; omega)

/-- On sensed stock a FEED move goes to the next top (R169). -/
theorem moveTarget_of_sensed {s : State} (n : Int) (h : s.pe.stock ≠ .cont) : moveTarget s n = s.pe.tops.head? := by
  unfold moveTarget
  split
  · contradiction
  · rfl
  · rfl

/-- A FEED move on sensed stock has not ended while its target is unknown or ahead. -/
theorem not_reached_moveTarget {s : State} (n : Int) (hs : s.pe.stock ≠ .cont)
    (h : ∀ m, s.pe.tops.head? = some m → s.pe.position < m) : reached s (moveTarget s n) = false := by
  rw [moveTarget_of_sensed n hs]
  exact not_reached_of_lt h

/-- A FEED move on sensed stock begins (R169). -/
theorem startFeedMove_of_sensed {s : State} {n : Int} {tops : List Int} (hs : s.pe.stock ≠ .cont)
    (ht : s.pe.tops = n :: tops) (hm : ∀ m, tops.head? = some m → s.pe.position < m) :
    startFeedMove s = { s with
      hi := { s.hi with idleTimer := none }
      pe := { s.pe with
        engine := .feedingOut, tops := tops, feedMove := some n, stepTime := lineTime s } } := by
  unfold startFeedMove
  rw [ht]
  simp only [hs, if_false, stopIdleTimer]
  refine if_neg (Bool.eq_false_iff.1 (not_reached_moveTarget n ?_ ?_))
  · exact hs
  · exact hm

/-- A step leaves the top list, or puts behind it the top that a capture gives (R151). -/
theorem stepped_tops {level : SensorLevel} {pe pe' : PrintEngine} (h : Stepped level pe pe') :
    pe'.tops = pe.tops ∨ pe'.tops = pe.tops ++ [pe'.position + 96] := by
  simp only [Stepped] at h
  split at h
  · split at h
    · rw [h]
      exact .inl rfl
    · obtain ⟨n, rfl, -⟩ := h
      dsimp only
      split
      · exact .inr rfl
      · exact .inl rfl
  · rw [h]
    exact .inl rfl

/-- A step of a FEED move on sensed stock with its target ahead, where no notice was owed (R165, R169). -/
theorem feedMoveStep_of_stepped {level : SensorLevel} {s : State} {n : Int} {pe : PrintEngine}
    (hs : s.pe.stock ≠ .cont) (hpos : s.pe.position < 2147483647) (hn : ∀ k, noticeOwed s k = false)
    (h : Stepped level s.pe pe) :
    feedMoveStep level n s = if guardTrips { s with pe := pe } then
      testLabelStart (offerNotices (tripGuard { s with pe := pe })) else { s with pe := pe } := by
  have hstep := guardedStep_of_stepped hpos hn h
  obtain ⟨kpos, -, -, -, -, -, -, -, kstock⟩ := stepped_keeps h
  have hknown : (moveTarget s n).isSome = false → ∀ m, pe.tops.head? = some m → pe.position < m := by
    intro hk m hh
    rw [moveTarget_of_sensed n hs] at hk
    have hnil : s.pe.tops = [] := by cases ht : s.pe.tops with
      | nil => rfl
      | cons a l => simp [ht] at hk
    rcases stepped_tops h with ht | ht <;> rw [ht, hnil] at hh <;> simp at hh
    omega
  unfold feedMoveStep
  rw [hstep]
  cases guardTrips { s with pe := pe } with
  | true => simp only [if_true]
  | false =>
    simp only [Bool.false_eq_true, if_false]
    refine if_neg fun hc => ?_
    rw [not_reached_moveTarget (s := { s with pe := pe }) n (by simpa [kstock] using hs) (hknown hc.1)] at hc
    exact absurd hc.2 (by decide)

/-- A MEDIA_STEP of a FEED move short of its target (R169). -/
theorem exec_mediaStep_of_feedMove {s : State} {n : Int} (level : SensorLevel) (hp : s.powered = true)
    (he : s.pe.engine = .feedingOut) (hl : s.pe.label = none) (hf : s.pe.feedMove = some n)
    (hr : reached s (moveTarget s n) = false) :
    exec (.mediaStep level) s = .next (feedMoveStep level n s) := by
  show execMediaStep level s = _
  rw [execMediaStep, inEvent_of hp (by simp [he]), takeGeometry_of_busy (by simp [he]), moveStep]
  simp only [he, hl, hf, hr, Bool.false_eq_true, if_false]

/-- FEED_MOVE_COMPLETION at the move's target (R169). -/
theorem exec_feedMoveCompletion {s : State} {n : Int} (hp : s.powered = true) (he : s.pe.engine = .feedingOut)
    (hl : s.pe.label = none) (hf : s.pe.feedMove = some n) (hr : reached s (moveTarget s n) = true) :
    exec .feedMoveCompletion s = .next (endFeedMove s) := by
  show execFeedMoveCompletion s = _
  rw [execFeedMoveCompletion, inEvent_of hp (by simp [he, hl]), takeGeometry_of_busy (by simp [he])]
  simp only [hf, hr, if_true]

/-- Settles O44: the FEED key, the steps of its move, the guard, and the move's end. -/
theorem feedKeyMovesMedia : Obligations.FeedKeyMovesMedia := by
  unfold Obligations.FeedKeyMovesMedia
  refine ⟨fun s level hp hm hn => ?_, fun s n m hp he hl hf hs ht hle hhold hmed hpit => ?_,
    fun s n level hp he hl hf hs hm hpos hn => ?_⟩
  · intro s0
    refine ⟨fun n tops h1 h2 he hpr hpm hcal hst ht hlt => ?_, fun he => ?_, exec_feedKey_of_starting level⟩
    · obtain ⟨ke, kpos, -, -, kpr, kpa, -⟩ := takeGeometry_pe s
      rw [exec_feedKey level hp h1 h2 hm hn, feedSecondPart,
        if_pos ⟨kpr.trans hpr, ke.trans he, (congrArg PauseSet.media kpa).trans hpm⟩, if_pos hcal]
      exact congrArg Host.Outcome.next (startFeedMove_of_sensed hst ht fun m hh => by rw [kpos]; exact hlt m hh)
    · by_cases hst : s.ss.start = .loading ∨ s.ss.start = .startRdy
      · exact exec_feedKey_of_starting level hst
      · rw [not_or] at hst
        rw [exec_feedKey level hp hst.1 hst.2 hm hn, takeGeometry_of_busy he, feedSecondPart_of_busy he]
  · have hr : reached s (moveTarget s n) = true := by
      rw [moveTarget_of_sensed n hs, ht]
      exact decide_eq_true hle
    rw [exec_feedMoveCompletion hp he hl hf hr, endFeedMove,
      enterIdle_of_same (s := { s with pe := { s.pe with feedMove := none } }) hmed hpit]
    refine congrArg Host.Outcome.next ?_
    rcases hhold with h | h
    · exact testLabelStart_of_presented h
    · exact testLabelStart_of_paused h
  · intro lost
    have hx := exec_mediaStep_of_feedMove level hp he hl hf (not_reached_moveTarget n hs hm)
    have htrip : ∀ pe, Stepped level s.pe pe → (guardTrips { s with pe := pe } = true ↔ lost pe) := by
      intro pe h
      obtain ⟨kpos, ke, kl, kf, -, kpitch, -, -, kstock⟩ := stepped_keeps h
      simp only [guardTrips, guardedTop, kpos, ke, kl, kf, kpitch, kstock, he, hl, hf, lost, guardLimit]
      simp [hs, and_assoc]
    refine ⟨fun pe h hnl => ?_, fun pe h hlost => ?_⟩
    · rw [hx, feedMoveStep_of_stepped hs hpos hn h, if_neg fun hg => hnl ((htrip pe h).1 hg)]
    · rw [feedMoveStep_of_stepped hs hpos hn h, if_pos ((htrip pe h).2 hlost)] at hx
      obtain ⟨kpos, ke, kl, kf, kpause, kpitch, ksense, kcal, kstock⟩ := stepped_keeps h
      rw [tripGuard_of_no_label (kl.trans hl)] at hx
      generalize hu : ({ ({ s with pe := pe } : State) with
        fm := (raiseFlags .mediaOut { s with pe := pe }).fm
        pe := { pe with
          lastCapture := none, lastGapStart := none, tops := [], calibrated := false, feedMove := none
          pause := { pe.pause with media := true } } } : State) = u at hx
      have hforgot : Forgotten (enterIdle u).pe := Forgotten.enterIdle (by rw [← hu]; exact ⟨rfl, rfl, rfl, rfl⟩)
      obtain ⟨g1, g2, g3, g4, g5, g6, g7, g8⟩ := enterIdle_pe u
      have hpe : u.pe = { pe with
          lastCapture := none, lastGapStart := none, tops := [], calibrated := false, feedMove := none
          pause := { pe.pause with media := true } } := by rw [← hu]
      have hfm : u.fm = (raiseFlags .mediaOut s).fm := by rw [← hu]; rfl
      have hrest : u.jl = s.jl ∧ u.jq = s.jq ∧ u.lp = s.lp ∧ u.hi = s.hi ∧ u.ss = s.ss := by
        rw [← hu]
        exact ⟨rfl, rfl, rfl, rfl, rfl⟩
      obtain ⟨hjl, hjq, hlp, hhi, hss⟩ := hrest
      have hhi' := enterIdle_hi u
      rw [hhi, hss] at hhi'
      have hjl' : (enterIdle u).jl = s.jl := by simp [hjl]
      have hfm' : (enterIdle u).fm = (raiseFlags .mediaOut s).fm := by simp [hfm]
      have hss' : (enterIdle u).ss = s.ss := by simp [hss]
      have hjq' : (enterIdle u).jq = s.jq := by simp [hjq]
      have hlp' : (enterIdle u).lp = s.lp := by simp [hlp]
      rw [hpe] at g2 g3 g5 g6 g7 g8
      generalize enterIdle u = v at *
      rw [testLabelStart_of_paused (by simp [g5, PauseSet.isEmpty])] at hx
      obtain ⟨hflag1, hflag2⟩ := faultOf_offerNotices_of_raised .mediaOut hfm'
      obtain ⟨hreport, -⟩ := offerNotices_of_raised .mediaOut hn hjl' hfm' hss'
      obtain ⟨f1, f2, f3, f4⟩ := hforgot
      have kpe : (offerNotices v).pe = v.pe := by simp
      refine ⟨_, hx, ?_, ?_, ?_, ?_, ?_, ?_, ?_, ?_, ?_, ?_, ?_, ?_, hflag1, hflag2, hreport, ?_, ?_⟩
      · rw [kpe, g1]
      · rw [kpe, g8]
      · rw [kpe, g3]; exact kl.trans hl
      · rw [kpe, f1]
      · rw [kpe, f2]
      · rw [kpe, f3]
      · rw [kpe, f4]
      · rw [kpe, g2]; exact kpos
      · rw [kpe, g7]; exact kpitch
      · rw [kpe, g6]; exact ksense
      · rw [kpe, g5, kpause]
      · simp [hhi']
      · simp [hjq']
      · simp [hlp']

end Sys2Proof.Machine
end

section
/-! Calibration (9.3). -/

namespace Sys2Proof.Machine

/-! ## Starts (R153) -/

/-- A calibration of sensed stock begins with the stock forgotten and the idle timer stopped (R153). -/
theorem startCalibration_eq (origin : CalOrigin) (copy : Option CopyId) (s : State) :
    startCalibration origin copy s = { s with
      hi := { s.hi with idleTimer := none }
      pe := { s.pe with
        engine := .calibrating, calibrated := false, violations := 0, stepTime := 1250, lastCapture := none
        lastGapStart := none, tops := []
        cal := some { origin := origin, copy := copy, steps := 0, edges := [] } } } := rfl

/-- CAL taken (R153). -/
theorem exec_cal {s : State} (h : Takes .cal formNone () s) : exec .cal s = .next (takeCal () (removeRecord s)) := by
  show execCal s = _
  rw [execCal, onRecord_of_takes h]

/-- GO taken (R167, R168). -/
theorem exec_go {s : State} (h : Takes .go formNone () s) :
    exec .go s = .next (removeReason .host (removeRecord s)) := by
  show execGo s = _
  rw [execGo, onRecord_of_takes h]

/-- The label start condition holds of a copy (R156). -/
theorem startableCopy_of_ready {s : State} {id : CopyId} (he : s.pe.engine = .idle) (hpr : s.pe.presented = none)
    (hpa : s.pe.pause.isEmpty = true) (hc : nextPrintCopy s = some id) (hr : renderReady s id = true)
    (hb : s.lp.on = true → s.ss.settings.mode = .trigger → ∃ c, copyOf s id = some c ∧ c.bound = true) :
    startableCopy s = some id := by
  have hbound : s.lp.on = true → s.ss.settings.mode = .trigger → ((copyOf s id).any fun c => c.bound) = true := by
    intro h1 h2
    obtain ⟨c, hc, hcb⟩ := hb h1 h2
    rw [hc]
    exact hcb
  simp only [startableCopy, he, hpr, hpa, hc, hr, true_and, if_true]
  rw [if_pos hbound]

/-- The label start on an uncalibrated engine of sensed stock begins a calibration for the copy (R153, R156). -/
theorem testLabelStart_of_uncalibrated {s : State} {id : CopyId} (h : startableCopy s = some id)
    (hc : s.pe.calibrated = false) (hf : (faultOf s .calFail).active = false) (hs : s.pe.stock ≠ .cont) :
    testLabelStart s = startCalibration .auto (some id) s := by
  simp only [testLabelStart, h, hc, hf, hs, Bool.false_eq_true, if_false]

/-! ## Steps (R154, R155) -/

/-- The calibration after a step that ends with a sensor level (R154). -/
def Calibration.stepped (level : SensorLevel) (pe : PrintEngine) (c : Calibration) : Calibration :=
  { c with
    steps := c.steps + 1
    edges := if pe.furthest < pe.position + 1 ∧ level ≠ pe.sensor ∧ pe.stock ≠ .cont then
      c.edges ++ [{ position := pe.position + 1, level := level }] else c.edges }

/-- The engine's registers after a step without an edge taken (R150). -/
def PrintEngine.moved (level : SensorLevel) (pe : PrintEngine) : PrintEngine :=
  { pe with position := pe.position + 1, furthest := max pe.furthest (pe.position + 1), sensor := level }

/-- A step of a calibration counts, records its edge and is judged (R154, R155). -/
theorem calibrationStep_eq {s : State} (level : SensorLevel) (c : Calibration) (hp : s.pe.position < 2147483647) :
    calibrationStep level c s =
      if (c.stepped level s.pe).judge = .failed then
        testLabelStart (failCalibration (c.stepped level s.pe) { s with pe := s.pe.moved level })
      else { s with pe := { s.pe.moved level with cal := some (c.stepped level s.pe) } } := by
  have hedge : stepShowsEdge level s
      = decide (s.pe.furthest < s.pe.position + 1 ∧ level ≠ s.pe.sensor ∧ s.pe.stock ≠ .cont) := by
    rw [Bool.eq_iff_iff]
    simp [stepShowsEdge, positionAfter_of_lt hp, and_assoc]
  unfold calibrationStep
  simp only [hedge, stepMedia, positionAfter_of_lt hp, decide_eq_true_eq]
  simp only [Calibration.stepped, PrintEngine.moved]
  split <;> simp_all

/-- A MEDIA_STEP of a calibration still under way (R154). -/
theorem exec_mediaStep_of_calibration {s : State} {c : Calibration} (level : SensorLevel) (hp : s.powered = true)
    (he : s.pe.engine = .calibrating) (hc : s.pe.cal = some c) (ha : calibrationArrived s c = false) :
    exec (.mediaStep level) s = .next (calibrationStep level c s) := by
  show execMediaStep level s = _
  rw [execMediaStep, inEvent_of hp (by simp [he]), takeGeometry_of_busy (by simp [he]), moveStep]
  simp only [he, hc, ha, Bool.false_eq_true, if_false]

/-- When a calibration has failed (R154, R155). -/
theorem judge_eq_failed_iff (c : Calibration) :
    c.judge = .failed ↔
      (3 ≤ c.edges.length ∧ c.gapLevel = none)
        ∨ (∃ a b, c.captures = some (a, b) ∧ (b - a < 104 ∨ 2400 < b - a))
        ∨ (c.captures = none ∧ 3000 ≤ c.steps) := by
  have hnone : c.gapLevel = none → c.captures = none := fun h => by simp only [Calibration.captures, h]
  have hlim : Config.calLimit = 3000 := rfl
  cases hg : c.gapLevel with
  | none =>
    simp only [Calibration.judge, hg, hnone hg, hlim]
    split <;> simp_all
  | some g =>
    cases hc : c.captures with
    | none =>
      simp only [Calibration.judge, hg, hc, hlim]
      split <;> simp_all
    | some x =>
      obtain ⟨a, b⟩ := x
      simp only [Calibration.judge, hg, hc]
      split
      · rename_i h
        simp only [reduceCtorEq, and_false, Option.some.injEq, Prod.mk.injEq, false_and, or_false, false_or, false_iff]
        rintro ⟨a', b', ⟨rfl, rfl⟩, h'⟩
        omega
      · rename_i h
        simp only [reduceCtorEq, and_false, Option.some.injEq, Prod.mk.injEq, false_and, or_false, false_or, true_iff]
        exact ⟨a, b, ⟨rfl, rfl⟩, by omega⟩

/-- A calibration that has found the stock has found a pitch in range (R154). -/
theorem pitch_of_found {c : Calibration} {a b : Int} {g : SensorLevel} (h : c.judge = .found a b g) :
    104 ≤ b - a ∧ b - a ≤ 2400 := by
  unfold Calibration.judge at h
  split at h
  · split at h
    · cases h
      assumption
    · cases h
  · split at h <;> cases h
  · split at h <;> cases h

/-! ## Its end (R154, R155) -/

/-- A quiet report offered: the link depends on the link and the routes alone. -/
theorem offerReport_quiet_jl {r : Report} {s t : State} (hr : r.quiet = true) (h : t.jl = s.jl) (hss : t.ss = s.ss) :
    (offerReport r t).jl = (offerReport r s).jl := by
  unfold offerReport
  rw [h]
  split
  · exact enterReport_quiet_jl hr h hss
  · rfl

/-- CALIBRATION_SUCCESS 96 steps beyond s2, where a pause reason holds back a label (R154). -/
theorem exec_calibrationSuccess {s : State} {c : Calibration} {a b : Int} {g : SensorLevel} (hp : s.powered = true)
    (he : s.pe.engine = .calibrating) (hc : s.pe.cal = some c) (hj : c.judge = .found a b g)
    (hle : b + 96 ≤ s.pe.position) (hpa : s.pe.pause.isEmpty = false) :
    exec .calibrationSuccess s = .next (succeedCalibration a b g s) := by
  have harr : calibrationArrived s c = true := by
    simp only [calibrationArrived, hj]
    exact decide_eq_true hle
  show execCalibrationSuccess s = _
  rw [execCalibrationSuccess, inEvent_of hp (by simp [he]), takeGeometry_of_busy (by simp [he])]
  simp only [hc, harr, hj, if_true]
  refine congrArg Host.Outcome.next (testLabelStart_of_paused ?_)
  simp [succeedCalibration, endCondition, setFault, hpa]

/-- A calibration that fails, before its copy does (R155). -/
def calibrationFailed (s : State) : State :=
  offerReport (.cal none)
    (raiseFault .calFail (enterIdle { s with pe := { s.pe with cal := none, calibrated := false } }))

/-- The failure of a calibration that has no copy (R155). -/
theorem failCalibration_of_no_copy {c : Calibration} (h : c.copy = none) (s : State) :
    failCalibration c s = calibrationFailed s := by
  simp only [failCalibration, h]
  rfl

/-- The failure of a calibration made for a copy not yet printed (R155). -/
theorem failCalibration_of_copy {c : Calibration} {s : State} {id : CopyId} {k : Copy} (h : c.copy = some id)
    (hk : copyOf (calibrationFailed s) id = some k) (hs : k.state = .rendering ∨ k.state = .rendered) :
    failCalibration c s = offerDone id.tag (endUnprinted id .failed (calibrationFailed s)) := by
  have hany : ((copyOf (calibrationFailed s) id).any fun k => k.state == .rendering || k.state == .rendered)
      = true := by
    rw [hk]
    rcases hs with hs | hs <;> simp [hs]
  simp only [failCalibration, h]
  exact if_pos hany

/-- What follows the failure proper is the end of the calibration's copy at most. -/
theorem failCalibration_cases (c : Calibration) (s : State) :
    failCalibration c s = calibrationFailed s
      ∨ ∃ id, failCalibration c s = offerDone id.tag (endUnprinted id .failed (calibrationFailed s)) := by
  unfold failCalibration
  dsimp only
  split
  · exact .inl rfl
  · split
    · exact .inr ⟨_, rfl⟩
    · exact .inl rfl

/-- The failure proper, with the settings' geometry in use (R155). -/
theorem calibrationFailed_spec {s : State} (hm : s.ss.settings.media = s.pe.stock)
    (hp : s.ss.settings.pitch = s.pe.contPitch) :
    (calibrationFailed s).pe = { s.pe with cal := none, calibrated := false, engine := .idle, stepTime := 0 }
      ∧ (faultOf (calibrationFailed s) .calFail).active = true
      ∧ (faultOf (calibrationFailed s) .calFail).latched = true
      ∧ (calibrationFailed s).jl = (offerReport (.cal none) (raiseFault .calFail s)).jl
      ∧ (calibrationFailed s).jq = s.jq ∧ (calibrationFailed s).br = s.br := by
  have hidle : (enterIdle { s with pe := { s.pe with cal := none, calibrated := false } }).pe
      = { s.pe with cal := none, calibrated := false, engine := .idle, stepTime := 0 } := by
    rw [enterIdle_of_same (s := { s with pe := { s.pe with cal := none, calibrated := false } }) hm hp]
  have hrest : ∀ u, u = enterIdle { s with pe := { s.pe with cal := none, calibrated := false } } →
      u.jl = s.jl ∧ u.jq = s.jq ∧ u.br = s.br ∧ u.fm = s.fm ∧ u.ss = s.ss := by
    rintro u rfl
    simp
  unfold calibrationFailed
  generalize hu : enterIdle { s with pe := { s.pe with cal := none, calibrated := false } } = u at hidle
  obtain ⟨hjl, hjq, hbr, hfm, hss⟩ := hrest u hu.symm
  obtain ⟨hraised1, hraised2⟩ := faultOf_raiseFault .calFail u
  obtain ⟨hrjl, -⟩ := raiseFault_congr .calFail hjl hfm hss
  have hflags := faultOf_congr (s := raiseFault .calFail u) (t := offerReport (.cal none) (raiseFault .calFail u))
    (by simp) .calFail
  refine ⟨by simpa using hidle, ?_, ?_, offerReport_quiet_jl rfl hrjl (by simp [hss]), by simp [hjq], by simp [hbr]⟩
  · rw [hflags, hraised1]
  · rw [hflags, hraised2]

/-- The end of a copy not yet printed leaves PE as it is where no calibration runs. -/
theorem endUnprinted_pe {s : State} (id : CopyId) (r : CopyResult) (h : s.pe.cal = none) :
    (endUnprinted id r s).pe = s.pe := by
  obtain ⟨-, -, -, -, -, -, hpe⟩ := releaseCopy_keeps id (endCopy id r s)
  exact hpe.trans (endCopy_pe r fun x hx => absurd (hx.symm.trans h) (by simp))

/-- A failing calibration, whatever its copy (R155). -/
theorem failCalibration_spec {s : State} (c : Calibration) (hm : s.ss.settings.media = s.pe.stock)
    (hp : s.ss.settings.pitch = s.pe.contPitch) :
    (failCalibration c s).pe = { s.pe with cal := none, calibrated := false, engine := .idle, stepTime := 0 }
      ∧ (faultOf (failCalibration c s) .calFail).active = true
      ∧ (faultOf (failCalibration c s) .calFail).latched = true := by
  obtain ⟨hpe, h1, h2, -⟩ := calibrationFailed_spec hm hp
  rcases failCalibration_cases c s with h | ⟨id, h⟩
  · rw [h]
    exact ⟨hpe, h1, h2⟩
  · have hflags := faultOf_congr (s := calibrationFailed s) (t := failCalibration c s) (by rw [h]; simp) .calFail
    rw [hflags]
    refine ⟨?_, h1, h2⟩
    have hend := endUnprinted_pe (s := calibrationFailed s) id .failed (by rw [hpe])
    rw [h, (offerDone_frame _ _).2.2.2.2.2.2.1, hend, hpe]

/-- A success with the settings' geometry in use (R154). -/
theorem succeedCalibration_spec {s : State} (a b : Int) (g : SensorLevel) (hm : s.ss.settings.media = s.pe.stock)
    (hp : s.ss.settings.pitch = s.pe.contPitch) :
    ∃ t, succeedCalibration a b g s = t
      ∧ t.pe = { s.pe with
        pitch := (b - a).toNat, sense := if g = .low then .lowGap else .highGap, calibrated := true
        lastCapture := some b, tops := [b + 96], cal := none, engine := .idle, stepTime := 0 }
      ∧ t.hi = { s.hi with idleTimer := if s.hi.power = .on then some s.ss.settings.idle else s.hi.idleTimer }
      ∧ (faultOf t .calFail).active = false ∧ t.jl = (offerReport (.cal (some (b - a).toNat)) s).jl
      ∧ t.jq = s.jq ∧ t.br = s.br ∧ t.lp = s.lp ∧ t.os = s.os := by
  have hsense : Sense.ofLevel g = if g = .low then .lowGap else .highGap := by cases g <;> rfl
  refine ⟨_, rfl, ?_⟩
  simp only [succeedCalibration]
  generalize hu : endCondition .calFail { s with pe := { s.pe with
    pitch := (b - a).toNat, sense := Sense.ofLevel g, calibrated := true, lastCapture := some b,
    tops := [b + Config.soff], cal := none } } = u
  have hrest : u.jl = s.jl ∧ u.jq = s.jq ∧ u.br = s.br ∧ u.lp = s.lp ∧ u.os = s.os ∧ u.hi = s.hi ∧ u.ss = s.ss
      ∧ u.pe = { s.pe with
        pitch := (b - a).toNat, sense := if g = .low then .lowGap else .highGap, calibrated := true
        lastCapture := some b, tops := [b + 96], cal := none } := by
    rw [← hu, ← hsense]
    exact ⟨rfl, rfl, rfl, rfl, rfl, rfl, rfl, rfl⟩
  have hflag : (faultOf u .calFail).active = false := by
    rw [← hu, endCondition, faultOf_setFault, if_pos rfl]
  obtain ⟨hjl, hjq, hbr, hlp, hos, hhi, hss, hpe⟩ := hrest
  have hpitch : u.pe.pitch = (b - a).toNat := by rw [hpe]
  rw [hpitch]
  have hreport := offerReport_quiet_jl (r := .cal (some (b - a).toNat)) rfl hjl hss
  obtain ⟨-, vos, -, vjq, -, vbr, -, vhi, vpe, vlp, vfm, vss, -⟩ :=
    offerReport_quiet_frame (r := .cal (some (b - a).toNat)) rfl u
  generalize offerReport (.cal (some (b - a).toNat)) u = v at *
  rw [enterIdle_of_same (by rw [vss, hss, vpe, hpe]; exact hm) (by rw [vss, hss, vpe, hpe]; exact hp)]
  refine ⟨?_, ?_, ?_, hreport, vjq.trans hjq, vbr.trans hbr, vlp.trans hlp, vos.trans hos⟩
  · rw [vpe, hpe]
  · rw [vhi, hhi, vss, hss]
  · rw [← hflag]
    exact congrArg FaultRecord.active (faultOf_congr (s := u) vfm .calFail)

/-- Settles O43: a calibration's starts, its steps, its judgement, its failure and its success. -/
theorem calibrationLearnsPitch : Obligations.CalibrationLearnsPitch := by
  unfold Obligations.CalibrationLearnsPitch
  intro begun
  refine ⟨fun s h => ?_, fun s level hp hm hn h1 h2 he hpr hcal hunc hst => ?_,
    fun s id h he hpr hpa hc hr hb hf => ?_, fun s c level hp he hc ha hpos => ?_, judge_eq_failed_iff,
    fun s c a b g hp he hc hj hle hpa hmed hpit => ?_⟩
  · intro s0
    obtain ⟨ke, kpos, -, -, kpr, kpa, -⟩ := takeGeometry_pe s
    rw [exec_cal h]
    refine ⟨fun he hpr hcal hst => ?_, fun he hpr hcal hst hpa => ?_, fun hno => ?_⟩
    · have hgo : (removeRecord s).pe.engine = .idle ∧ (removeRecord s).pe.presented = none
          ∧ calibrationAllowed (removeRecord s).pe.pause = true :=
        ⟨ke.trans he, kpr.trans hpr, (congrArg calibrationAllowed kpa).trans hcal⟩
      rw [takeCal, if_pos hgo, if_neg hst]
      rfl
    · have hgo : (removeRecord s).pe.engine = .idle ∧ (removeRecord s).pe.presented = none
          ∧ calibrationAllowed (removeRecord s).pe.pause = true :=
        ⟨ke.trans he, kpr.trans hpr, (congrArg calibrationAllowed kpa).trans hcal⟩
      rw [takeCal, if_pos hgo, if_pos hst, ← kpos]
      refine congrArg Host.Outcome.next (testLabelStart_of_paused ?_)
      have : (contCalibrate (removeRecord s)).pe.pause = s.pe.pause := by simp [contCalibrate, endCondition, setFault]
      rw [this, hpa]
    · have hgo : ¬ ((removeRecord s).pe.engine = .idle ∧ (removeRecord s).pe.presented = none
          ∧ calibrationAllowed (removeRecord s).pe.pause = true) := by
        rintro ⟨g1, g2, g3⟩
        rcases hno with hno | hno | hno
        · exact hno (ke.symm.trans g1)
        · exact hno (kpr.symm.trans g2)
        · have := (congrArg calibrationAllowed kpa).symm.trans g3
          rw [hno] at this
          cases this
      rw [takeCal, if_neg hgo]
      rfl
  · obtain ⟨ke, -, -, -, kpr, kpa, -⟩ := takeGeometry_pe s
    have hmedia : s.pe.pause.media = false := by
      simp only [calibrationAllowed, Bool.and_eq_true, Bool.not_eq_true'] at hcal
      exact hcal.1.2
    rw [exec_feedKey level hp h1 h2 hm hn, feedSecondPart,
      if_pos ⟨kpr.trans hpr, ke.trans he, (congrArg PauseSet.media kpa).trans hmedia⟩,
      if_neg (Bool.eq_false_iff.1 hunc), if_pos ((congrArg calibrationAllowed kpa).trans hcal), if_neg hst]
    rfl
  · intro s0 hunc hst
    obtain ⟨ke, -, -, -, kpr, kpa, -⟩ := takeGeometry_pe s
    have hx : exec .go s = .next (removeReason .host s0) := exec_go h
    have hpause : s0.pe.pause = { host := true } := kpa.trans hpa
    have hdrop : dropReason .host s0 = { s0 with pe := { s0.pe with pause := {} } } := by
      rw [dropReason, hpause]
      rfl
    have hstart : startableCopy { s0 with pe := { s0.pe with pause := {} } } = some id :=
      startableCopy_of_ready (s := { s0 with pe := { s0.pe with pause := {} } }) (ke.trans he) (kpr.trans hpr) rfl hc
        hr hb
    rw [hx, removeReason, hdrop, resumeIfEmptied_of_emptied (by rw [hpause]; rfl) rfl]
    have hresume : resume { s0 with pe := { s0.pe with pause := {} } }
        = testLabelStart { s0 with pe := { s0.pe with pause := {} } } := by
      have : s0.pe.engine = .idle := ke.trans he
      simp only [resume, this]
    rw [hresume]
    exact congrArg Host.Outcome.next (testLabelStart_of_uncalibrated hstart hunc hf hst)
  · intro p edge c'
    have hx := exec_mediaStep_of_calibration level hp he hc ha
    rw [calibrationStep_eq level c hpos] at hx
    refine ⟨fun hj => ?_, fun hj hpa hmed hpit => ?_⟩
    · have hj' : (c.stepped level s.pe).judge ≠ .failed := hj
      rw [hx, if_neg hj']
      rfl
    · have hj' : (c.stepped level s.pe).judge = .failed := hj
      rw [if_pos hj'] at hx
      obtain ⟨hpe, h1, h2⟩ := failCalibration_spec (s := { s with pe := s.pe.moved level }) (c.stepped level s.pe)
        hmed hpit
      obtain ⟨gpe, -, -, gjl, gjq, gbr⟩ := calibrationFailed_spec (s := { s with pe := s.pe.moved level }) hmed hpit
      rw [testLabelStart_of_paused (by rw [hpe]; exact hpa)] at hx
      refine ⟨_, hx, hpe, h1, h2, fun hcopy => ?_, fun id j k hcopy hjob ho hk hks => ?_⟩
      · rw [failCalibration_of_no_copy (c := c.stepped level s.pe) hcopy]
        have hrjl := (raiseFault_congr (s := s) (t := { s with pe := s.pe.moved level }) .calFail rfl rfl rfl).1
        exact ⟨gjl.trans (offerReport_quiet_jl rfl hrjl (by simp)), gjq, gbr⟩
      · have hk' := (copyOf_congr gjq id).trans hk
        have hj' : jobOf (calibrationFailed { s with pe := s.pe.moved level }) id.tag = some j := by
          rw [jobOf, gjq]
          exact hjob
        rw [failCalibration_of_copy (c := c.stepped level s.pe) hcopy hk' hks, offerDone_endUnprinted hj' ho]
        exact copyOf_endUnprinted .failed hk'
  · obtain ⟨t, ht, hrest⟩ := succeedCalibration_spec a b g hmed hpit
    obtain ⟨hlo, hhi⟩ := pitch_of_found hj
    exact ⟨t, ht ▸ exec_calibrationSuccess hp he hc hj hle hpa, hlo, hhi, hrest⟩

end Sys2Proof.Machine
end

section
/-! The label start and the events that test for one (9.4). -/

namespace Sys2Proof.Machine

/-! ## The dots of a band (R96) -/

/-- The advance of a glyph depends on the store and the power-on alone. -/
theorem glyphAdvance_congr {s t : State} (ho : t.os = s.os) (hf : t.fresh = s.fresh) (font : EntryRef) (code : Nat) :
    glyphAdvance t font code = glyphAdvance s font code := by
  cases font <;> simp only [glyphAdvance, glyphEntry, objectByte_congr ho hf, drawnCode_congr ho hf]

/-- So do the dots of a glyph. -/
theorem glyphDot_congr {s t : State} (ho : t.os = s.os) (hf : t.fresh = s.fresh) (font : EntryRef) (code a b : Nat) :
    glyphDot t font code a b = glyphDot s font code a b := by
  have hcols : glyphColumns t font code = glyphColumns s font code := by
    cases font <;> simp only [glyphColumns, glyphEntry, objectByte_congr ho hf, drawnCode_congr ho hf]
  unfold glyphDot
  dsimp only
  rw [hcols, fontHeight_congr ho hf, drawnCode_congr ho hf]
  cases font with
  | rom _ => rfl
  | ram _ => simp only [bitmapDot, glyphEntry, objectByte_congr ho hf, objectNumber_congr ho hf]

/-- So do the dots of a graphic. -/
theorem graphicDot_congr {s t : State} (ho : t.os = s.os) (hf : t.fresh = s.fresh) (g : EntryRef) (a b : Nat) :
    graphicDot t g a b = graphicDot s g a b := by
  cases g <;> simp only [graphicDot, bitmapDot, objectByte_congr ho hf, objectNumber_congr ho hf]

/-- So do the dots of a line of text. -/
theorem textMarks_congr {s t : State} (ho : t.os = s.os) (hf : t.fresh = s.fresh) (font : EntryRef) (mx my : Nat)
    (x : Text) (u v : Nat) : textMarks t font mx my x u v = textMarks s font mx my x u v := by
  induction x generalizing u with
  | nil => rfl
  | cons c cs ih => simp only [textMarks, glyphAdvance_congr ho hf, glyphDot_congr ho hf, ih]

/-- So do the dots of a field's frame. -/
theorem frameMarks_congr {s t : State} (ho : t.os = s.os) (hf : t.fresh = s.fresh) (f : LaidField) (u v : Nat) :
    frameMarks t f u v = frameMarks s f u v := by
  simp only [frameMarks, textMarks_congr ho hf, graphicDot_congr ho hf]

/-- So do the lines composed for a band. -/
theorem composeBand_congr {s t : State} (ho : t.os = s.os) (hf : t.fresh = s.fresh) (c : RenderContext) (b u : Nat) :
    composeBand t c b u = composeBand s c b u := by
  simp only [composeBand, labelLine, labelDot, inDotSet, frameMarks_congr ho hf]

/-! ## The label start (R126, R156, R157) -/

/-- A change of one job that keeps its tag and its format leaves every job's format. -/
theorem find_updateFirst_format {tag t : Nat} {f : Job → Job} (hf : ∀ j, (f j).tag = j.tag ∧ (f j).format = j.format)
    (l : List Job) : ((updateFirst tag f l).find? fun j => j.tag == t).map Job.format
      = (l.find? fun j => j.tag == t).map Job.format := by
  induction l with
  | nil => rfl
  | cons x l ih =>
    simp only [updateFirst]
    split
    · simp only [List.find?_cons, (hf x).1]
      split
      · exact congrArg some (hf x).2
      · rfl
    · simp only [List.find?_cons]
      split
      · rfl
      · exact ih

/-- A copy's label length is that of the format its job pinned (R36). -/
theorem copyLength_eq (s : State) (i : CopyId) : copyLength s i
    = (((jobOf s i.tag).map Job.format).bind fun e => (pinnedFormat s e).map (·.length)).getD 0 := by
  unfold copyLength
  cases jobOf s i.tag <;> rfl

/-- It depends on the store and on the jobs' formats alone. -/
theorem copyLength_congr {s t : State} (hos : t.os = s.os) {i : CopyId}
    (hjob : (jobOf t i.tag).map Job.format = (jobOf s i.tag).map Job.format) : copyLength t i = copyLength s i := by
  have hpin : ∀ e, pinnedFormat t e = pinnedFormat s e := fun e => by
    cases e with
    | rom _ => rfl
    | ram n => simp only [pinnedFormat, ramEntry, hos]
  simp only [copyLength_eq, hjob, hpin]

/-- It is the same whatever state the copy is in. -/
theorem copyLength_setCopyState (id : CopyId) (st : CopyState) (s : State) (i : CopyId) :
    copyLength (setCopyState id st s) i = copyLength s i :=
  copyLength_congr (s := s) (t := setCopyState id st s) (i := i) rfl (find_updateFirst_format
    (f := fun j => { j with
      copies := j.copies.map fun c => if c.number = id.number then { c with state := st } else c })
    (fun _ => ⟨rfl, rfl⟩) s.jq.jobs)

/-- Whether a copy may start depends on the jobs, the bands, the store, the port, the settings, and the engine's state.
-/
theorem startableCopy_congr {s t : State} (hjq : t.jq = s.jq) (hbr : t.br = s.br) (hos : t.os = s.os)
    (hlp : t.lp = s.lp) (hss : t.ss = s.ss) (he : t.pe.engine = s.pe.engine) (hpr : t.pe.presented = s.pe.presented)
    (hpa : t.pe.pause = s.pe.pause) : startableCopy t = startableCopy s := by
  have hnext : nextPrintCopy t = nextPrintCopy s := by rw [nextPrintCopy, nextPrintCopy, printOrder, printOrder, hjq]
  have hcopy : ∀ id, copyOf t id = copyOf s id := copyOf_congr hjq
  have hready : ∀ id, renderReady t id = renderReady s id := fun id => by
    have hlength := copyLength_congr hos (i := id) (by rw [jobOf, jobOf, hjq])
    have hneed : startNeed t id = startNeed s id := by simp only [startNeed, hlength, hss]
    have hcount : readyCount t id = readyCount s id := by rw [readyCount, readyCount, hbr]
    rw [renderReady, renderReady, hneed, hcount]
  simp only [startableCopy, hnext, hcopy, hready, hlp, hss, he, hpr, hpa]

/-- A label starts where the condition holds of its copy on a calibrated engine (R156, R157). -/
theorem testLabelStart_of_calibrated {s : State} {id : CopyId} (h : startableCopy s = some id)
    (hc : s.pe.calibrated = true) : testLabelStart s = startLabel id s := by
  simp only [testLabelStart, h, hc, if_true]

/-- With CAL-FAIL active an uncalibrated engine waits (R156). -/
theorem testLabelStart_of_calFail {s : State} (hc : s.pe.calibrated = false)
    (hf : (faultOf s .calFail).active = true) : testLabelStart s = s := by
  unfold testLabelStart
  split
  · rfl
  · rw [if_neg (by simp [hc]), if_pos hf]

/-- The label start on CONT stock calibrates first (R153, R156). -/
theorem testLabelStart_of_cont {s : State} {id : CopyId} (h : startableCopy s = some id) (hc : s.pe.calibrated = false)
    (hf : (faultOf s .calFail).active = false) (hs : s.pe.stock = .cont) :
    testLabelStart s = testLabelStart (contCalibrate s) := by
  have hcal : startableCopy (contCalibrate s) = some id :=
    (startableCopy_congr (by simp [contCalibrate]) (by simp [contCalibrate]) (by simp [contCalibrate])
      (by simp [contCalibrate]) (by simp [contCalibrate]) (by simp [contCalibrate]) (by simp [contCalibrate])
      (by simp [contCalibrate])).trans h
  rw [testLabelStart_of_calibrated hcal (by simp [contCalibrate, endCondition, setFault])]
  simp only [testLabelStart, h, hc, hf, hs, Bool.false_eq_true, if_false, if_true]

/-- An IDLE engine tests the label start when the last reason leaves (R168). -/
theorem removeReason_of_idle {r : PauseReason} {s : State} (he : s.pe.engine = .idle)
    (h1 : s.pe.pause.isEmpty = false) (h2 : s.pe.pause.put r false = {}) :
    removeReason r s = testLabelStart { s with pe := { s.pe with pause := {} } } := by
  have hdrop : dropReason r s = { s with pe := { s.pe with pause := {} } } := by rw [dropReason, h2]
  rw [removeReason, resumeIfEmptied_of_emptied h1 (by rw [hdrop]; rfl), hdrop]
  simp only [resume, he]

/-! ## The events that test for a start -/

/-- HOLD's falling edge with the port ON (R177). -/
theorem exec_holdEdge_falls {s : State} (hp : s.powered = true) (hon : s.lp.on = true) (hh : s.lp.hold = true) :
    exec (.holdEdge false) s = .next (removeReason .line (setLevel .hold false (takeGeometry s))) := by
  have hon' : (setLevel .hold false (takeGeometry s)).lp.on = true := hon
  rw [exec_holdEdge hp (by simp [hh]), holdChanges, if_pos hon', if_neg (by simp)]

/-- The fill of a copy's last band with the engine IDLE: the render ends, and the label start is tested (R95, R97). -/
theorem exec_fillCompletion_of_last {s : State} {c : RenderContext} {b : Nat} (hp : s.powered = true)
    (hcur : s.re.cursor = .filling) (hc : s.re.context = some c) (hb : c.filling = some b)
    (hn : c.bands ≤ c.nextIndex) (he : s.pe.engine = .idle) :
    exec .fillCompletion s = .next (testLabelStart (renderEnded c.copy (setBand b { bandOf s b with
      state := .ready, lines := composeBand s c ((bandOf s b).index.getD 0) ((bandOf s b).used.getD 0) }
      (takeGeometry s)))) := by
  have hidle : (takeGeometry s).pe.engine = .idle := (takeGeometry_pe s).1.trans he
  have hband : bandOf (takeGeometry s) b = bandOf s b := rfl
  have hlines : ∀ i u, composeBand (takeGeometry s) c i u = composeBand s c i u :=
    composeBand_congr (s := s) (t := takeGeometry s) rfl rfl c
  have hcontext : (takeGeometry s).re.context = some c := hc
  have hno : ∀ u : State, u.pe.engine = .idle → endStarvation c.copy u = u := fun u hu =>
    if_neg fun h => by simp [hu] at h
  show execFillCompletion s = _
  rw [execFillCompletion, inEvent_of hp (by simp [hcur])]
  simp only [hcontext, hb, completeFill, hn, if_true, hband, hlines]
  refine congrArg (fun u => Host.Outcome.next (testLabelStart u)) (hno _ ?_)
  exact hidle

/-- BACKFEED_COMPLETION (R158). -/
theorem exec_backfeedCompletion {s : State} {l : LabelContext} (hp : s.powered = true)
    (he : s.pe.engine = .backfeeding) (hl : s.pe.label = some l) :
    exec .backfeedCompletion s = .next
      (decideBoundary { s with pe := { s.pe with position := l.top, engine := .printing, stepTime := 0 } }) := by
  show execBackfeedCompletion s = _
  rw [execBackfeedCompletion, inEvent_of hp (by simp [he]), takeGeometry_of_busy (by simp [he])]
  simp only [completeBackfeed, hl]

/-- What the label start sets (R126, R157). -/
theorem startLabel_of_top {s : State} {n : Int} {tops : List Int} (id : CopyId) (ht : s.pe.tops = n :: tops) :
    let s1 : State := { setCopyState id .printing s with
      stu := { s.stu with
        active := s.ss.settings.energy, width := computeStrobe s.ss.settings.energy s.stu
        buffered := computeStrobe s.ss.settings.energy s.stu, swap := false }
      hi := { s.hi with
        p1 := 0, p2 := 0, defect := false, owed := false, verdictDue := false, verdict := none, resumed := false
        idleTimer := none, power := if s.hi.power = .off then .settling else s.hi.power }
      pe := { s.pe with
        tops := if s.pe.stock = .cont then tops ++ [n + s.pe.pitch] else tops
        label := some
          { copy := some id, top := n, lines := min (copyLength s id) (s.pe.pitch - 8), y := 0, phase := .print,
            pitch := s.pe.pitch, peel := 0, arrived := false, band := none } } }
    (n < s.pe.position → startLabel id s = { s1 with
      pe := { s1.pe with engine := .backfeeding, stepTime := 125000 / effectiveSpeed s1 } })
    ∧ (s.pe.position ≤ n → startLabel id s = decideBoundary { s1 with pe := { s1.pe with engine := .printing } }) := by
  intro s1
  have hpower : ∀ p : HeadPower, (match p with
      | .off => HeadPower.settling
      | .settling => .settling
      | .on => .on) = if p = .off then .settling else p := by
    intro p
    cases p <;> rfl
  have hstart : startLabel id s = if n < s.pe.position then
      { s1 with pe := { s1.pe with engine := .backfeeding, stepTime := 125000 / effectiveSpeed s1 } }
      else decideBoundary { s1 with pe := { s1.pe with engine := .printing } } := by
    have hlength := copyLength_setCopyState id .printing s id
    have hhead : ∀ u : State, headLabelStart u = { u with
        stu := { u.stu with
          active := u.ss.settings.energy, width := computeStrobe u.ss.settings.energy u.stu
          buffered := computeStrobe u.ss.settings.energy u.stu, swap := false }
        hi := { u.hi with
          p1 := 0, p2 := 0, defect := false, owed := false, verdictDue := false, verdict := none, resumed := false
          idleTimer := none, power := if u.hi.power = .off then .settling else u.hi.power } } := fun u => by
      rw [← hpower]
      rfl
    unfold startLabel
    have hlength' : copyLength (headLabelStart (setCopyState id .printing s)) id = copyLength s id := hlength
    simp only [ht, hlength']
    rw [hhead]
    rfl
  exact ⟨fun h => hstart.trans (if_pos h), fun h => hstart.trans (if_neg (not_lt.2 h))⟩

end Sys2Proof.Machine
end

section
/-! The line completion, with its edge, its bands and the gap-lost guard (9.4, 9.6). -/

namespace Sys2Proof.Machine

/-! ## The guard with a label in progress (R165) -/

/-- The gap-lost guard leaves a label in progress HALTED, its copy LOST, and the stock forgotten (R165). -/
theorem tripGuard_of_label {s : State} {l : LabelContext} (h : s.pe.label = some l) :
    tripGuard s = markLabel (fun m => { m with lost := true }) { s with
      fm := (raiseFlags .mediaOut s).fm
      hi := { s.hi with resumed := true }
      pe := { s.pe with
        engine := .halted, stepTime := 0, lastCapture := none, lastGapStart := none, tops := [], calibrated := false
        pause := { s.pe.pause with media := true } } } := by
  have hl : (addReason .media (raiseFlags .mediaOut (forgetStock s))).pe.label = some l := h
  unfold tripGuard
  simp only [hl, markLabel]
  cases hc : l.copy with
  | none =>
    simp only [Option.bind_some, hc, h]
    rfl
  | some id =>
    simp only [Option.bind_some, hc, h]
    rfl

/-- What such a trip leaves alone, and the LOST mark of the label's copy. -/
theorem markLabel_lost_spec {s : State} {l : LabelContext} (h : s.pe.label = some l) :
    ∃ jq, markLabel (fun m => { m with lost := true }) s = { s with jq := jq }
      ∧ ∀ id c, l.copy = some id → copyOf s id = some c → c.state = .printing →
        copyOf { s with jq := jq } id = some { c with marks := { c.marks with lost := true } } := by
  cases hc : l.copy with
  | none =>
    exact ⟨s.jq, markLabel_of_none fun c hcl => by rw [h] at hcl; cases hcl; exact hc, fun id c hid => by cases hid⟩
  | some id =>
    refine ⟨_, markLabel_of_copy h hc, fun i c hid hcp hst => ?_⟩
    cases hid
    exact copyOf_addMark (fun m => { m with lost := true }) hcp hst

/-- The trip with its notice, where none was owed before (R165, R198). -/
theorem tripGuard_of_label_spec {s : State} {l : LabelContext} (hl : s.pe.label = some l)
    (hn : ∀ k, noticeOwed s k = false) :
    ∃ t, offerNotices (tripGuard s) = t
      ∧ t.pe = { s.pe with
        engine := .halted, stepTime := 0, lastCapture := none, lastGapStart := none, tops := [], calibrated := false
        pause := { s.pe.pause with media := true } }
      ∧ t.hi = { s.hi with resumed := true } ∧ (faultOf t .mediaOut).active = true
      ∧ (faultOf t .mediaOut).latched = true ∧ t.jl = (raiseFault .mediaOut s).jl ∧ t.lp = s.lp ∧ t.br = s.br
      ∧ ∀ id c, l.copy = some id → copyOf s id = some c → c.state = .printing →
        copyOf t id = some { c with marks := { c.marks with lost := true } } := by
  refine ⟨_, rfl, ?_⟩
  rw [tripGuard_of_label hl]
  generalize hu : ({ s with
      fm := (raiseFlags .mediaOut s).fm
      hi := { s.hi with resumed := true }
      pe := { s.pe with
        engine := .halted, stepTime := 0, lastCapture := none, lastGapStart := none, tops := [], calibrated := false
        pause := { s.pe.pause with media := true } } } : State) = u
  obtain ⟨jq, hmark, hcopy⟩ := markLabel_lost_spec (s := u) (l := l) (by rw [← hu]; exact hl)
  rw [hmark]
  have hfm : ({ u with jq := jq } : State).fm = (raiseFlags .mediaOut s).fm := by rw [← hu]
  obtain ⟨hflag1, hflag2⟩ := faultOf_offerNotices_of_raised .mediaOut hfm
  obtain ⟨hreport, -⟩ :=
    offerNotices_of_raised .mediaOut hn (u := { u with jq := jq }) (by rw [← hu]) hfm (by rw [← hu])
  obtain ⟨jl, fm, hoff, -⟩ := offerNotices_noticed { u with jq := jq }
  rw [hoff] at hflag1 hflag2 hreport ⊢
  have hucopy : ∀ id, copyOf u id = copyOf s id := copyOf_congr (by rw [← hu])
  refine ⟨?_, ?_, hflag1, hflag2, hreport, ?_, ?_, fun id c hid hc hst => hcopy id c hid ((hucopy id).trans hc) hst⟩
  all_goals rw [← hu]

/-! ## Bands behind the burn line (R101, R160) -/

/-- A step is the same with the engine's step time at rest. -/
theorem Stepped.atRest {level : SensorLevel} {pe pe' : PrintEngine} (h : Stepped level pe pe') :
    Stepped level { pe with stepTime := 0 } { pe' with stepTime := 0 } := by
  simp only [Stepped] at h ⊢
  split at h
  · rename_i hc
    rw [if_pos hc]
    split at h
    · rename_i hg
      rw [if_pos hg, h]
    · rename_i hg
      rw [if_neg hg]
      obtain ⟨n, rfl, hn⟩ := h
      exact ⟨n, rfl, hn⟩
  · rename_i hc
    rw [if_neg hc, h]

/-- The bands a copy holds are freed and its render ended (R101): the ring and the renderer alone change. -/
theorem freeHeld_spec (id : CopyId) (s : State) :
    freeHeld id s = { s with
      br := (freeBandsWhere (fun b => b.owner == some id) s).br
      re := if underRender id s then { cursor := .idle, context := none } else s.re } := by
  have hu : underRender id (freeBandsWhere (fun b => b.owner == some id) s) = underRender id s := rfl
  simp only [freeHeld, stopRender, hu]
  split <;> rfl

/-- The bands behind a line freed: the ring, the renderer and the label's band alone change. -/
theorem releasePrinted_spec {s : State} {l l' : LabelContext} (hl : s.pe.label = some l') :
    ∃ br re k, releasePrinted l s
      = { s with br := br, re := re, pe := { s.pe with label := some { l' with band := k } } } := by
  obtain ⟨br, k, hfree⟩ := freePrintingBand_spec hl
  have hsame : { s with pe := { s.pe with label := some { l' with band := l'.band } } } = s := by
    rw [← hl]
  unfold releasePrinted
  split
  · rw [hfree]
    unfold freeLabelBands
    split
    · rw [freeHeld_spec]
      exact ⟨_, _, _, rfl⟩
    · exact ⟨_, _, _, rfl⟩
  · split
    · rw [hfree]
      exact ⟨_, _, _, rfl⟩
    · exact ⟨s.br, s.re, l'.band, hsame.symm⟩

/-- A line inside a band leaves the band to the lines that follow. -/
theorem releasePrinted_of_inside {s : State} {l : LabelContext} (h1 : l.y % 64 ≠ 63) (h2 : l.y + 1 ≠ l.lines)
    (h3 : labelStopped s l = false) : releasePrinted l s = s := by
  rw [releasePrinted, if_neg h2, if_neg]
  simp [lastOfBand, h1, h2, h3]

/-- The last line of a band frees it (R160). -/
theorem releasePrinted_of_band {s : State} {l : LabelContext} {b : Nat} (h1 : l.y % 64 = 63) (h2 : l.y + 1 ≠ l.lines)
    (hl : s.pe.label = some l) (hb : l.band = some b) :
    releasePrinted l s = { freeBand b s with pe := { s.pe with label := some { l with band := none } } } := by
  rw [releasePrinted, if_neg h2, if_pos (by simp [lastOfBand, h1]), freePrintingBand]
  simp only [hl, hb]

/-- The band in print freed between lines: the label holds none, and no other band changes. -/
theorem freePrintingBand_eq {s : State} {l : LabelContext} (hl : s.pe.label = some l) :
    ∃ br, freePrintingBand s = { s with br := br, pe := { s.pe with label := some { l with band := none } } }
      ∧ ∀ b, bandOf { s with br := br } b = if l.band = some b then (bandOf s b).freed else bandOf s b := by
  simp only [freePrintingBand, hl]
  cases hb : l.band with
  | none =>
    have hsame : { s with pe := { s.pe with label := some { l with band := none } } } = s := by rw [← hb, ← hl]
    exact ⟨s.br, hsame.symm, fun b => (if_neg (by simp)).symm⟩
  | some n =>
    refine ⟨_, rfl, fun b => ?_⟩
    show bandOf (setBand n (bandOf s n).freed s) b = _
    by_cases hn : n = b
    · subst hn
      rw [if_pos rfl]
      by_cases hlt : n < 16
      · exact bandOf_setBand_self hlt _ s
      · have hnone : ∀ v : Vector Band 16, v[n]? = none := fun v => Vector.getElem?_eq_none (Nat.not_lt.1 hlt)
        simp only [bandOf, hnone, Option.getD_none]
        rfl
    · rw [if_neg (by simpa using hn)]
      simp only [bandOf, setBand_br, Vector.getElem?_setIfInBounds_ne hn]

/-- The bands freed with the copy that held them (R101). -/
theorem bandOf_freeHeld (id : CopyId) (s : State) (b : Nat) :
    bandOf (freeHeld id s) b = if (bandOf s b).owner = some id then (bandOf s b).freed else bandOf s b := by
  rw [freeHeld_spec]
  by_cases hb : b < 16
  · simp only [bandOf, freeBandsWhere, Vector.getElem?_eq_getElem hb, Option.getD_some, Vector.getElem_map, beq_iff_eq]
  · have hnone : ∀ v : Vector Band 16, v[b]? = none := fun v => Vector.getElem?_eq_none (Nat.not_lt.1 hb)
    simp only [bandOf, hnone, Option.getD_none]
    exact (if_neg nofun).symm

/-- The last line of a label frees every band its copy holds (R101, R160). -/
theorem releasePrinted_of_last {s : State} {l : LabelContext} {id : CopyId} (hy : l.y + 1 = l.lines)
    (hl : s.pe.label = some l) (hc : l.copy = some id) :
    let t := releasePrinted l s
    t.pe = { s.pe with label := some { l with band := none } } ∧ t.hi = s.hi ∧ t.jq = s.jq
      ∧ (∀ b, bandOf t b = if l.band = some b ∨ (bandOf s b).owner = some id then (bandOf s b).freed else bandOf s b)
      ∧ t.re = if underRender id s then { cursor := .idle, context := none } else s.re := by
  intro t
  obtain ⟨br, hfree, hband⟩ := freePrintingBand_eq hl
  have ht : t = freeHeld id { s with br := br, pe := { s.pe with label := some { l with band := none } } } := by
    show releasePrinted l s = _
    rw [releasePrinted, if_pos hy, hfree]
    simp only [freeLabelBands, hc]
  refine ⟨?_, ?_, ?_, fun b => ?_, ?_⟩
  · rw [ht, freeHeld_spec]
  · rw [ht, freeHeld_spec]
  · rw [ht, freeHeld_spec]
  · rw [ht, bandOf_freeHeld]
    have hb : bandOf { s with br := br, pe := { s.pe with label := some { l with band := none } } } b
        = if l.band = some b then (bandOf s b).freed else bandOf s b := hband b
    rw [hb]
    by_cases h1 : l.band = some b
    · simp only [h1, if_true, true_or]
      exact if_neg nofun
    · simp only [h1, if_false, false_or]
  · rw [ht, freeHeld_spec]
    rfl

/-! ## The line completion (R160) -/

/-- Line y of the label in progress is behind the media (R160). -/
theorem advanceLine_of_label {s : State} {l : LabelContext} (h : s.pe.label = some l) :
    advanceLine s = { s with pe := { s.pe with label := some { l with y := l.y + 1 } } } := by
  simp only [advanceLine, h, Option.map_some]

/-- LINE_COMPLETION of a line strobed (R160). -/
theorem exec_lineCompletion {s : State} {l : LabelContext} {x : LineStrobe} (level : SensorLevel)
    (hp : s.powered = true) (hx : s.hi.line = some x) (hs : x.strobed = true) (hl : s.pe.label = some l)
    (he : s.pe.engine = .printing) : exec (.lineCompletion level) s = .next (completeLine level l s) := by
  show execLineCompletion level s = _
  rw [execLineCompletion, inEvent_of hp (by simp [lineInProgress, strobing, hx, hs]),
    takeGeometry_of_busy (by simp [he])]
  simp only [hl]

/-- A line's media step, where no notice was owed (R160 steps 1 to 3). -/
theorem completeLine_of_stepped {level : SensorLevel} {s : State} {l : LabelContext} {pe : PrintEngine}
    (hpos : s.pe.position < 2147483647) (hn : ∀ k, noticeOwed s k = false) (h : Stepped level s.pe pe) :
    let s1 : State := { s with hi := { s.hi with line := none }, pe := { pe with stepTime := 0 } }
    completeLine level l s = if guardTrips s1 then advanceLine (releasePrinted l (offerNotices (tripGuard s1)))
      else decideBoundary (advanceLine (releasePrinted l s1)) := by
  intro s1
  have hstep : guardedStep level { s with hi := { s.hi with line := none }, pe := { s.pe with stepTime := 0 } }
      = if guardTrips s1 then (offerNotices (tripGuard s1), true) else (s1, false) :=
    guardedStep_of_stepped (s := { s with hi := { s.hi with line := none }, pe := { s.pe with stepTime := 0 } })
      hpos hn h.atRest
  unfold completeLine
  rw [hstep]
  cases guardTrips s1 with
  | true => simp only [if_true]
  | false => simp only [Bool.false_eq_true, if_false]

/-- The guard watches a label in progress while it prints (R165). -/
theorem guardTrips_of_label {s : State} {l : LabelContext} (hl : s.pe.label = some l)
    (he : s.pe.engine = .printing ∨ s.pe.engine = .feedingOut) :
    guardTrips s = true ↔ s.pe.calibrated = true ∧ s.pe.stock ≠ .cont ∧ s.pe.tops = []
      ∧ l.top + (3 * l.pitch / 2 : Nat) ≤ s.pe.position := by
  have hmove : (s.pe.engine == .printing || s.pe.engine == .feedingOut) = true := by
    rcases he with he | he <;> simp [he]
  simp only [guardTrips, guardedTop, hl, hmove, guardLimit]
  simp [and_assoc]

/-- The first notice of a fault leaves all but the link and the flags alone. -/
theorem raiseFault_eq (k : FaultKind) (s : State) :
    raiseFault k s = { s with jl := (raiseFault k s).jl, fm := (raiseFault k s).fm } := by
  obtain ⟨jl, fm, h, -⟩ := offerNotice_noticed k (raiseFlags k s)
  have hraise : raiseFault k s = { s with jl := jl, fm := fm } := h
  rw [hraise]

/-- A step at which the guard trips leaves the engine HALTED and the label LOST (R160, R165, log entry 34). -/
theorem completeLine_of_lost {level : SensorLevel} {s : State} {l : LabelContext} {pe : PrintEngine}
    (hl : s.pe.label = some l) (he : s.pe.engine = .printing) (hpos : s.pe.position < 2147483647)
    (hn : ∀ k, noticeOwed s k = false) (h : Stepped level s.pe pe)
    (hlost : pe.calibrated = true ∧ pe.stock ≠ .cont ∧ pe.tops = []
      ∧ l.top + (3 * l.pitch / 2 : Nat) ≤ s.pe.position + 1) :
    ∃ t l', completeLine level l s = t ∧ t.pe.engine = .halted ∧ t.pe.label = some l' ∧ l'.y = l.y + 1
      ∧ l'.copy = l.copy ∧ t.pe.calibrated = false ∧ t.pe.tops = [] ∧ t.pe.lastCapture = none
      ∧ t.pe.lastGapStart = none ∧ t.pe.position = s.pe.position + 1 ∧ t.pe.pause = { s.pe.pause with media := true }
      ∧ t.hi = { s.hi with line := none, resumed := true }
      ∧ (faultOf t .mediaOut).active = true ∧ (faultOf t .mediaOut).latched = true
      ∧ t.jl = (raiseFault .mediaOut s).jl
      ∧ ∀ id c, l.copy = some id → copyOf s id = some c → c.state = .printing →
        copyOf t id = some { c with marks := { c.marks with lost := true } } := by
  obtain ⟨kpos, ke, kl, -, kpause, -, -, -, -⟩ := stepped_keeps h
  have hstep := completeLine_of_stepped (l := l) hpos hn h
  dsimp only at hstep
  rw [if_pos ((guardTrips_of_label (kl.trans hl) (.inl (ke.trans he))).2 (by simpa [kpos] using hlost))] at hstep
  obtain ⟨w, hw, wpe, whi, hflag1, hflag2, hreport, -, -, hcopy⟩ := tripGuard_of_label_spec
    (s := { s with hi := { s.hi with line := none }, pe := { pe with stepTime := 0 } }) (l := l) (kl.trans hl) hn
  rw [hw] at hstep
  have hraise := (raiseFault_congr (s := s)
    (t := { s with hi := { s.hi with line := none }, pe := { pe with stepTime := 0 } }) .mediaOut rfl rfl rfl).1
  have hwlab : w.pe.label = some l := (congrArg PrintEngine.label wpe).trans (kl.trans hl)
  obtain ⟨br, re, k, hrel⟩ := releasePrinted_spec (l := l) hwlab
  rw [hrel] at hstep
  refine ⟨_, { l with y := l.y + 1, band := k }, hstep, ?_, rfl, rfl, rfl, ?_, ?_, ?_, ?_, ?_, ?_, whi, hflag1, hflag2,
    hreport.trans hraise, hcopy⟩
  · exact congrArg PrintEngine.engine wpe
  · exact congrArg PrintEngine.calibrated wpe
  · exact congrArg PrintEngine.tops wpe
  · exact congrArg PrintEngine.lastCapture wpe
  · exact congrArg PrintEngine.lastGapStart wpe
  · exact (congrArg PrintEngine.position wpe).trans kpos
  · exact (congrArg PrintEngine.pause wpe).trans (congrArg (fun p => { p with media := true }) kpause)

/-! ## The seventh violation (R152) -/

/-- Where no notice was owed, a kind raised has its notice offered alone. -/
theorem offerNotices_raiseFlags {s : State} (k : FaultKind) (hn : ∀ j, noticeOwed s j = false) :
    offerNotices (raiseFlags k s) = raiseFault k s :=
  offerNotices_of_only k fun j hj =>
    (noticeOwed_congr (s := s) (t := raiseFlags k s) rfl ((faultOf_raiseFlags k j s).trans (if_neg hj)) rfl).trans
      (hn j)

/-- A fault raised is apart from the print engine. -/
theorem raiseFault_with_pe (k : FaultKind) (s : State) (pe : PrintEngine) :
    { raiseFault k s with pe := pe } = raiseFault k { s with pe := pe } := by
  obtain ⟨hjl, hfm⟩ := raiseFault_congr (s := s) (t := { s with pe := pe }) k rfl rfl rfl
  rw [raiseFault_eq k s, raiseFault_eq k { s with pe := pe }, hjl, hfm]

/-- The engine's registers after the step whose capture is the seventh violation (R152). -/
def PrintEngine.flipped (level : SensorLevel) (pe : PrintEngine) : PrintEngine :=
  { pe with
    position := pe.position + 1, furthest := pe.position + 1, sensor := level
    sense := if pe.sense = .lowGap then .highGap else .lowGap
    violations := 0, lastCapture := none, lastGapStart := none, tops := [] }

/-- The next step shows a capture that violates the sense, after six violations or more (R152). -/
def Seventh (level : SensorLevel) (pe : PrintEngine) : Prop :=
  pe.furthest < pe.position + 1 ∧ level ≠ pe.sensor ∧ pe.stock ≠ .cont ∧ pe.calibrated = true
    ∧ level ≠ pe.sense.gapLevel ∧ 6 ≤ pe.violations
    ∧ ∃ g c, pe.lastGapStart = some g ∧ pe.lastCapture = some c ∧ c < g ∧ g - c ≤ pe.position + 1 - g

/-- The step whose capture is the seventh violation, short of the guard's limit (R152, R165). -/
theorem guardedStep_of_seventh {level : SensorLevel} {s : State} (hpos : s.pe.position < 2147483647)
    (hn : ∀ k, noticeOwed s k = false) (hs : Seventh level s.pe)
    (hlim : ∀ p, guardedTop s = some p → s.pe.position + 1 < guardLimit p.1 p.2) :
    guardedStep level s = (raiseFault .senseFlip { s with pe := s.pe.flipped level }, false) := by
  obtain ⟨h1, h2, h3, h4, h5, h6, g, c, hg, hc, hlt, hv⟩ := hs
  have hmax : max s.pe.furthest (s.pe.position + 1) = s.pe.position + 1 := max_eq_right (by omega)
  have hsense : s.pe.sense.inverted = if s.pe.sense = .lowGap then .highGap else .lowGap := by
    cases s.pe.sense <;> rfl
  have hstep : steppedState level s = raiseFlags .senseFlip { s with pe := s.pe.flipped level } := by
    have hedge : stepShowsEdge level s = true := by simp [stepShowsEdge, positionAfter_of_lt hpos, h1, h2, h3]
    simp [steppedState, hedge, takeEdge, stepMedia, positionAfter_of_lt hpos, h4, h5, takeCapture, captureViolates, hg,
      hc, hlt, hv, h6, hmax, hsense, PrintEngine.flipped]
  have htrip : guardTrips (raiseFlags .senseFlip { s with pe := s.pe.flipped level }) = false := by
    have hany : ((guardedTop s).any fun p => decide (guardLimit p.1 p.2 ≤ s.pe.position + 1)) = false := by
      cases hgt : guardedTop s with
      | none => rfl
      | some p => exact decide_eq_false (not_le.2 (hlim p hgt))
    rw [guardTrips, Bool.and_eq_false_iff]
    exact .inr hany
  have hnone : ∀ j, noticeOwed { s with pe := s.pe.flipped level } j = false := hn
  rw [guardedStep_eq, hstep, htrip, offerNotices_raiseFlags _ hnone]
  rfl

/-- The line completion at the seventh violation, inside a band (R152, R160). -/
theorem completeLine_of_seventh {level : SensorLevel} {s : State} {l : LabelContext}
    (hl : s.pe.label = some l) (hpos : s.pe.position < 2147483647) (hn : ∀ k, noticeOwed s k = false)
    (hs : Seventh level s.pe) (hlim : s.pe.position + 1 < l.top + (3 * l.pitch / 2 : Nat)) (hy1 : l.y % 64 ≠ 63)
    (hy2 : l.y + 1 ≠ l.lines) (hstop : labelStopped s l = false) :
    completeLine level l s = decideBoundary (raiseFault .senseFlip { s with
      hi := { s.hi with line := none }
      pe := { s.pe.flipped level with stepTime := 0, label := some { l with y := l.y + 1 } } }) := by
  have hstep := guardedStep_of_seventh (level := level)
    (s := { s with hi := { s.hi with line := none }, pe := { s.pe with stepTime := 0 } })
    hpos hn hs fun p hp => by
      have hp' : some (l.top, l.pitch) = some p := by rw [← hp]; simp only [guardedTop, hl]
      cases hp'
      exact hlim
  unfold completeLine
  rw [hstep]
  generalize hu : ({ s with
    hi := { s.hi with line := none }, pe := { s.pe.flipped level with stepTime := 0 } } : State) = u
  have hupe : u.pe = { s.pe.flipped level with stepTime := 0 } := by rw [← hu]
  have hulab : u.pe.label = some l := by rw [hupe]; exact hl
  have hustop : labelStopped (raiseFault .senseFlip u) l = false := by
    have hjq : (raiseFault .senseFlip u).jq = s.jq := by rw [← hu]; simp
    rw [← hstop, labelStopped, labelStopped]
    simp only [copyOf_congr hjq]
  have hline : advanceLine (releasePrinted l (raiseFault .senseFlip u))
      = raiseFault .senseFlip { u with pe := { u.pe with label := some { l with y := l.y + 1 } } } := by
    have hpe : (raiseFault .senseFlip u).pe = u.pe := by simp
    rw [releasePrinted_of_inside hy1 hy2 hustop, advanceLine, hpe, hulab]
    exact raiseFault_with_pe .senseFlip u _
  have hgoal : decideBoundary (advanceLine (releasePrinted l (raiseFault .senseFlip u)))
      = decideBoundary (raiseFault .senseFlip { u with pe := { u.pe with label := some { l with y := l.y + 1 } } }) :=
    congrArg decideBoundary hline
  rw [hupe] at hgoal
  rw [← hu] at hgoal
  exact hgoal

/-- Settles O46: the label start and the events that test for it, the backfeed, and the line completion. -/
theorem linesAndBackfeedComplete : Obligations.LinesAndBackfeedComplete := by
  unfold Obligations.LinesAndBackfeedComplete
  refine ⟨fun s id he hpr hpa hc hr hb => ?_, fun s h he hpa => ?_, fun s hp hst he hpa => ?_,
    fun s hp hon hh he hpa => ?_, fun s c b i u hp hcur hc hb hi hu hn he => ?_,
    fun s n m hp he hl hf hs ht hle hm hpit => ?_, fun s p hp ht hw hpr hwaste he hm hpit => ?_,
    fun s l hp he hl => exec_backfeedCompletion hp he hl, fun s l x level hp hx hxs hl hpos hn he => ?_⟩
  · have hstart := startableCopy_of_ready he hpr hpa hc hr hb
    refine ⟨fun n tops hcal ht => ?_, fun hcal hf => testLabelStart_of_calFail hcal hf,
      fun hcal hf hs => testLabelStart_of_cont hstart hcal hf hs⟩
    intro s1
    rw [testLabelStart_of_calibrated hstart hcal]
    exact startLabel_of_top id ht
  · have hpause : (removeRecord s).pe.pause = { host := true } := (takeGeometry_pause s).trans hpa
    rw [exec_go h]
    exact congrArg Host.Outcome.next (removeReason_of_idle (s := removeRecord s) ((takeGeometry_pe s).1.trans he)
      (by rw [hpause]; rfl) (by rw [hpause]; rfl))
  · have hpause : (takeGeometry s).pe.pause = { panel := true } := (takeGeometry_pause s).trans hpa
    rw [exec_pauseKey hp (by simp [hst]) (by simp [hst]), if_pos (by rw [hpa])]
    exact congrArg Host.Outcome.next (removeReason_of_idle (s := takeGeometry s) ((takeGeometry_pe s).1.trans he)
      (by rw [hpause]; rfl) (by rw [hpause]; rfl))
  · have hpause : (setLevel .hold false (takeGeometry s)).pe.pause = { line := true } :=
      (takeGeometry_pause s).trans hpa
    rw [exec_holdEdge_falls hp hon hh]
    exact congrArg Host.Outcome.next (removeReason_of_idle (s := setLevel .hold false (takeGeometry s))
      ((takeGeometry_pe s).1.trans he) (by rw [hpause]; rfl) (by rw [hpause]; rfl))
  · intro done
    rw [exec_fillCompletion_of_last hp hcur hc hb hn he, hi, hu]
    rfl
  · have hr : reached s (moveTarget s n) = true := by
      rw [moveTarget_of_sensed n hs, ht]
      exact decide_eq_true hle
    rw [exec_feedMoveCompletion hp he hl hf hr, endFeedMove,
      enterIdle_of_same (s := { s with pe := { s.pe with feedMove := none } }) hm hpit]
  · have hx : exec .taken s = .next (removePresented { s with lp := { s.lp with taken := true } }) := by
      rw [exec_taken hp ht, takeGeometry_of_same hm hpit]
      simp only [takenRises, hw, hpr, takenPresented, hwaste]
    rw [hx]
    exact congrArg Host.Outcome.next
      (removePresented_of_holding (s := { s with lp := { s.lp with taken := true } }) he hm hpit)
  · intro lost
    have hex := exec_lineCompletion level hp hx hxs hl he
    refine ⟨fun pe h hnl => ?_, fun pe h hlost => ?_, fun g c h1 h2 h3 h4 h5 hg hc hlt hv h6 hlim hy1 hy2 hstop => ?_⟩
    · intro s1
      obtain ⟨kpos, ke, kl, -, -, -, -, -, -⟩ := stepped_keeps h
      have hs1l : s1.pe.label = some l := kl.trans hl
      have hno : ¬ guardTrips s1 = true := by
        rw [guardTrips_of_label hs1l (.inl (ke.trans he))]
        intro hg
        refine hnl ?_
        have : s1.pe.position = s.pe.position + 1 := kpos
        rw [this] at hg
        exact hg
      have hline := hex.trans (congrArg Host.Outcome.next
        ((completeLine_of_stepped (l := l) hpos hn h).trans (if_neg hno)))
      refine ⟨fun hy1 hy2 hstop => ?_, fun b hy1 hy2 hb => ?_, fun id hy hc => ?_⟩
      · rw [hline, releasePrinted_of_inside (s := s1) hy1 hy2 hstop, advanceLine_of_label hs1l]
      · rw [hline, releasePrinted_of_band (s := s1) hy1 hy2 hs1l hb]
        rfl
      · obtain ⟨hpe, hhi, hjq, hband, hre⟩ := releasePrinted_of_last (s := s1) hy hs1l hc
        have hlab : (releasePrinted l s1).pe.label = some { l with band := none } := by rw [hpe]
        refine ⟨_, hline, ?_, hhi, hjq, hband, hre⟩
        rw [advanceLine_of_label hlab, hpe]
    · obtain ⟨t, l', ht, hrest⟩ := completeLine_of_lost hl he hpos hn h hlost
      exact ⟨t, l', hex.trans (congrArg _ ht), hrest⟩
    · rw [hex, completeLine_of_seventh hl hpos hn ⟨h1, h2, h3, h4, h5, h6, g, c, hg, hc, hlt, hv⟩ hlim hy1 hy2 hstop]
      rfl

end Sys2Proof.Machine
end

section
/-! The feed-out's steps, its completion, and the presentation of a label (9.2, 9.4, 9.5, 9.6). -/

namespace Sys2Proof.Machine

/-! ## The copy at presentation (R75, R163 step 1) -/

/-- The result that a copy's marks give it at presentation (R75). -/
def Marks.result (m : Marks) : CopyResult :=
  if m.late then .missedLate else if m.defect then .failed else .wasted

/-- A copy with marks ends at presentation (R75). -/
theorem presentedState_of_marked {m : Marks} (h : m.isEmpty = false) : presentedState m = .terminal m.result := by
  unfold presentedState Marks.result
  unfold Marks.isEmpty at h
  cases hl : m.late <;> cases hw : m.withdrawn <;> cases hd : m.defect <;> cases ho : m.lost <;> simp_all

/-- A copy without marks is presented good (R163). -/
theorem presentCopy_of_clean {s : State} {id : CopyId} {c : Copy} (hc : copyOf s id = some c)
    (hm : c.marks.isEmpty = true) : presentCopy (some id) s = (setCopyState id .presented s, false) := by
  have h := (presentedState_eq_presented c.marks).2 hm
  simp only [presentCopy, hc, h]

/-- A copy with marks makes its label waste (R163). -/
theorem presentCopy_of_marked {s : State} {id : CopyId} {c : Copy} (hc : copyOf s id = some c)
    (hm : c.marks.isEmpty = false) :
    presentCopy (some id) s = (offerDone id.tag (endCopy id c.marks.result s), true) := by
  simp only [presentCopy, hc, presentedState_of_marked hm]

/-- What the copy's result leaves alone. -/
theorem presentCopy_keeps {copy : Option CopyId} {s u : State} {waste : Bool} (h : presentCopy copy s = (u, waste)) :
    u.hi = s.hi ∧ u.fm = s.fm ∧ u.pe.pause = s.pe.pause := by
  have hu : (presentCopy copy s).1 = u := congrArg Prod.fst h
  rw [← hu]
  refine ⟨by simp, by simp, ?_⟩
  unfold presentCopy
  (repeat' split) <;> simp [endCopy]

/-! ## The verdict at presentation (R142) -/

/-- A verdict that is none or clean clears what was due, and a clean one the defect count (R142). -/
theorem applyVerdict_of_sound {s : State} (h : s.hi.verdict ≠ some true) :
    applyVerdict s = { s with hi := { s.hi with
      verdict := none, verdictDue := false, owed := false
      defectCount := if s.hi.verdict = some false then 0 else s.hi.defectCount } } := by
  unfold applyVerdict
  split
  · rename_i hv
    simp [hv]
  · rename_i hv
    simp [hv]
  · rename_i hv
    exact absurd hv h

/-- A defect verdict counted, with HEAD-DATA's flags (R142). -/
def verdictCounted (s : State) : State :=
  raiseFlags .headData { s with hi := { s.hi with
    verdict := none, verdictDue := false, owed := false, defectCount := min 2 (s.hi.defectCount + 1) } }

/-- A defect verdict counts, raises HEAD-DATA, and the second in a row HEAD-FAULT with its reason (R142). -/
theorem applyVerdict_of_defect {s : State} (h : s.hi.verdict = some true) :
    let t := offerNotices (applyVerdict s)
    t.jq = s.jq ∧ t.lp = s.lp
      ∧ t.hi = { s.hi with
        verdict := none, verdictDue := false, owed := false, defectCount := min 2 (s.hi.defectCount + 1) }
      ∧ (faultOf t .headData).active = true ∧ (faultOf t .headData).latched = true
      ∧ (s.hi.defectCount = 1 → (faultOf t .headFault).active = true ∧ (faultOf t .headFault).latched = true
        ∧ t.pe.pause = { s.pe.pause with headFault := true })
      ∧ (s.hi.defectCount ≠ 1 → (faultOf t .headFault).active = (faultOf s .headFault).active
        ∧ (faultOf t .headFault).latched = (faultOf s .headFault).latched ∧ t.pe.pause = s.pe.pause) := by
  intro t
  obtain ⟨jl, fm, htt, hflags⟩ : Noticed (applyVerdict s) t := offerNotices_noticed (applyVerdict s)
  clear_value t
  have hv : applyVerdict s = if s.hi.defectCount = 1 then
      addReason .headFault (raiseFlags .headFault (verdictCounted s)) else verdictCounted s := by
    unfold applyVerdict
    simp only [h]
    rfl
  have hdata : (faultOf (verdictCounted s) .headData).active = true
      ∧ (faultOf (verdictCounted s) .headData).latched = true := by
    rw [verdictCounted, faultOf_raiseFlags, if_pos rfl]
    exact ⟨rfl, rfl⟩
  have hkeep : faultOf (verdictCounted s) .headFault = faultOf s .headFault := by
    rw [verdictCounted, faultOf_raiseFlags, if_neg (by decide)]
    rfl
  by_cases hc : s.hi.defectCount = 1
  · rw [if_pos hc] at hv
    have hself : faultOf (addReason .headFault (raiseFlags .headFault (verdictCounted s))) .headFault
        = { faultOf (verdictCounted s) .headFault with active := true, latched := true } :=
      (faultOf_raiseFlags .headFault .headFault (verdictCounted s)).trans (if_pos rfl)
    have hother : faultOf (addReason .headFault (raiseFlags .headFault (verdictCounted s))) .headData
        = faultOf (verdictCounted s) .headData :=
      (faultOf_raiseFlags .headFault .headData (verdictCounted s)).trans (if_neg (by decide))
    have h1 := hflags .headData
    have h2 := hflags .headFault
    rw [hv, hother] at h1
    rw [hv, hself] at h2
    rw [hv] at htt
    have hpe : t.pe = { s.pe with pause := { s.pe.pause with headFault := true } } := by rw [htt]; rfl
    refine ⟨by rw [htt]; rfl, by rw [htt]; rfl, by rw [htt]; rfl, h1.1.trans hdata.1, h1.2.trans hdata.2,
      fun _ => ⟨h2.1, h2.2, by rw [hpe]⟩, fun hne => absurd hc hne⟩
  · rw [if_neg hc] at hv
    have h1 := hflags .headData
    have h2 := hflags .headFault
    rw [hv] at h1 h2 htt
    rw [hkeep] at h2
    have hpe : t.pe = s.pe := by rw [htt]; rfl
    exact ⟨by rw [htt]; rfl, by rw [htt]; rfl, by rw [htt]; rfl, h1.1.trans hdata.1, h1.2.trans hdata.2,
      fun he => absurd he hc, fun _ => ⟨h2.1, h2.2, by rw [hpe]⟩⟩

/-! ## Presentation (R163) -/

/-- A label presented with no defect verdict, where its copy leaves no notice owed (R163). -/
theorem present_of_sound {l : LabelContext} {s u : State} {waste : Bool} (hc : presentCopy l.copy s = (u, waste))
    (hv : u.hi.verdict ≠ some true) (hn : ∀ k, noticeOwed u k = false) :
    present l s = { u with
      hi := { u.hi with
        verdict := none, verdictDue := false, owed := false
        defectCount := if u.hi.verdict = some false then 0 else u.hi.defectCount }
      pe := { u.pe with
        engine := .holding, label := none, presented := some { copy := l.copy, waste := waste }, stepTime := 0 } } := by
  have hnone : ∀ k, noticeOwed (applyVerdict u) k = false := fun k => by
    rw [applyVerdict_of_sound hv]
    exact hn k
  simp only [present, hc, offerNotices_of_none_owed _ hnone]
  rw [applyVerdict_of_sound hv]

/-- A label presented with a defect verdict (R142, R163). -/
theorem present_of_defect {l : LabelContext} {s u : State} {waste : Bool} (hc : presentCopy l.copy s = (u, waste))
    (hv : u.hi.verdict = some true) :
    let t := present l s
    t.pe.engine = .holding ∧ t.pe.label = none ∧ t.pe.presented = some { copy := l.copy, waste := waste }
      ∧ t.jq = u.jq ∧ t.lp = u.lp
      ∧ t.hi = { u.hi with
        verdict := none, verdictDue := false, owed := false, defectCount := min 2 (u.hi.defectCount + 1) }
      ∧ (faultOf t .headData).active = true ∧ (faultOf t .headData).latched = true
      ∧ (u.hi.defectCount = 1 → (faultOf t .headFault).active = true ∧ (faultOf t .headFault).latched = true
        ∧ t.pe.pause = { u.pe.pause with headFault := true })
      ∧ (u.hi.defectCount ≠ 1 → (faultOf t .headFault).active = (faultOf u .headFault).active
        ∧ (faultOf t .headFault).latched = (faultOf u .headFault).latched ∧ t.pe.pause = u.pe.pause) := by
  intro t
  have ht : t = { offerNotices (applyVerdict u) with pe := { (offerNotices (applyVerdict u)).pe with
      engine := .holding, label := none, presented := some { copy := l.copy, waste := waste }, stepTime := 0 } } := by
    show present l s = _
    simp only [present, hc]
  clear_value t
  obtain ⟨hjq, hlp, hhi, hd1, hd2, hf1, hf2⟩ := applyVerdict_of_defect hv
  generalize offerNotices (applyVerdict u) = w at *
  have hfm : t.fm = w.fm := by rw [ht]
  have hdata := faultOf_congr hfm .headData
  have hfault := faultOf_congr hfm .headFault
  have hpause : t.pe.pause = w.pe.pause := by rw [ht]
  rw [hdata, hfault, hpause]
  refine ⟨by rw [ht], by rw [ht], by rw [ht], ?_, ?_, ?_, hd1, hd2, hf1, hf2⟩
  · exact (congrArg State.jq ht).trans hjq
  · exact (congrArg State.lp ht).trans hlp
  · exact (congrArg State.hi ht).trans hhi

/-- The copy of a label with marks at presentation, its job having another copy to end. -/
theorem presentCopy_marked_spec {s : State} {id : CopyId} {c : Copy} {j : Job} (hc : copyOf s id = some c)
    (hm : c.marks.isEmpty = false) (hj : jobOf s id.tag = some j)
    (ho : ∃ x ∈ j.copies, x.number ≠ id.number ∧ x.state.isTerminal = false) :
    presentCopy (some id) s = (endCopy id c.marks.result s, true)
      ∧ copyOf (endCopy id c.marks.result s) id = some { c with state := .terminal c.marks.result, bound := false } :=
  ⟨(presentCopy_of_marked hc hm).trans (congrArg (·, true) (offerDone_endCopy hj ho rfl)), copyOf_endCopy _ hc⟩

/-! ## The feed-out (R162) -/

/-- A MEDIA_STEP of a feed-out short of its target (R162). -/
theorem exec_mediaStep_of_feedOut {s : State} {l : LabelContext} (level : SensorLevel) (hp : s.powered = true)
    (he : s.pe.engine = .feedingOut) (hl : s.pe.label = some l) (ha : l.arrived = false)
    (hr : reached s (feedTarget s l) = false) : exec (.mediaStep level) s = .next (feedOutStep level l s) := by
  show execMediaStep level s = _
  rw [execMediaStep, inEvent_of hp (by simp [he]), takeGeometry_of_busy (by simp [he]), moveStep]
  simp only [he, hl]
  exact congrArg Host.Outcome.next (if_neg (by simp [ha, hr]))

/-- A feed-out's step that leaves the target known, or unknown still, is its media step (R162). -/
theorem feedOutStep_of_short {level : SensorLevel} {s u : State} {b : Bool} {l : LabelContext}
    (hg : guardedStep level s = (u, b)) (hl : u.pe.label = some l)
    (hr : b = false → (feedTarget s l).isSome = false → reached u (feedTarget u l) = false) :
    feedOutStep level l s = u := by
  simp only [feedOutStep, hg, hl]
  refine if_neg fun hc => ?_
  obtain ⟨h1, h2, h3⟩ := hc
  rw [hr h1 h2] at h3
  cases h3

/-- FEED_OUT_COMPLETION at the label's target (R162). -/
theorem exec_feedOutCompletion {s : State} {l : LabelContext} {target : Int} (hp : s.powered = true)
    (he : s.pe.engine = .feedingOut) (hl : s.pe.label = some l) (ha : l.arrived = false)
    (ht : feedTarget s l = some target) (hle : target ≤ s.pe.position) :
    exec .feedOutCompletion s = .next (completeFeedOut l s) := by
  have hr : reached s (feedTarget s l) = true := by
    rw [ht]
    exact decide_eq_true hle
  show execFeedOutCompletion s = _
  rw [execFeedOutCompletion, inEvent_of hp (by simp [he]), takeGeometry_of_busy (by simp [he])]
  simp only [hl, ha, hr, true_and, if_true]

/-- On a calibrated engine of sensed stock the feed-out goes to the next top and PEEL more (R162). -/
theorem feedTarget_of_sensed {s : State} (l : LabelContext) (hc : s.pe.calibrated = true) (hs : s.pe.stock ≠ .cont) :
    feedTarget s l = s.pe.tops.head?.map (· + (l.peel : Int)) := by
  unfold feedTarget
  split <;> simp_all

/-- A feed-out whose target is unknown is that of a calibrated engine of sensed stock with no top ahead. -/
theorem unknown_feedTarget {s : State} {l : LabelContext} (h : (feedTarget s l).isSome = false) :
    s.pe.calibrated = true ∧ s.pe.stock ≠ .cont ∧ s.pe.tops = [] := by
  unfold feedTarget at h
  split at h
  · refine ⟨by assumption, by simp_all, by simpa using h⟩
  · refine ⟨by assumption, by simp_all, by simpa using h⟩
  · cases h
  · cases h

/-- A step of a feed-out short of its target, where no notice was owed (R151, R162, R165). -/
theorem feedOutStep_of_stepped {level : SensorLevel} {s : State} {l : LabelContext} {pe : PrintEngine}
    (hl : s.pe.label = some l) (hpos : s.pe.position < 2147483647) (hn : ∀ k, noticeOwed s k = false)
    (h : Stepped level s.pe pe) : feedOutStep level l s =
      if guardTrips { s with pe := pe } then offerNotices (tripGuard { s with pe := pe }) else { s with pe := pe } := by
  obtain ⟨kpos, ke, kl, -, -, -, -, kcal, kstock⟩ := stepped_keeps h
  have hg := guardedStep_of_stepped hpos hn h
  cases hgt : guardTrips { s with pe := pe } with
  | true =>
    rw [hgt, if_pos rfl] at hg
    obtain ⟨t, ht, wpe, -⟩ := tripGuard_of_label_spec (s := { s with pe := pe }) (l := l) (kl.trans hl) hn
    have hlab : (offerNotices (tripGuard { s with pe := pe })).pe.label = some l := by
      rw [ht, wpe]
      exact kl.trans hl
    rw [if_pos rfl]
    exact feedOutStep_of_short hg hlab fun hb => absurd hb (by decide)
  | false =>
    rw [hgt, if_neg (by decide)] at hg
    rw [if_neg (by decide)]
    refine feedOutStep_of_short hg (kl.trans hl) fun _ hu => not_reached_of_lt fun m hm => ?_
    obtain ⟨hcal, hs, htops⟩ := unknown_feedTarget hu
    rw [feedTarget_of_sensed (s := { s with pe := pe }) l (kcal.trans hcal) (by rw [kstock]; exact hs)] at hm
    rcases stepped_tops h with ht | ht <;> rw [htops] at ht <;> simp [ht] at hm
    show pe.position < m
    omega

/-- A step of a feed-out at the seventh violation, short of the guard's limit (R152). -/
theorem feedOutStep_of_seventh {level : SensorLevel} {s : State} {l : LabelContext} (hl : s.pe.label = some l)
    (hpos : s.pe.position < 2147483647) (hn : ∀ k, noticeOwed s k = false) (hs : Seventh level s.pe)
    (hlim : s.pe.position + 1 < l.top + (3 * l.pitch / 2 : Nat)) :
    feedOutStep level l s = raiseFault .senseFlip { s with pe := s.pe.flipped level } := by
  have hg := guardedStep_of_seventh hpos hn hs fun p hp => by
    have hp' : some (l.top, l.pitch) = some p := by rw [← hp]; simp only [guardedTop, hl]
    cases hp'
    exact hlim
  have hpe : (raiseFault .senseFlip { s with pe := s.pe.flipped level }).pe = s.pe.flipped level := by simp
  refine feedOutStep_of_short hg (by rw [hpe]; exact hl) fun _ hu => not_reached_of_lt fun m hm => ?_
  obtain ⟨hcal, hst, -⟩ := unknown_feedTarget hu
  rw [feedTarget_of_sensed l (by rw [hpe]; exact hcal) (by rw [hpe]; exact hst), hpe] at hm
  simp [PrintEngine.flipped] at hm

/-- A change of a copy leaves the other copies of its job. -/
theorem jobOf_mapCopy_other {s : State} {id : CopyId} {j : Job} (f : Copy → Copy) (h : jobOf s id.tag = some j) :
    ∃ y, jobOf (mapCopy id f s) id.tag = some y ∧ ∀ x ∈ j.copies, x.number ≠ id.number → x ∈ y.copies := by
  refine ⟨_, jobOf_mapJob_self _ h rfl, fun x hx hn => ?_⟩
  exact List.mem_map.2 ⟨x, hx, if_neg hn⟩

/-- CLOSING_COMPLETION of a label that stands at its target for its verdict (R141, R162). -/
theorem exec_closingCompletion_of_arrived {s u : State} {l : LabelContext} {rb : Dots} (hp : s.powered = true)
    (he : s.pe.engine = .feedingOut) (hc : s.hi.closing = true) (hl : u.pe.label = some l) (ha : l.arrived = true)
    (hu : { compareReadback rb s with hi := { (compareReadback rb s).hi with
      closing := false, lastMask := 0, owed := false, verdict := some (compareReadback rb s).hi.defect } } = u) :
    exec (.closingCompletion rb) s = .next (present l u) := by
  have hlab : (compareReadback rb s).pe.label = some l := by
    rw [← hl, ← hu]
  rw [exec_closingCompletion hp hc, takeGeometry_of_busy (by simp [he])]
  simp only [completeClosing, hlab, ha, if_true, hu]

/-- Settles O47: the feed-out's steps, its completion, and the presentation of its label. -/
theorem feedOutPresentsLabel : Obligations.FeedOutPresentsLabel := by
  unfold Obligations.FeedOutPresentsLabel
  refine ⟨fun s l target hp he hl ha ht hlt hpos hn htops => ?_,
    fun s l level hp he hl ha ht hpos hn => ?_, fun s l target hp he hl ha ht hle => ?_,
    fun s l rb id c hp he hl ha hcl hor hd hid hc hm hn => ?_,
    fun s l rb id c hp he hl ha hcl ho hrb hd hid hc hst hcal hother => ?_⟩
  · have hr : reached s (feedTarget s l) = false := not_reached_of_lt fun m hm => by
      rw [ht] at hm
      cases hm
      exact hlt
    rw [exec_mediaStep_of_feedOut _ hp he hl ha hr]
    refine congrArg Host.Outcome.next (feedOutStep_of_short (guardedStep_quiet htops hpos hn) hl fun _ hu => ?_)
    rw [ht] at hu
    cases hu
  · intro limit lost
    have hex := exec_mediaStep_of_feedOut level hp he hl ha (not_reached_of_lt ht)
    have htrip : ∀ pe, Stepped level s.pe pe → (guardTrips { s with pe := pe } = true ↔ lost pe) := by
      intro pe h
      obtain ⟨kpos, ke, kl, -⟩ := stepped_keeps h
      have := guardTrips_of_label (s := { s with pe := pe }) (l := l) (kl.trans hl) (.inr (ke.trans he))
      rwa [show ({ s with pe := pe } : State).pe.position = s.pe.position + 1 from kpos] at this
    refine ⟨fun pe h hnl => ⟨?_, fun n ns hcal hs htop => ⟨?_, fun hnil => ?_⟩⟩, fun pe h hlost => ?_,
      fun g c h1 h2 h3 h4 h5 hg hc hlt hv h6 hlim => ?_⟩
    · rw [hex, feedOutStep_of_stepped hl hpos hn h, if_neg fun hg => hnl ((htrip pe h).1 hg)]
    · rw [feedTarget_of_sensed (s := { s with pe := pe }) l hcal hs]
      simp [htop]
    · have kpos := (stepped_keeps h).1
      rcases stepped_tops h with hto | hto <;> rw [hnil, htop] at hto <;> simp at hto
      omega
    · obtain ⟨-, -, kl, -, kpause, -⟩ := stepped_keeps h
      rw [feedOutStep_of_stepped hl hpos hn h, if_pos ((htrip pe h).2 hlost)] at hex
      obtain ⟨t, ht, wpe, hrest⟩ := tripGuard_of_label_spec (s := { s with pe := pe }) (l := l) (kl.trans hl) hn
      have hraise := (raiseFault_congr (s := s) (t := { s with pe := pe }) .mediaOut rfl rfl rfl).1
      rw [ht] at hex
      obtain ⟨whi, hf1, hf2, hjl, hlp, hbr, hcopy⟩ := hrest
      refine ⟨t, hex, ?_, whi, hf1, hf2, hjl.trans hraise, hlp, hbr, hcopy⟩
      rw [wpe, kpause]
    · rw [hex, feedOutStep_of_seventh hl hpos hn ⟨h1, h2, h3, h4, h5, h6, g, c, hg, hc, hlt, hv⟩ hlim]
      rfl
  · have hex := exec_feedOutCompletion hp he hl ha ht hle
    refine ⟨fun h => hex.trans (congrArg _ (completeFeedOut_of_handed h)),
      fun h1 h2 => hex.trans (congrArg _ (if_pos (by simp [verdictAwaited, h1, h2]))), fun hv hno hn => ?_,
      fun hv => ?_⟩
    · intro forsaken s1
      have hpres : exec .feedOutCompletion s = .next (present l s) :=
        hex.trans (congrArg _ (completeFeedOut_of_handed (hv.imp_right fun h => by simp [h])))
      refine ⟨fun id c hid hc hm => ?_, fun hnone => ?_, fun id c j hid hc hm hj ho hcal => ?_⟩
      · have hcopy : presentCopy l.copy s = (setCopyState id .presented s, false) := by
          rw [hid]
          exact presentCopy_of_clean hc hm
        rw [hpres, present_of_sound hcopy hno hn]
        rfl
      · have hcopy : presentCopy l.copy s = (s, true) := by rw [hnone]; rfl
        rw [hpres, present_of_sound hcopy hno hn]
      · obtain ⟨hcopy, hend⟩ := presentCopy_marked_spec hc hm hj ho
        rw [← hid] at hcopy
        rw [present_of_sound hcopy hno hn] at hpres
        refine ⟨_, hpres, ?_, rfl, ?_, rfl, rfl, rfl, rfl⟩
        · rw [endCopy_pe _ hcal]
        · exact (copyOf_congr (s := endCopy id c.marks.result s) rfl id).trans hend
    · intro forsaken
      have hpres : exec .feedOutCompletion s = .next (present l s) :=
        hex.trans (congrArg _ (completeFeedOut_of_handed (.inr (by simp [hv]))))
      obtain ⟨u, waste, hcopy⟩ : ∃ u waste, presentCopy l.copy s = (u, waste) := ⟨_, _, rfl⟩
      obtain ⟨uhi, ufm, upause⟩ := presentCopy_keeps hcopy
      obtain ⟨h1, h2, h3, hjq, hlp, hhi, hd1, hd2, hf1, hf2⟩ := present_of_defect hcopy (by rw [uhi]; exact hv)
      rw [uhi] at hhi hf1 hf2
      rw [upause] at hf1 hf2
      rw [faultOf_congr ufm] at hf2
      refine ⟨_, waste, hpres, h1, h2, h3, fun hnone => ?_, fun id c hid hc hm => ⟨?_, fun _ ⟨j, hj, ho⟩ => ?_⟩,
        fun id c hid hc hm => ?_, hhi, hd1, hd2, hf1, hf2⟩
      · rw [hnone] at hcopy
        exact (congrArg Prod.snd hcopy).symm
      · rw [hid, presentCopy_of_marked hc hm] at hcopy
        exact (congrArg Prod.snd hcopy).symm
      · obtain ⟨hmarked, hend⟩ := presentCopy_marked_spec hc hm hj ho
        rw [hid, hmarked] at hcopy
        have hu : endCopy id c.marks.result s = u := congrArg Prod.fst hcopy
        rw [← hu] at hjq hlp
        exact ⟨(copyOf_congr hjq id).trans hend, hlp⟩
      · rw [hid, presentCopy_of_clean hc hm] at hcopy
        have hu : setCopyState id .presented s = u := congrArg Prod.fst hcopy
        rw [← hu] at hjq hlp
        exact ⟨(congrArg Prod.snd hcopy).symm, (copyOf_congr hjq id).trans (copyOf_setCopyState _ hc), hlp⟩
  · have hclean := compareReadback_of_clean (rb := rb) (s := s) (hor.imp_right .inl)
    let u : State := { s with hi := { s.hi with
      closing := false, lastMask := 0, owed := false, verdict := some false } }
    have hex := exec_closingCompletion_of_arrived (u := u) hp he hcl hl ha (by rw [hclean, hd])
    have hcopy : presentCopy l.copy u = (setCopyState id .presented u, false) := by
      rw [hid]
      exact presentCopy_of_clean hc hm
    rw [hex, present_of_sound hcopy (by simp [u]) hn, hid]
    rfl
  · intro forsaken
    obtain ⟨j, hj, hothers⟩ := hother
    have hmiss := compareReadback_of_copy ho hrb hd hl hid
    generalize hu : ({ compareReadback rb s with hi := { (compareReadback rb s).hi with
      closing := false, lastMask := 0, owed := false, verdict := some (compareReadback rb s).hi.defect } } : State) = u
    rw [hmiss] at hu
    have hujq : u.jq = (addMark id (fun m => { m with defect := true }) s).jq := by rw [← hu]; rfl
    have hulp : u.lp = s.lp := by rw [← hu]; rfl
    have hulab : u.pe.label = some l := by rw [← hu]; exact hl
    have huhi : u.hi.verdict = some true ∧ u.hi.defectCount = s.hi.defectCount ∧ u.hi.closing = false := by
      rw [← hu]
      exact ⟨rfl, rfl, rfl⟩
    obtain ⟨hverdict, hcount, hclosing⟩ := huhi
    have hucopy : copyOf u id = some { c with marks := { c.marks with defect := true } } :=
      (copyOf_congr hujq id).trans (copyOf_addMark (fun m => { m with defect := true }) hc hst)
    obtain ⟨y, hy, hkeep⟩ := jobOf_mapCopy_other
      (fun c => if c.state = .printing then { c with marks := { c.marks with defect := true } } else c) hj
    obtain ⟨x, hx, hxn, hxt⟩ := hothers
    have huj : jobOf u id.tag = some y := by
      rw [jobOf, hujq]
      exact hy
    obtain ⟨hcopy, hend⟩ := presentCopy_marked_spec hucopy (by simp [Marks.isEmpty]) huj ⟨x, hkeep x hx hxn, hxn, hxt⟩
    rw [← hid] at hcopy
    obtain ⟨h1, h2, h3, hjq, hlp, hhi, hd1, hd2, -, -⟩ := present_of_defect hcopy hverdict
    rw [hid] at h3
    have hex := exec_closingCompletion_of_arrived hp he hcl hulab ha (by rw [← hu, hmiss])
    refine ⟨_, hex, h1, h2, h3, (copyOf_congr hjq id).trans hend, hlp.trans ?_, ?_, ?_, ?_, hd1, hd2⟩
    · show { u.lp with parcels := u.lp.parcels.map (Parcel.forsake id) } = _
      rw [hulp]
      rfl
    · rw [hhi, ← hcount]
      rfl
    · rw [hhi]
    · rw [hhi]
      exact hclosing

end Sys2Proof.Machine
end

section
/-! SET: the values it writes and what their owners do with them (12.1). -/

namespace Sys2Proof.Machine

/-! ## Where a record is taken (R16) -/

/-- A record is taken with the part running, no rate switch pending and nothing waiting for the report queue (R16). -/
theorem ready_of_takes {α : Type} {k : Keyword} {form : List Param → FormCheck α} {v : α} {s : State}
    (h : Takes k form v s) : parserReady s = true := by
  obtain ⟨rest, ps, hfront, -⟩ := h
  exact ready_of_frontRest hfront

/-- No soft reset is in progress where a record is taken (R16). -/
theorem resetting_of_takes {α : Type} {k : Keyword} {form : List Param → FormCheck α} {v : α} {s : State}
    (h : Takes k form v s) : resetting s = false := by
  have hready := ready_of_takes h
  simp only [parserReady, Bool.and_eq_true, beq_iff_eq] at hready
  simp [resetting, hready.2]

/-! ## The geometry that comes into use (R170, R204) -/

/-- Nothing hinders a geometry from coming into use on an IDLE engine with no soft reset in progress (R204). -/
theorem takeGeometry_settles {s : State} (he : s.pe.engine = .idle) (hr : resetting s = false) :
    (takeGeometry s).pe.stock = s.ss.settings.media ∧ (takeGeometry s).pe.contPitch = s.ss.settings.pitch := by
  simp only [takeGeometry, he, hr, true_and, if_true, applyGeometry, forgetStock]
  (repeat' split) <;> simp_all

/-- A geometry in use stays in use until MEDIA or PITCH is written. -/
theorem takeGeometry_of_taken {s t : State} (hpe : t.pe = (takeGeometry s).pe)
    (hm : t.ss.settings.media = s.ss.settings.media) (hp : t.ss.settings.pitch = s.ss.settings.pitch)
    (hs : t.ss.start = s.ss.start) : takeGeometry t = t := by
  have he : t.pe.engine = s.pe.engine := by rw [hpe, (takeGeometry_pe s).1]
  have hr : resetting t = resetting s := by rw [resetting, resetting, hs]
  by_cases h1 : t.pe.engine = .idle
  · cases h2 : resetting t with
    | true => exact takeGeometry_of_resetting h2
    | false =>
      obtain ⟨g1, g2⟩ := takeGeometry_settles (he.symm.trans h1) (hr.symm.trans h2)
      exact takeGeometry_of_same (by rw [hm, hpe, g1]) (by rw [hp, hpe, g2])
  · exact takeGeometry_of_busy h1

/-! ## What the owners do with a record written (R200) -/

/-- Routes kept leave every reported state (R196). -/
theorem refreshReported_of_same {before s : State} (h : s.ss.settings.routes = before.ss.settings.routes) :
    FaultKind.all.foldl (fun s k => refreshReported before k s) s = s := by
  refine List.foldl_fixed' (fun k => if_neg ?_) _
  rintro ⟨h1, h2⟩
  rw [routeOf, h] at h1
  rw [routeOf] at h2
  rw [h1] at h2
  cases h2

/-- A record handed over, from the geometry that comes into use, the rate asked for, and the reported states. -/
theorem handOver_eq {before s u v w : State}
    (hu : takeGeometry (if s.ss.settings.idle = before.ss.settings.idle then s
      else restartIdleTimer s.ss.settings.idle s) = u)
    (hv : requestRate s.ss.settings.rate u = v)
    (hw : FaultKind.all.foldl (fun s k => refreshReported before k s) v = w) :
    handOver before s = if s.ss.settings.start = before.ss.settings.start then offerNotices w
      else testLabelStart (offerNotices w) := by
  unfold handOver
  dsimp only
  rw [hu, hv, hw]

/-- A record handed over with its routes as before, where no notice is owed. -/
theorem handOver_of_routes {before s u v : State}
    (hu : takeGeometry (if s.ss.settings.idle = before.ss.settings.idle then s
      else restartIdleTimer s.ss.settings.idle s) = u)
    (hv : requestRate s.ss.settings.rate u = v) (hr : v.ss.settings.routes = before.ss.settings.routes)
    (hn : ∀ k, noticeOwed v k = false) :
    handOver before s = if s.ss.settings.start = before.ss.settings.start then v else testLabelStart v := by
  rw [handOver_eq hu hv (refreshReported_of_same hr), offerNotices_of_none_owed v hn]

/-- The rate in use asked for again changes nothing (R2). -/
theorem requestRate_of_same {rate : Nat} {s : State} (h : rate = s.jl.rate) : requestRate rate s = s := if_pos h

/-! ## SET taken (R200) -/

/-- SET taken (R200). -/
theorem exec_set {s : State} {items : List SetItem} (h : Takes .set formSet items s) :
    exec .set s = .next (takeSet items (removeRecord s)) := by
  show execSet s = _
  rw [execSet, onRecord_of_takes h]

/-- A SET has no busy key where every key's need is met (R200). -/
theorem setBusy_of_met {s : State} {items : List SetItem} (he : ∀ i ∈ items, i.needsIdle = true → s.pe.engine = .idle)
    (ho : ∀ i ∈ items, i.needsPortOff = true → s.lp.on = false) : setBusy s items = false := by
  rw [setBusy, List.any_eq_false]
  intro i hi hb
  simp only [Bool.or_eq_true, Bool.and_eq_true, bne_iff_ne] at hb
  rcases hb with ⟨h1, h2⟩ | ⟨h1, h2⟩
  · exact h2 (he i hi h1)
  · rw [ho i hi h1] at h2
    cases h2

/-- The part after the SET record has left the buffer, with a settings record in place of the old. -/
def wrote (s : State) (x : Settings) : State := { removeRecord s with ss := { s.ss with settings := x } }

/-- A SET with no busy key hands the record it writes to the owners (R200). -/
theorem exec_set_of_free {s : State} {items : List SetItem} {y : Settings} (h : Takes .set formSet items s)
    (hb : setBusy (removeRecord s) items = false) (hy : writeItems items s.ss.settings = y) :
    exec .set s = .next (handOver (removeRecord s) (wrote s y)) := by
  rw [exec_set h, takeSet, if_neg (Bool.eq_false_iff.1 hb)]
  have hx : (removeRecord s).ss.settings = s.ss.settings := rfl
  rw [hx, hy]
  rfl

/-- What a kind owes depends on its route, the start-up, its flags and the waiting list alone. -/
theorem noticeOwed_of_route {s t : State} {k : FaultKind} (hr : routeOf t k = routeOf s k)
    (hs : t.ss.start = s.ss.start) (hf : faultOf t k = faultOf s k) (hw : t.jl.waiting = s.jl.waiting) :
    noticeOwed t k = noticeOwed s k := by
  simp only [noticeOwed, hr, hs, hf, hw]

/-- It is the same for every kind where the routes and the flags are. -/
theorem noticeOwed_of_routes {s t : State} (hr : t.ss.settings.routes = s.ss.settings.routes)
    (hs : t.ss.start = s.ss.start) (hf : t.fm = s.fm) (hw : t.jl.waiting = s.jl.waiting) (k : FaultKind) :
    noticeOwed t k = noticeOwed s k :=
  noticeOwed_of_route (by rw [routeOf, routeOf, hr]) hs (faultOf_congr hf k) hw

/-- A SET that leaves every route, from the geometry that comes into use and the rate asked for (R200). -/
theorem exec_set_of_routes {s u v : State} {items : List SetItem} {y : Settings} (h : Takes .set formSet items s)
    (hb : setBusy (removeRecord s) items = false) (hy : writeItems items s.ss.settings = y)
    (hroutes : y.routes = s.ss.settings.routes)
    (hu : takeGeometry (if y.idle = s.ss.settings.idle then wrote s y else restartIdleTimer y.idle (wrote s y)) = u)
    (hv : requestRate y.rate u = v) (hn : ∀ k, noticeOwed s k = false)
    (hsame : v.ss = (wrote s y).ss ∧ v.fm = s.fm ∧ v.jl.waiting = s.jl.waiting) :
    exec .set s = .next (if y.start = s.ss.settings.start then v else testLabelStart v) := by
  obtain ⟨hss, hfm, hw⟩ := hsame
  have hr : v.ss.settings.routes = s.ss.settings.routes := by rw [hss]; exact hroutes
  have howed : ∀ k, noticeOwed v k = false := fun k =>
    (noticeOwed_of_routes hr (by rw [hss]; rfl) hfm hw k).trans (hn k)
  rw [exec_set_of_free h hb hy]
  exact congrArg Host.Outcome.next (handOver_of_routes hu hv hr howed)

/-- The rate in use is asked for again where RATE is not written. -/
theorem requestRate_wrote {s : State} {y : Settings} {u : State} (hrate : y.rate = s.jl.rate)
    (hu : u.jl = (wrote s y).jl) : requestRate y.rate u = u :=
  requestRate_of_same (by rw [hu, hrate]; simp [wrote, removeRecord])

/-- A SET that leaves IDLE, MEDIA, PITCH, RATE and every route: the record is written, and a changed START tests the
label start (R200). -/
theorem exec_set_of_plain {s : State} {items : List SetItem} {y : Settings} (h : Takes .set formSet items s)
    (hb : setBusy (removeRecord s) items = false) (hy : writeItems items s.ss.settings = y)
    (hn : ∀ k, noticeOwed s k = false) (hidle : y.idle = s.ss.settings.idle) (hm : y.media = s.ss.settings.media)
    (hp : y.pitch = s.ss.settings.pitch) (hrate : y.rate = s.jl.rate) (hroutes : y.routes = s.ss.settings.routes) :
    exec .set s = .next (if y.start = s.ss.settings.start then wrote s y else testLabelStart (wrote s y)) := by
  have hgeo : takeGeometry (if y.idle = s.ss.settings.idle then wrote s y else restartIdleTimer y.idle (wrote s y))
      = wrote s y := by
    rw [if_pos hidle]
    exact takeGeometry_of_taken (s := s) rfl hm hp rfl
  exact exec_set_of_routes h hb hy hroutes hgeo (requestRate_wrote hrate rfl) hn
    ⟨rfl, rfl, by simp [wrote, removeRecord]⟩

/-- A SET that leaves START too writes its record and does nothing else. -/
theorem exec_set_of_kept {s : State} {items : List SetItem} {y : Settings} (h : Takes .set formSet items s)
    (hb : setBusy (removeRecord s) items = false) (hy : writeItems items s.ss.settings = y)
    (hn : ∀ k, noticeOwed s k = false) (hidle : y.idle = s.ss.settings.idle) (hm : y.media = s.ss.settings.media)
    (hp : y.pitch = s.ss.settings.pitch) (hrate : y.rate = s.jl.rate) (hroutes : y.routes = s.ss.settings.routes)
    (hstart : y.start = s.ss.settings.start) : exec .set s = .next (wrote s y) :=
  (exec_set_of_plain h hb hy hn hidle hm hp hrate hroutes).trans (congrArg Host.Outcome.next (if_pos hstart))

/-- A SET of START writes it, and a change tests the label start (R200). -/
theorem exec_set_of_start {s : State} {items : List SetItem} {n : Nat} (h : Takes .set formSet items s)
    (hb : setBusy (removeRecord s) items = false)
    (hy : writeItems items s.ss.settings = { s.ss.settings with start := n }) (hn : ∀ k, noticeOwed s k = false)
    (hrate : s.ss.settings.rate = s.jl.rate) :
    exec .set s = .next (if n = s.ss.settings.start then wrote s s.ss.settings
      else testLabelStart (wrote s { s.ss.settings with start := n })) := by
  rw [exec_set_of_plain h hb hy hn rfl rfl rfl hrate rfl]
  refine congrArg Host.Outcome.next ?_
  by_cases hstart : n = s.ss.settings.start
  · rw [if_pos hstart, if_pos hstart, hstart]
  · rw [if_neg hstart, if_neg hstart]

/-- A SET of IDLE writes it, and a change restarts a running idle timer (R143, R200). -/
theorem exec_set_of_idle {s : State} {items : List SetItem} {n : Nat} (h : Takes .set formSet items s)
    (hb : setBusy (removeRecord s) items = false)
    (hy : writeItems items s.ss.settings = { s.ss.settings with idle := n }) (hn : ∀ k, noticeOwed s k = false)
    (hrate : s.ss.settings.rate = s.jl.rate) :
    exec .set s = .next { wrote s { s.ss.settings with idle := n } with
      hi := { s.hi with
        idleTimer := if n = s.ss.settings.idle then s.hi.idleTimer else s.hi.idleTimer.map fun _ => n } } := by
  have hgeo : takeGeometry (if n = s.ss.settings.idle then wrote s { s.ss.settings with idle := n }
      else restartIdleTimer n (wrote s { s.ss.settings with idle := n }))
      = { wrote s { s.ss.settings with idle := n } with hi := { s.hi with
          idleTimer := if n = s.ss.settings.idle then s.hi.idleTimer else s.hi.idleTimer.map fun _ => n } } := by
    split
    · exact takeGeometry_of_taken (s := s) rfl rfl rfl rfl
    · exact takeGeometry_of_taken (s := s) (t := restartIdleTimer n (wrote s { s.ss.settings with idle := n }))
        rfl rfl rfl rfl
  exact (exec_set_of_routes h hb hy rfl hgeo (requestRate_wrote hrate rfl) hn
    ⟨rfl, rfl, by simp [wrote, removeRecord]⟩).trans (congrArg Host.Outcome.next (if_pos rfl))

/-- A RATE that differs from the rate in use is switched to when the reports in the queue have left (R2). -/
theorem requestRate_of_new {rate : Nat} {s : State} (h : rate ≠ s.jl.rate) :
    requestRate rate s = { s with jl := if s.jl.reports = [] then { s.jl with rate := rate, rateSwitch := none }
      else { s.jl with rateSwitch := some { rate := rate, noted := s.jl.reports.length } } } := by
  rw [requestRate, if_neg h]
  unfold endRateSwitch
  dsimp only
  simp only [List.length_eq_zero_iff]
  split <;> rfl

/-- A geometry written on an IDLE engine comes into use at once (R170, R200). -/
theorem takeGeometry_wrote {s : State} (y : Settings) (he : s.pe.engine = .idle) (hr : resetting s = false) :
    (takeGeometry (wrote s y)).pe = (applyGeometry (wrote s y)).pe ∧ (wrote s y).pe.stock = s.ss.settings.media
      ∧ (wrote s y).pe.contPitch = s.ss.settings.pitch := by
  obtain ⟨h1, h2⟩ := takeGeometry_settles he hr
  have hidle : (wrote s y).pe.engine = .idle := (takeGeometry_pe s).1.trans he
  have hrun : resetting (wrote s y) = false := hr
  exact ⟨if_pos ⟨hidle, hrun⟩, h1, h2⟩

/-- MEDIA written (R170). -/
theorem takeGeometry_wrote_media {s : State} (m : MediaKind) (he : s.pe.engine = .idle) (hr : resetting s = false) :
    takeGeometry (wrote s { s.ss.settings with media := m }) = { wrote s { s.ss.settings with media := m } with
      pe := if m = s.ss.settings.media then (removeRecord s).pe else { (removeRecord s).pe with
        stock := m, calibrated := false, violations := 0, lastCapture := none, lastGapStart := none
        tops := [] } } := by
  obtain ⟨hpe, hm, hp⟩ := takeGeometry_wrote { s.ss.settings with media := m } he hr
  generalize hw : wrote s { s.ss.settings with media := m } = w at *
  have hset : w.ss.settings = { s.ss.settings with media := m } := by rw [← hw]; rfl
  have hold : w.pe = (removeRecord s).pe := by rw [← hw]; rfl
  have hres : (applyGeometry w).pe = if m = s.ss.settings.media then w.pe else { w.pe with
      stock := m, calibrated := false, violations := 0, lastCapture := none, lastGapStart := none, tops := [] } := by
    simp only [applyGeometry, forgetStock, hset, hm, hp]
    split <;> simp_all
  show { w with pe := (takeGeometry w).pe } = _
  rw [hpe, hres, hold]

/-- PITCH written (R170). -/
theorem takeGeometry_wrote_pitch {s : State} (n : Nat) (he : s.pe.engine = .idle) (hr : resetting s = false) :
    takeGeometry (wrote s { s.ss.settings with pitch := n }) = { wrote s { s.ss.settings with pitch := n } with
      pe := { (removeRecord s).pe with
        contPitch := n
        calibrated := if n ≠ s.ss.settings.pitch ∧ s.ss.settings.media = .cont then false
          else (removeRecord s).pe.calibrated
        tops := if n ≠ s.ss.settings.pitch ∧ s.ss.settings.media = .cont then [] else (removeRecord s).pe.tops } } := by
  obtain ⟨hpe, hm, hp⟩ := takeGeometry_wrote { s.ss.settings with pitch := n } he hr
  generalize hw : wrote s { s.ss.settings with pitch := n } = w at *
  have hset : w.ss.settings = { s.ss.settings with pitch := n } := by rw [← hw]; rfl
  have hold : w.pe = (removeRecord s).pe := by rw [← hw]; rfl
  have hres : (applyGeometry w).pe = { w.pe with
      contPitch := n
      calibrated := if n ≠ s.ss.settings.pitch ∧ s.ss.settings.media = .cont then false else w.pe.calibrated
      tops := if n ≠ s.ss.settings.pitch ∧ s.ss.settings.media = .cont then [] else w.pe.tops } := by
    simp only [applyGeometry, hset, hm, hp, if_true]
    by_cases h : n = s.ss.settings.pitch
    · simp [h, ← hp, ← hm]
    · simp [h]
  show { w with pe := (takeGeometry w).pe } = _
  rw [hpe, hres, hold]

/-- A route written (R196). -/
theorem routeOf_wrote {s : State} (k : FaultKind) (r : Route) (j : FaultKind) :
    routeOf (wrote s { s.ss.settings with routes := s.ss.settings.routes.set k.index r }) j
      = if j = k then r else routeOf s j := by
  show (s.ss.settings.routes.set k.index r)[j.index] = _
  split
  · rename_i h
    rw [h]
    exact Vector.getElem_set_self _
  · rename_i h
    exact Vector.getElem_set_ne _ _ fun he => h (FaultKind.index_injective he.symm)

/-- A reported state once cleared is cleared. -/
theorem refreshReported_refreshReported (before : State) (k : FaultKind) (s : State) :
    refreshReported before k (refreshReported before k s) = refreshReported before k s := by
  by_cases h : (routeOf s k).toHost = true ∧ (routeOf before k).toHost = false
  · have hr : refreshReported before k s = setFault k { faultOf s k with reported := false } s := if_pos h
    have hself := faultOf_setFault k k { faultOf s k with reported := false } s
    rw [if_pos rfl] at hself
    rw [hr]
    generalize hu : setFault k { faultOf s k with reported := false } s = u at hself
    have hsame : { faultOf u k with reported := false } = faultOf u k := by rw [hself]
    have hcond : (routeOf u k).toHost = true ∧ (routeOf before k).toHost = false := by rw [← hu]; exact h
    rw [refreshReported, if_pos hcond, hsame, setFault_faultOf]
  · have hr : refreshReported before k s = s := if_neg h
    rw [hr, hr]

/-- A route written leaves every other kind's reported state; one that newly includes HOST clears its own (R196). -/
theorem refreshReported_of_route {s : State} (k : FaultKind) (r : Route) :
    let w := wrote s { s.ss.settings with routes := s.ss.settings.routes.set k.index r }
    FaultKind.all.foldl (fun s' j => refreshReported (removeRecord s) j s') w = { w with
      fm := if r.toHost = true ∧ (routeOf s k).toHost = false then
          s.fm.set k.index { faultOf s k with reported := false }
        else s.fm } := by
  intro w
  have hroute := routeOf_wrote (s := s) k r
  have hact : refreshReported (removeRecord s) k w = { w with
      fm := if r.toHost = true ∧ (routeOf s k).toHost = false then
          s.fm.set k.index { faultOf s k with reported := false }
        else s.fm } := by
    rw [refreshReported, hroute k, if_pos rfl]
    show (if r.toHost = true ∧ (routeOf s k).toHost = false then _ else _) = _
    split <;> rfl
  have hother : ∀ j, j ≠ k → ∀ u : State, u.ss = w.ss → refreshReported (removeRecord s) j u = u := fun j hj u hu => by
    refine if_neg ?_
    have hj' : routeOf u j = routeOf s j := by
      rw [← (hroute j).trans (if_neg hj), routeOf, routeOf, hu]
    rw [hj']
    rintro ⟨h1, h2⟩
    have h3 : (routeOf s j).toHost = false := h2
    rw [h1] at h3
    cases h3
  rw [foldl_of_only (f := fun s' j => refreshReported (removeRecord s) j s') (k := k) (fun j hj => hother j hj w rfl)
    (fun j => ?_) (FaultKind.mem_all k), hact]
  by_cases hj : j = k
  · rw [hj]
    exact refreshReported_refreshReported _ _ _
  · exact hother j hj _ (by rw [hact])

/-- A SET of one route writes it, and its kind's notice is tested afresh (R196, R198). -/
theorem exec_set_of_route {s : State} {k : FaultKind} {r : Route} (h : Takes .set formSet [.route k r] s)
    (hb : setBusy (removeRecord s) [.route k r] = false)
    (hy : writeItems [.route k r] s.ss.settings
      = { s.ss.settings with routes := s.ss.settings.routes.set k.index r })
    (hn : ∀ k, noticeOwed s k = false) (hrate : s.ss.settings.rate = s.jl.rate) :
    exec .set s = .next (offerNotice k { wrote s { s.ss.settings with
      routes := s.ss.settings.routes.set k.index r } with
      fm := if r.toHost = true ∧ (routeOf s k).toHost = false then
          s.fm.set k.index { faultOf s k with reported := false }
        else s.fm }) := by
  have hroute := routeOf_wrote (s := s) k r
  have hfold := refreshReported_of_route (s := s) k r
  obtain ⟨y, hyy⟩ : ∃ y, { s.ss.settings with routes := s.ss.settings.routes.set k.index r } = y := ⟨_, rfl⟩
  have hkeys : y.idle = s.ss.settings.idle ∧ y.media = s.ss.settings.media ∧ y.pitch = s.ss.settings.pitch
      ∧ y.rate = s.ss.settings.rate ∧ y.start = s.ss.settings.start := by
    rw [← hyy]
    exact ⟨rfl, rfl, rfl, rfl, rfl⟩
  obtain ⟨hidle, hm, hp, hyrate, hstart⟩ := hkeys
  dsimp only at hfold
  rw [hyy] at hroute hfold hy ⊢
  have hgeo : takeGeometry (if y.idle = s.ss.settings.idle then wrote s y else restartIdleTimer y.idle (wrote s y))
      = wrote s y := by
    rw [if_pos hidle]
    exact takeGeometry_of_taken (s := s) rfl hm hp rfl
  have hhand := handOver_eq (before := removeRecord s) (s := wrote s y) (u := wrote s y) (v := wrote s y) hgeo
    (requestRate_wrote (hyrate.trans hrate) rfl) hfold
  have hwait : (wrote s y).jl.waiting = s.jl.waiting := by simp [wrote, removeRecord]
  rw [exec_set_of_free h hb hy]
  refine congrArg Host.Outcome.next ((hhand.trans (if_pos hstart)).trans (offerNotices_of_only k fun j hj => ?_))
  have hother := (hroute j).trans (if_neg hj)
  refine (noticeOwed_of_route (s := s) (k := j) ?_ ?_ ?_ ?_).trans (hn j)
  · exact hother
  · rfl
  · split
    · exact (faultOf_setFault k j { faultOf s k with reported := false } s).trans (if_neg hj)
    · rfl
  · exact hwait

/-- HB that fits HA is kept (R125). -/
theorem hbFor_of_fits {ha hb : Nat} (h4 : 4 ≤ hb) (h60 : hb ≤ 60 - ha) : hbFor ha hb = hb := by
  unfold hbFor clampNat clampInt
  omega

/-- A SET of one key but HA and HB writes that key alone, where HB fits (R125, R200). -/
theorem writeItems_of_one {x : Settings} {i : SetItem} (h4 : 4 ≤ x.energy.hb) (h60 : x.energy.hb ≤ 60 - x.energy.ha)
    (hha : (writeItem x i).energy.ha = x.energy.ha) (hhb : (writeItem x i).energy.hb = x.energy.hb)
    (hg : givenHb [i] = none) : writeItems [i] x = writeItem x i := by
  have hfit : hbFor (writeItem x i).energy.ha x.energy.hb = (writeItem x i).energy.hb := by
    rw [hha, hhb, hbFor_of_fits h4 h60]
  simp only [writeItems, List.foldl_cons, List.foldl_nil, hg, Option.getD_none, hfit]

/-- RATE's listed value (R2). -/
theorem rateFor_spec (v : Int) :
    ((rateFor v : Int) ≤ v ∨ rateFor v = 9600) ∧ ∀ r ∈ rates, (r : Int) ≤ v → r ≤ rateFor v := by
  have hmem : ∀ r ∈ rates, r = 9600 ∨ r = 19200 ∨ r = 38400 ∨ r = 57600 ∨ r = 115200 ∨ r = 230400 := by
    simp [rates]
  unfold rateFor
  refine ⟨by (repeat' split) <;> omega, fun r hr hle => ?_⟩
  rcases hmem r hr with rfl | rfl | rfl | rfl | rfl | rfl <;> (repeat' split) <;> omega

/-- Settles O58: the values written, their owners, and the busy keys. -/
theorem setWritesSettings : Obligations.SetWritesSettings := by
  unfold Obligations.SetWritesSettings
  refine ⟨fun s items h hb => ?_, fun s v h he hn hrate hha h4 h60 => ?_, fun s ha hb h he hn hrate => ?_,
    fun s v h he hn hha h4 h60 hne => ?_, fun s item h hleg hn hrate hidle hport => ?_⟩
  · have hbusy : setBusy (removeRecord s) items = true := by
      obtain ⟨x, hx, hor⟩ := hb
      rw [setBusy, List.any_eq_true]
      refine ⟨x, hx, ?_⟩
      rw [show (removeRecord s).pe.engine = s.pe.engine from (takeGeometry_pe s).1,
        show (removeRecord s).lp = s.lp from rfl]
      simpa using hor
    rw [exec_set h, takeSet, if_pos hbusy]
    rfl
  · have hb : setBusy (removeRecord s) [.speed v] = false := setBusy_of_met (by simp [SetItem.needsIdle])
      (by simp [SetItem.needsPortOff])
    exact exec_set_of_kept h hb (writeItems_of_one h4 h60 rfl rfl rfl) hn rfl rfl rfl hrate rfl rfl
  · have hbusy : setBusy (removeRecord s) [.ha ha, .hb hb] = false := setBusy_of_met (by simp [SetItem.needsIdle])
      (by simp [SetItem.needsPortOff])
    have hmax : clampNat 24 56 ha ≤ 56 := (clampNat_bounds (by decide) ha).2
    refine ⟨clampNat 24 56 ha, clampNat 4 (60 - clampNat 24 56 ha) hb,
      exec_set_of_kept h hbusy rfl hn rfl rfl rfl hrate rfl rfl,
      clampNat_eq ha (by omega), ?_⟩
    rw [clampNat_eq hb (by omega)]
    omega
  · have hbusy : setBusy (removeRecord s) [.rate v] = false := setBusy_of_met (by simp [SetItem.needsIdle])
      (by simp [SetItem.needsPortOff])
    have hgeo : takeGeometry (wrote s { s.ss.settings with rate := rateFor v })
        = wrote s { s.ss.settings with rate := rateFor v } := takeGeometry_of_taken (s := s) rfl rfl rfl rfl
    have hjl : (wrote s { s.ss.settings with rate := rateFor v }).jl.rate = s.jl.rate := by
      simp [wrote, removeRecord]
    have hreports : (wrote s { s.ss.settings with rate := rateFor v }).jl.reports = s.jl.reports := by
      simp [wrote, removeRecord]
    have hreq := requestRate_of_new (s := wrote s { s.ss.settings with rate := rateFor v }) (rate := rateFor v)
      (by rw [hjl]; exact hne)
    rw [hreports] at hreq
    have hx := (exec_set_of_routes (y := { s.ss.settings with rate := rateFor v }) h hbusy
      (writeItems_of_one h4 h60 rfl rfl rfl) rfl ((congrArg takeGeometry (if_pos rfl)).trans hgeo) hreq hn
      ⟨rfl, rfl, by dsimp only; split <;> simp [wrote, removeRecord]⟩).trans (congrArg Host.Outcome.next (if_pos rfl))
    obtain ⟨hle, hbest⟩ := rateFor_spec v
    refine ⟨rateFor_mem v, hle, hbest, fun hr => ?_, fun hr => ?_⟩
    · rw [if_neg hr] at hx
      exact hx
    · rw [if_pos hr] at hx
      exact hx
  · intro s0 old w
    obtain ⟨-, -, -, -, -, -, -, -, -, h4, h60, -⟩ := hleg
    have hbusy : setBusy (removeRecord s) [item] = false := setBusy_of_met
      (fun i hi hneed => by
        rw [List.mem_singleton] at hi
        rw [hi] at hneed
        exact (takeGeometry_pe s).1.trans (hidle hneed))
      (fun i hi hneed => by
        rw [List.mem_singleton] at hi
        rw [hi] at hneed
        exact hport hneed)
    have hrun : resetting s = false := resetting_of_takes h
    cases item with
    | rate v => trivial
    | speed v => trivial
    | ha v => trivial
    | hb v => trivial
    | dark v =>
      exact exec_set_of_kept h hbusy (writeItems_of_one h4 h60 rfl rfl rfl) hn rfl rfl rfl hrate rfl rfl
    | basew v =>
      exact exec_set_of_kept h hbusy (writeItems_of_one h4 h60 rfl rfl rfl) hn rfl rfl rfl hrate rfl rfl
    | split v =>
      exact exec_set_of_kept h hbusy (writeItems_of_one h4 h60 rfl rfl rfl) hn rfl rfl rfl hrate rfl rfl
    | peel v =>
      exact exec_set_of_kept h hbusy (writeItems_of_one h4 h60 rfl rfl rfl) hn rfl rfl rfl hrate rfl rfl
    | mode m =>
      exact exec_set_of_kept h hbusy (writeItems_of_one h4 h60 rfl rfl rfl) hn rfl rfl rfl hrate rfl rfl
    | applyd v =>
      exact exec_set_of_kept h hbusy (writeItems_of_one h4 h60 rfl rfl rfl) hn rfl rfl rfl hrate rfl rfl
    | start v => exact exec_set_of_start h hbusy (writeItems_of_one h4 h60 rfl rfl rfl) hn hrate
    | idle v => exact exec_set_of_idle h hbusy (writeItems_of_one h4 h60 rfl rfl rfl) hn hrate
    | media m =>
      exact (exec_set_of_routes (y := { old with media := m }) h hbusy (writeItems_of_one h4 h60 rfl rfl rfl) rfl
        ((congrArg takeGeometry (if_pos rfl)).trans (takeGeometry_wrote_media m (hidle rfl) hrun))
        (requestRate_wrote hrate rfl) hn ⟨rfl, rfl, by simp [wrote, removeRecord]⟩).trans
        (congrArg Host.Outcome.next (if_pos rfl))
    | pitch v =>
      exact (exec_set_of_routes (y := { old with pitch := clampNat 8 2400 v }) h hbusy
        (writeItems_of_one h4 h60 rfl rfl rfl) rfl
        ((congrArg takeGeometry (if_pos rfl)).trans (takeGeometry_wrote_pitch _ (hidle rfl) hrun))
        (requestRate_wrote hrate rfl) hn ⟨rfl, rfl, by simp [wrote, removeRecord]⟩).trans
        (congrArg Host.Outcome.next (if_pos rfl))
    | route k r =>
      exact exec_set_of_route h hbusy (writeItems_of_one h4 h60 rfl rfl rfl) hn hrate

end Sys2Proof.Machine
end

section
/-! SAVE, the write, and the reload of the settings at power-on and after a soft reset (12.2 to 12.5). -/

namespace Sys2Proof.Machine

/-! ## The values of a load (R201, R203) -/

/-- The values a load fills in: the image's, or the defaults where it is bad (R201). -/
def loadedValues (ss : SettingsStore) : Settings × Vector Counter 8 :=
  (loadedImage ss).getD (defaultSettings, Vector.replicate 8 defaultCounter)

/-- The flags after a load: SETTINGS-LOST with its reported state SET where the image is bad (R199, R203). -/
def loadedFlags (s : State) : Vector FaultRecord 15 :=
  if (loadedImage s.ss).isNone then
    s.fm.set FaultKind.settingsLost.index { active := true, latched := true, reported := true }
  else s.fm

/-- A load fills the settings, the counters and the energy in use, and a bad image leaves SETTINGS-LOST (R203). -/
theorem reloadSettings_eq (s : State) :
    reloadSettings s = { s with
      ss := { s.ss with settings := (loadedValues s.ss).1 }
      cb := (loadedValues s.ss).2
      stu := s.stu.load (loadedValues s.ss).1.energy
      fm := loadedFlags s } := by
  unfold reloadSettings fillSettings loadedValues loadedFlags
  cases h : loadedImage s.ss with
  | some v => simp
  | none => rfl

/-! ## RDY and the notices (R15, R16, R198) -/

/-- RDY offered with a position free and nothing waiting enters the queue and ends the start (R15, R16). -/
theorem offerReport_rdy_of_free {s : State} (good : Bool) (hfree : s.jl.reports.length < 16)
    (hw : s.jl.waiting = []) :
    ∃ b, offerReport (.rdy good) s = { s with
      ss := { s.ss with start := .running }
      jl := { s.jl with reports := s.jl.reports ++ [.rdy good], sending := b } } := by
  have henter : offerReport (.rdy good) s = enterReport (.rdy good) s := if_pos ⟨hfree, hw⟩
  rw [henter, enterReport, beginCharacter_eq]
  exact ⟨_, rfl⟩

/-- RDY offered with the queue full waits (R15). -/
theorem offerReport_of_full {s : State} (r : Report) (hfull : 16 ≤ s.jl.reports.length) :
    offerReport r s = { s with jl := { s.jl with waiting := s.jl.waiting ++ [r] } } :=
  if_neg fun h => absurd h.1 (Nat.not_lt.2 hfull)

/-- A notice leaves the rate in use and the switch pending. -/
theorem offerNotice_rate (k : FaultKind) (s : State) :
    (offerNotice k s).jl.rate = s.jl.rate ∧ (offerNotice k s).jl.rateSwitch = s.jl.rateSwitch := by
  unfold offerNotice
  split
  · generalize hu : setFault k { faultOf s k with reported := (faultOf s k).latched } s = u
    have hjl : u.jl = s.jl := by rw [← hu]; rfl
    rw [← hjl]
    rcases offerReport_cases (.flt k (faultOf s k).latched) u with ⟨-, -, h⟩ | ⟨-, h⟩
    · rw [h, enterReport, onEnter_flt, beginCharacter_eq]
      exact ⟨rfl, rfl⟩
    · rw [h]
      exact ⟨rfl, rfl⟩
  · exact ⟨rfl, rfl⟩

/-- So do all the notices of an event. -/
theorem offerNotices_rate (s : State) :
    (offerNotices s).jl.rate = s.jl.rate ∧ (offerNotices s).jl.rateSwitch = s.jl.rateSwitch := by
  unfold offerNotices
  exact ⟨foldl_keeps (fun s : State => s.jl.rate) _ (fun s k => (offerNotice_rate k s).1) _ s,
    foldl_keeps (fun s : State => s.jl.rateSwitch) _ (fun s k => (offerNotice_rate k s).2) _ s⟩

/-- A notice joins the waiting list where a report waits already (R15). -/
theorem offerNotice_of_waiting {s : State} (k : FaultKind) (h : s.jl.waiting ≠ []) :
    (offerNotice k s).jl.reports = s.jl.reports ∧ (offerNotice k s).jl.waiting.head? = s.jl.waiting.head?
      ∧ (offerNotice k s).jl.waiting ≠ [] := by
  unfold offerNotice
  split
  · generalize hu : setFault k { faultOf s k with reported := (faultOf s k).latched } s = u
    have hjl : u.jl = s.jl := by rw [← hu]; rfl
    rw [← hjl] at h ⊢
    rw [offerReport, if_neg fun hc => h hc.2]
    refine ⟨rfl, ?_, by simp⟩
    exact List.head?_append_of_ne_nil _ h
  · exact ⟨rfl, rfl, h⟩

/-- So do all the notices of an event. -/
theorem offerNotices_of_waiting {s : State} (h : s.jl.waiting ≠ []) :
    (offerNotices s).jl.reports = s.jl.reports ∧ (offerNotices s).jl.waiting.head? = s.jl.waiting.head? := by
  unfold offerNotices
  generalize FaultKind.all = l
  induction l generalizing s with
  | nil => exact ⟨rfl, rfl⟩
  | cons k l ih =>
    obtain ⟨h1, h2, h3⟩ := offerNotice_of_waiting k h
    obtain ⟨i1, i2⟩ := ih h3
    exact ⟨i1.trans h1, i2.trans h2⟩

/-- A kind that owes no notice keeps its record while the others' notices are offered. -/
theorem faultOf_offerNotices_of_not_owed {s : State} {k : FaultKind} (h : noticeOwed s k = false) :
    faultOf (offerNotices s) k = faultOf s k := by
  unfold offerNotices
  generalize FaultKind.all = l
  induction l generalizing s with
  | nil => rfl
  | cons j l ih =>
    by_cases hj : k = j
    · subst hj
      rw [List.foldl_cons, offerNotice_of_not_owed k s h]
      exact ih h
    · obtain ⟨h1, h2⟩ := noticeOwed_offerNotice_of_ne hj s
      exact (ih (s := offerNotice j s) (h1.trans h)).trans h2

/-- A report in the queue keeps its place while the notices are offered. -/
theorem getElem?_offerNotices {s : State} {i : Nat} {r : Report} (h : s.jl.reports[i]? = some r) :
    (offerNotices s).jl.reports[i]? = some r := by
  obtain ⟨l, hl⟩ := (offerNotices_keeps s).1
  rw [← hl, List.getElem?_append_left (List.getElem?_eq_some_iff.1 h).1]
  exact h

/-! ## The reload of a soft reset (R204) -/

/-- The state a reload leaves when it has filled the settings and the counters, with the start at `p`. -/
def reloaded (p : StartPhase) (s : State) : State := { s with
  ss := { s.ss with settings := (loadedValues s.ss).1, start := p }
  cb := (loadedValues s.ss).2
  stu := s.stu.load (loadedValues s.ss).1.energy
  fm := loadedFlags s }

/-- The link after a rate is asked for (R2). -/
def rateAsked (rate : Nat) (jl : JobLink) : JobLink :=
  if rate = jl.rate then jl
  else if jl.reports = [] then { jl with rate := rate, rateSwitch := none }
  else { jl with rateSwitch := some { rate := rate, noted := jl.reports.length } }

/-- A rate asked for changes the link alone (R2). -/
theorem requestRate_eq (rate : Nat) (s : State) : requestRate rate s = { s with jl := rateAsked rate s.jl } := by
  by_cases h : rate = s.jl.rate
  · rw [requestRate_of_same h, rateAsked, if_pos h]
  · rw [requestRate_of_new h, rateAsked, if_neg h]

/-- It leaves the reports. -/
theorem rateAsked_keeps (rate : Nat) (jl : JobLink) :
    (rateAsked rate jl).reports = jl.reports ∧ (rateAsked rate jl).waiting = jl.waiting := by
  unfold rateAsked
  (repeat' split) <;> exact ⟨rfl, rfl⟩

/-- A rate that differs is in use at once where no report is in the queue (R2). -/
theorem rateAsked_of_empty {rate : Nat} {jl : JobLink} (h : rate ≠ jl.rate) (hr : jl.reports = []) :
    (rateAsked rate jl).rate = rate ∧ (rateAsked rate jl).rateSwitch = none := by
  rw [rateAsked, if_neg h, if_pos hr]
  exact ⟨rfl, rfl⟩

/-- Otherwise it waits for the reports in the queue (R2). -/
theorem rateAsked_of_reports {rate : Nat} {jl : JobLink} (h : rate ≠ jl.rate) (hr : jl.reports ≠ []) :
    (rateAsked rate jl).rate = jl.rate
      ∧ (rateAsked rate jl).rateSwitch = some { rate := rate, noted := jl.reports.length } := by
  rw [rateAsked, if_neg h, if_neg hr]
  exact ⟨rfl, rfl⟩

/-- The reload of a soft reset (R204): the load, the rate asked for, RDY, and the notices. -/
theorem reloadAfterReset_eq (s : State) :
    reloadAfterReset s = offerNotices (offerReport (.rdy (loadedImage s.ss).isSome)
      { reloaded .resetRdy s with jl := rateAsked (loadedValues s.ss).1.rate s.jl }) := by
  unfold reloadAfterReset
  dsimp only
  rw [reloadSettings_eq, requestRate_eq]
  rfl

/-- A reload whose RDY enters the queue ends the soft reset (R16, R204). -/
theorem reloadAfterReset_of_free {s : State} (hfree : s.jl.reports.length < 16) (hw : s.jl.waiting = []) :
    ∃ b, reloadAfterReset s = offerNotices { reloaded .running s with
      jl := { rateAsked (loadedValues s.ss).1.rate s.jl with
        reports := s.jl.reports ++ [.rdy (loadedImage s.ss).isSome], sending := b } } := by
  obtain ⟨hreports, hwaiting⟩ := rateAsked_keeps (loadedValues s.ss).1.rate s.jl
  obtain ⟨b, hb⟩ := offerReport_rdy_of_free
    (s := { reloaded .resetRdy s with jl := rateAsked (loadedValues s.ss).1.rate s.jl }) (loadedImage s.ss).isSome
    (by rw [hreports]; exact hfree) (hwaiting.trans hw)
  refine ⟨b, ?_⟩
  rw [reloadAfterReset_eq, hb, hreports]
  rfl

/-- A reload whose RDY must wait leaves the soft reset in progress (R15, R16, R204). -/
theorem reloadAfterReset_of_full {s : State} (hfull : 16 ≤ s.jl.reports.length) (hw : s.jl.waiting = []) :
    reloadAfterReset s = offerNotices { reloaded .resetRdy s with
      jl := { rateAsked (loadedValues s.ss).1.rate s.jl with waiting := [.rdy (loadedImage s.ss).isSome] } } := by
  obtain ⟨hreports, hwaiting⟩ := rateAsked_keeps (loadedValues s.ss).1.rate s.jl
  rw [reloadAfterReset_eq, offerReport_of_full _ (by rw [hreports]; exact hfull), hwaiting, hw]
  rfl

/-- A good image's values are what is filled in (R201). -/
theorem loadedValues_of_good {ss : SettingsStore} {v : Settings × Vector Counter 8} (h : loadedImage ss = some v) :
    loadedValues ss = v ∧ (loadedImage ss).isSome = true := by
  rw [loadedValues, h]
  exact ⟨rfl, rfl⟩

/-- A bad image's load fills in the defaults (R201). -/
theorem loadedValues_of_bad {ss : SettingsStore} (h : loadedImage ss = none) :
    loadedValues ss = (defaultSettings, Vector.replicate 8 defaultCounter) ∧ (loadedImage ss).isSome = false := by
  rw [loadedValues, h]
  exact ⟨rfl, rfl⟩

/-- A bad image leaves SETTINGS-LOST reported (R199, R203). -/
theorem faultOf_loaded_of_bad {s t : State} (h : loadedImage s.ss = none) (hfm : t.fm = loadedFlags s) :
    faultOf t .settingsLost = { active := true, latched := true, reported := true } := by
  have hset := faultOf_setFault .settingsLost .settingsLost { active := true, latched := true, reported := true } s
  rw [if_pos rfl] at hset
  rw [← hset]
  refine faultOf_congr ?_ _
  rw [hfm, loadedFlags, h]
  rfl

/-- It owes no notice, and no other kind's notice touches its record (R199). -/
theorem faultOf_offerNotices_loaded {s t : State} (h : loadedImage s.ss = none) (hfm : t.fm = loadedFlags s) :
    faultOf (offerNotices t) .settingsLost = { active := true, latched := true, reported := true } := by
  have ht := faultOf_loaded_of_bad h hfm
  rw [faultOf_offerNotices_of_not_owed (noticeOwed_of_reported (by rw [ht])), ht]

/-! ## Power-on's load (R203) -/

/-- LOAD_COMPLETION fills in the image's values, takes RATE at once, and RDY enters the empty queue (R203). -/
theorem completeLoading_of_free {s : State} (hr : s.jl.reports = []) (hw : s.jl.waiting = []) :
    ∃ t, completeLoading s = offerNotices t ∧ t.ss = (reloaded .running s).ss ∧ t.cb = (loadedValues s.ss).2
      ∧ t.stu = s.stu.load (loadedValues s.ss).1.energy ∧ t.fm = loadedFlags s ∧ t.os = s.os ∧ t.jq = s.jq
      ∧ t.lp = s.lp ∧ t.hi = s.hi ∧ t.jl.rate = (loadedValues s.ss).1.rate
      ∧ t.jl.reports = [.rdy (loadedImage s.ss).isSome] := by
  have hload : completeLoading s = offerNotices (offerReport (.rdy (loadedImage s.ss).isSome)
      { takeGeometry (reloaded .startRdy s) with
        jl := ctsAfterRemove { s.jl with rate := (loadedValues s.ss).1.rate } }) := by
    unfold completeLoading
    dsimp only
    rw [reloadSettings_eq]
    rfl
  obtain ⟨b, hb⟩ := offerReport_rdy_of_free (s := { takeGeometry (reloaded .startRdy s) with
      jl := ctsAfterRemove { s.jl with rate := (loadedValues s.ss).1.rate } }) (loadedImage s.ss).isSome
    (by simp [hr]) (by simp [hw])
  rw [hb] at hload
  refine ⟨_, hload, rfl, rfl, rfl, rfl, rfl, rfl, rfl, rfl, ?_, ?_⟩
  · simp
  · simp [hr]

/-! ## Power lost in a write (R201) -/

/-- The bytes of a write cut short are old or new (log entry 10). -/
theorem cutWrite_of_writing {s : State} {x : List Byte} (hw : s.ss.writing = true) (hx : s.ss.image = some x) :
    ∃ bytes : List Byte, cutWrite s = { s with ss := { s.ss with writing := false, torn := true, eeprom := bytes } }
      ∧ bytes.length = 256
      ∧ ∀ i, i < 256 → bytes[i]? = some (s.ss.eeprom.getD i 0xFF) ∨ bytes[i]? = some (x.getD i 0xFF) := by
  refine ⟨(List.range 256).map fun i =>
    if Config.tornKeepsOld s.fresh i then s.ss.eeprom.getD i 0xFF else x.getD i 0xFF, ?_, by simp, fun i hi => ?_⟩
  · rw [cutWrite, if_pos hw, hx]
    rfl
  · rw [List.getElem?_map, List.getElem?_range hi, Option.map_some]
    split
    · exact .inl rfl
    · exact .inr rfl

end Sys2Proof.Machine
end

section
/-! RESET (12.5): the discard of the jobs, the label in progress left without a copy, and the reload. -/

namespace Sys2Proof.Machine

/-! ## A label without a copy after a soft reset (R141, R161, R162) -/

/-- The label in progress has no copy and no verdict to wait for, and no notice is owed. -/
structure Copyless (s : State) : Prop where
  verdict : s.hi.verdict = none
  due : s.hi.verdictDue = false
  owed : ∀ k, noticeOwed s k = false
  copy : ∀ l, s.pe.label = some l → l.copy = none

/-- What the end of such a label changes: the engine's state and label, and that no compare is owed. -/
def Closed (s t : State) : Prop :=
  ∃ engine label presented stepTime owed resumed, t = { s with
      pe := { s.pe with engine := engine, label := label, presented := presented, stepTime := stepTime }
      hi := { s.hi with owed := owed, resumed := resumed } }
    ∧ ∀ l, label = some l → l.copy = none

theorem Closed.trans {a b c : State} (h : Closed a b) (h' : Closed b c) : Closed a c := by
  obtain ⟨e, l, p, n, o, r, rfl, -⟩ := h
  obtain ⟨e', l', p', n', o', r', rfl, hl'⟩ := h'
  exact ⟨e', l', p', n', o', r', rfl, hl'⟩

namespace Copyless

variable {s t : State}

theorem refl (h : Copyless s) : Closed s s :=
  ⟨s.pe.engine, s.pe.label, s.pe.presented, s.pe.stepTime, s.hi.owed, s.hi.resumed, rfl, h.copy⟩

/-- The end of such a label leaves none that waits for a verdict. -/
theorem of_closed (h : Copyless s) (hc : Closed s t) : Copyless t := by
  obtain ⟨e, l, p, n, o, r, rfl, hl⟩ := hc
  exact ⟨h.verdict, h.due, h.owed, hl⟩

/-- A label without a copy is presented as waste (R163). -/
theorem present_eq (h : Copyless s) {l : LabelContext} (hl : l.copy = none) :
    present l s = { s with
      pe := { s.pe with
        engine := .holding, label := none, presented := some { copy := none, waste := true }, stepTime := 0 }
      hi := { s.hi with owed := false } } := by
  have hv := h.verdict
  have hd := h.due
  have hp := present_of_sound (l := l) (s := s) (u := s) (waste := true) (by rw [hl]; rfl) (by simp [hv]) h.owed
  rw [hp, hl, if_neg (by simp [hv]), ← hv, ← hd]

/-- Its presentation is its end. -/
theorem present (h : Copyless s) {l : LabelContext} (hl : l.copy = none) : Closed s (present l s) :=
  ⟨_, _, _, _, _, s.hi.resumed, h.present_eq hl, nofun⟩

/-- The feed-out of a label without a copy, to its presentation where the media stands at the target (R162). -/
theorem startFeedOut (h : Copyless s) {l : LabelContext} (hl : l.copy = none) : Closed s (startFeedOut l s) := by
  have hbegun : Closed s (feedOutBegun l s) :=
    ⟨.feedingOut, some (feedOutLabel l s), s.pe.presented, lineTime s, s.hi.owed, s.hi.resumed, rfl, fun x hx => by
      cases hx
      exact hl⟩
  have hq := h.of_closed hbegun
  rw [startFeedOut_eq]
  split
  · have hv : verdictAwaited (feedOutBegun l s) = false := by rw [verdictAwaited, hq.due, Bool.false_and]
    rw [completeFeedOut, hv, if_neg (by decide)]
    exact hbegun.trans (hq.present hl)
  · exact hbegun

/-- A halt keeps the label. -/
theorem halt (h : Copyless s) : Closed s (halt s) :=
  ⟨.halted, s.pe.label, s.pe.presented, 0, s.hi.owed, true, rfl, h.copy⟩

/-- The boundary of a label without a copy begins its feed-out, or halts (R159, R161). -/
theorem decideBoundary (h : Copyless s) : Closed s (decideBoundary s) := by
  unfold Machine.decideBoundary
  cases hl : s.pe.label with
  | none => exact h.refl
  | some l =>
    have hstop : labelStopped s l = true := by rw [labelStopped, h.copy l hl]
    simp only [hstop, if_true]
    split
    · exact h.startFeedOut (h.copy l hl)
    · exact h.halt

/-- No closing shift begins where no verdict is due (R140). -/
theorem beginClosing_eq (h : Copyless s) : beginClosing s = s := if_neg fun hc => by simp [h.due] at hc

/-- A label without a copy that stood at its target is presented (R162). -/
theorem presentArrived (h : Copyless s) : Closed s (presentArrived s) := by
  unfold Machine.presentArrived
  split
  · next l hl =>
    split
    · exact h.present (h.copy l hl)
    · exact h.refl
  · exact h.refl

/-- With no job in a slot, the removal of the last reason resumes the label in progress and starts none (R168). -/
theorem resumeIfEmptied (h : Copyless s) (hjobs : s.jq.jobs = []) (before : State) :
    Closed s (resumeIfEmptied before s) := by
  have hcopy : nextPrintCopy s = none := by simp [nextPrintCopy, printOrder, hjobs]
  unfold Machine.resumeIfEmptied resume
  split
  · split
    · split
      · next l hl =>
        split
        · exact h.startFeedOut (h.copy l hl)
        · exact h.decideBoundary
      · exact h.refl
    · rw [testLabelStart_of_no_copy hcopy]
      exact h.refl
    all_goals exact h.refl
  · exact h.refl

end Copyless

/-! ## The jobs discarded (R85, R204) -/

/-- The part with its jobs discarded, before the label in progress is stopped, and with its band free between lines. -/
def unbanded (s : State) : State :=
  if lineInProgress (abortedJobs s) then abortedJobs s else freePrintingBand (abortedJobs s)

/-- A label's band freed changes the ring and that band alone. -/
theorem unbanded_eq (s : State) :
    ∃ br label, unbanded s = { abortedJobs s with br := br, pe := { (abortedJobs s).pe with label := label } }
      ∧ NoneReady br ∧ (∀ l, label = some l → l.copy = none)
      ∧ ∀ l, s.pe.label = some l → ∃ l', label = some l' ∧ l'.copy = none ∧ l'.arrived = l.arrived := by
  unfold unbanded
  have hcopy := abortedJobs_label s
  have hbands := abortedJobs_bands s
  have hlabel : (abortedJobs s).pe.label = s.pe.label.map fun l => { l with copy := none } := rfl
  split
  · refine ⟨(abortedJobs s).br, (abortedJobs s).pe.label, rfl, hbands, hcopy, fun l hl => ?_⟩
    exact ⟨{ l with copy := none }, by rw [hlabel, hl]; rfl, rfl, rfl⟩
  · cases hl : s.pe.label with
    | none =>
      have hnone : (abortedJobs s).pe.label = none := by rw [hlabel, hl]; rfl
      have hfree : freePrintingBand (abortedJobs s) = abortedJobs s := by simp only [freePrintingBand, hnone]
      rw [hfree]
      exact ⟨(abortedJobs s).br, (abortedJobs s).pe.label, rfl, hbands, hcopy, nofun⟩
    | some l =>
      have hsome : (abortedJobs s).pe.label = some { l with copy := none } := by rw [hlabel, hl]; rfl
      obtain ⟨br, hfree, -⟩ := freePrintingBand_eq hsome
      have hready := hbands.freePrintingBand
      rw [hfree] at hready ⊢
      refine ⟨br, _, rfl, hready, fun x hx => ?_, fun x hx => ?_⟩
      · cases hx
        rfl
      · cases hx
        exact ⟨_, rfl, rfl, rfl⟩

/-- The abort of a part whose head is reset: the jobs discarded, then the end of the label in progress, between lines
(R86, R161). -/
theorem performAbort_closed {s : State} (hq : Copyless (unbanded s)) : Closed (unbanded s) (performAbort s) := by
  rw [performAbort_eq]
  show Closed (unbanded s) (if atBoundary (beginClosing (unbanded s)) then
    decideBoundary (beginClosing (unbanded s)) else beginClosing (unbanded s))
  rw [hq.beginClosing_eq]
  split
  · exact hq.decideBoundary
  · exact hq.refl

/-- A label in its feed-out is not at a boundary: the abort leaves the engine to it (R161). -/
theorem performAbort_of_feedOut {s : State} (hq : Copyless (unbanded s)) (he : (unbanded s).pe.engine = .feedingOut) :
    performAbort s = unbanded s := by
  have hb : atBoundary (unbanded s) = false := by simp [atBoundary, he]
  rw [performAbort_eq]
  show (if atBoundary (beginClosing (unbanded s)) then
    decideBoundary (beginClosing (unbanded s)) else beginClosing (unbanded s)) = _
  rw [hq.beginClosing_eq, hb]
  rfl

/-- What a soft reset leaves before its reload: no job, the port OFF, no fault, and no reason but PANEL (R204). -/
structure Discarded (s v : State) : Prop where
  jl : v.jl = (removeRecord s).jl
  ss : v.ss = s.ss
  cb : v.cb = s.cb
  jq : v.jq = { s.jq with jobs := [] }
  lp : v.lp.on = false ∧ v.lp.parcels = [] ∧ v.lp.applyWait = none ∧ v.lp.conveyor = s.lp.conveyor ∧ v.lp.seq = s.lp.seq
  pause : v.pe.pause = { panel := s.pe.pause.panel }
  media : v.pe.position = s.pe.position ∧ v.pe.sense = s.pe.sense ∧ v.pe.pitch = s.pe.pitch
    ∧ v.pe.calibrated = (removeRecord s).pe.calibrated ∧ v.pe.tops = (removeRecord s).pe.tops
    ∧ v.pe.stock = (removeRecord s).pe.stock
  bands : NoneReady v.br
  cursor : v.re.cursor = .idle
  fm : v.fm = Vector.replicate 15 clearFault
  head : (strobing s = false → v.hi.power = .off) ∧ v.hi.defectCount = 0 ∧ v.hi.closing = false
  verdict : v.hi.verdict = none
  due : v.hi.verdictDue = false
  copy : ∀ l, v.pe.label = some l → l.copy = none

namespace Discarded

variable {s v t : State}

/-- No flag is set. -/
theorem faultOf_eq (h : Discarded s v) (k : FaultKind) : faultOf v k = clearFault := by
  rw [faultOf, h.fm]
  exact Vector.getElem_replicate k.index.isLt

/-- The label in progress has no copy, and no notice is owed. -/
theorem copyless (h : Discarded s v) : Copyless v :=
  ⟨h.verdict, h.due, fun k => noticeOwed_of_reported (by rw [h.faultOf_eq k]; rfl), h.copy⟩

/-- The end of the label in progress keeps what the reset has left. -/
theorem of_closed (h : Discarded s v) (hc : Closed v t) : Discarded s t := by
  obtain ⟨e, l, p, n, o, r, rfl, hl⟩ := hc
  exact ⟨h.jl, h.ss, h.cb, h.jq, h.lp, h.pause, h.media, h.bands, h.cursor, h.fm, h.head, h.verdict, h.due, hl⟩

end Discarded

/-- The part with its head reset and its jobs discarded has a label in progress without a copy and owes no notice. -/
theorem copyless_unbanded {s : State} (hn : ∀ k, noticeOwed s k = false) :
    Copyless (unbanded (headReset (removeRecord s))) := by
  obtain ⟨br, label, hu, -, hcopy, -⟩ := unbanded_eq (headReset (removeRecord s))
  rw [hu]
  refine ⟨rfl, rfl, fun k => ?_, hcopy⟩
  refine (noticeOwed_congr (s := s) ?_ ?_ ?_).trans (hn k)
  · rfl
  · exact faultOf_congr (by rfl) k
  · exact congrArg (·.any (isNoticeOf k)) (ctsAfterRemove_waiting _)

/-- The part with its jobs discarded, the port OFF and the faults cleared (R204). -/
def cleared (s : State) : State := clearAllFaults (portOff (performAbort (headReset (removeRecord s))))

/-- The head reset and the jobs discarded leave the link, the settings, the counters and the media (R204). -/
theorem abortedJobs_headReset (r : State) :
    let w := abortedJobs (headReset r)
    (w.jl = r.jl ∧ w.ss = r.ss ∧ w.cb = r.cb ∧ w.jq = { r.jq with jobs := [] } ∧ w.re.cursor = .idle)
      ∧ w.lp = { r.lp with parcels := [], cursor := 0, applyWait := none }
      ∧ w.hi = (headReset r).hi
      ∧ w.pe = { r.pe with label := w.pe.label, cal := w.pe.cal, presented := w.pe.presented } :=
  ⟨⟨rfl, rfl, rfl, rfl, rfl⟩, rfl, rfl, rfl⟩

/-- It is what the reset leaves, whatever the label in progress. -/
theorem cleared_discarded {s : State} (hn : ∀ k, noticeOwed s k = false) : Discarded s (cleared s) := by
  have hclosed := performAbort_closed (copyless_unbanded hn)
  obtain ⟨br, label, hu, hbands, -, -⟩ := unbanded_eq (headReset (removeRecord s))
  obtain ⟨⟨hjl, hss, hcb, hjq, hre⟩, hlp, hhi, hpe⟩ := abortedJobs_headReset (removeRecord s)
  rw [hu] at hclosed
  rw [cleared]
  obtain ⟨-, kpos, -, -, -, kpause, -, ksense, kpitch, -, -⟩ := takeGeometry_pe s
  have hpause : (abortedJobs (headReset (removeRecord s))).pe.pause = s.pe.pause := by rw [hpe]; exact kpause
  have hmedia : ∀ v : PrintEngine, v = (abortedJobs (headReset (removeRecord s))).pe →
      v.position = s.pe.position ∧ v.sense = s.pe.sense ∧ v.pitch = s.pe.pitch
        ∧ v.calibrated = (removeRecord s).pe.calibrated ∧ v.tops = (removeRecord s).pe.tops
        ∧ v.stock = (removeRecord s).pe.stock := by
    rintro v rfl
    rw [hpe]
    exact ⟨kpos, ksense, kpitch, rfl, rfl, rfl⟩
  have hpower : strobing s = false → (headReset (removeRecord s)).hi.power = .off := fun hs =>
    if_neg (by rw [show strobing (removeRecord s) = strobing s from rfl, hs]; decide)
  have hreset : (headReset (removeRecord s)).hi.defectCount = 0 ∧ (headReset (removeRecord s)).hi.closing = false
      ∧ (headReset (removeRecord s)).hi.verdict = none ∧ (headReset (removeRecord s)).hi.verdictDue = false :=
    ⟨rfl, rfl, rfl, rfl⟩
  rw [← hhi] at hpower hreset
  generalize abortedJobs (headReset (removeRecord s)) = w at *
  generalize performAbort (headReset (removeRecord s)) = a at *
  obtain ⟨e, l, p, n, o, q, rfl, hl⟩ := hclosed
  obtain ⟨hcount, hclosing, hverdict, hdue⟩ := hreset
  refine ⟨hjl, hss, hcb, ?_, ⟨rfl, rfl, ?_, ?_, ?_⟩, ?_, hmedia w.pe rfl, hbands, hre, rfl,
    ⟨hpower, hcount, hclosing⟩, hverdict, hdue, hl⟩
  · show (unbindAll w).jq = _
    rw [unbindAll, hjq]
    rfl
  · show w.lp.applyWait.map (fun x => { x with timer := true }) = none
    rw [hlp]
    rfl
  · show w.lp.conveyor = _
    rw [hlp]
    rfl
  · show w.lp.seq = _
    rw [hlp]
    rfl
  · show ({ panel := w.pe.pause.panel } : PauseSet) = _
    rw [hpause]

/-- The part before the reload: the label that stood at its target presented, and the label in progress resumed where
the last reason has left (R168, R204). -/
def emptied (s : State) : State := resumeIfEmptied (removeRecord s) (presentArrived (cleared s))

/-- It is what the reset leaves. -/
theorem emptied_discarded {s : State} (hn : ∀ k, noticeOwed s k = false) : Discarded s (emptied s) := by
  have hc := cleared_discarded hn
  have hp := hc.of_closed hc.copyless.presentArrived
  exact hp.of_closed (hp.copyless.resumeIfEmptied (by rw [hp.jq]) (removeRecord s))

/-- A label that stood at its target for its verdict is presented as waste (log entry 40). -/
theorem emptied_of_arrived {s : State} {l : LabelContext} (hn : ∀ k, noticeOwed s k = false)
    (he : s.pe.engine = .feedingOut) (hl : s.pe.label = some l) (ha : l.arrived = true) :
    (emptied s).pe.engine = .holding ∧ (emptied s).pe.label = none
      ∧ (emptied s).pe.presented = some { copy := none, waste := true } := by
  obtain ⟨kengine, -, -, klabel, -⟩ := takeGeometry_pe s
  obtain ⟨br, label, hu, -, -, harr⟩ := unbanded_eq (headReset (removeRecord s))
  obtain ⟨l', hlabel, hcopy, harrived⟩ := harr l (klabel.trans hl)
  have hq := copyless_unbanded hn
  have hfeed : (unbanded (headReset (removeRecord s))).pe.engine = .feedingOut := by
    rw [hu]
    exact kengine.trans he
  have hclear : (cleared s).pe.label = some l' := by
    rw [cleared, performAbort_of_feedOut hq hfeed, hu]
    exact hlabel
  have hc := (cleared_discarded hn).copyless
  have hv : verdictAwaited (cleared s) = false := by rw [verdictAwaited, hc.due, Bool.false_and]
  have hpres := (presentArrived_of_arrived hclear (harrived.trans ha) hv).trans (hc.present_eq hcopy)
  have hhold : (presentArrived (cleared s)).pe.engine = .holding := by rw [hpres]
  rw [emptied, resumeIfEmptied_of_moving (by simp [hhold]) (by simp [hhold]), hpres]
  exact ⟨rfl, rfl, rfl⟩

/-- RESET taken (R204). -/
theorem exec_reset {s : State} (h : Takes .reset formNone () s) :
    exec .reset s = .next (if (emptied s).ss.writing then
      { emptied s with ss := { (emptied s).ss with start := .resetWait } } else reloadAfterReset (emptied s)) := by
  show execReset s = _
  rw [execReset, onRecord_of_takes h]
  rfl

/-- With no write in progress RDY enters the queue in the event and no notice follows (R204). -/
theorem reloadAfterReset_emptied {s : State} (h : Takes .reset formNone () s) (hn : ∀ k, noticeOwed s k = false) :
    ∃ b, reloadAfterReset (emptied s) = { reloaded .running (emptied s) with
      jl := { rateAsked (loadedValues s.ss).1.rate (removeRecord s).jl with
        reports := s.jl.reports ++ [.rdy (loadedImage s.ss).isSome], sending := b } } := by
  have hd := emptied_discarded hn
  have hready := ready_of_takes h
  simp only [parserReady, Bool.and_eq_true, decide_eq_true_eq, List.isEmpty_iff] at hready
  obtain ⟨⟨⟨⟨-, hfree⟩, hwait⟩, -⟩, -⟩ := hready
  have hreports : (emptied s).jl.reports = s.jl.reports := by rw [hd.jl]; simp
  have hwaiting : (emptied s).jl.waiting = [] := by rw [hd.jl]; simpa using hwait
  obtain ⟨b, hb⟩ := reloadAfterReset_of_free (by rw [hreports]; exact hfree) hwaiting
  rw [hreports, hd.ss, hd.jl] at hb
  refine ⟨b, hb.trans (offerNotices_of_none_owed _ fun k => noticeOwed_of_reported ?_)⟩
  show (loadedFlags (emptied s))[k.index].latched = (loadedFlags (emptied s))[k.index].reported
  unfold loadedFlags
  split
  · have hk := faultOf_setFault .settingsLost k { active := true, latched := true, reported := true } (emptied s)
    rw [hd.faultOf_eq k] at hk
    have hk' : ((emptied s).fm.set FaultKind.settingsLost.index
        { active := true, latched := true, reported := true })[k.index] = _ := hk
    rw [hk']
    split <;> rfl
  · show (faultOf (emptied s) k).latched = (faultOf (emptied s) k).reported
    rw [hd.faultOf_eq k]
    rfl

end Sys2Proof.Machine
end

section
/-! The statement of SAVE, WRITE_COMPLETION, RESET and the power commands (12.2 to 12.5). -/

namespace Sys2Proof.Machine

/-! ## SAVE and the write (R202) -/

/-- SAVE forms the image and begins the write, or is refused with BUSY while one is in progress (R202). -/
theorem exec_save {s : State} (h : Takes .save formNone () s) :
    exec .save s = .next (takeSave () (removeRecord s)) := by
  show execSave s = _
  rw [execSave, onRecord_of_takes h]

/-- The part with the image in the EEPROM (R202). -/
def written (x : List Byte) (s : State) : State :=
  { s with ss := { s.ss with writing := false, torn := false, eeprom := x } }

/-- The write ends with the image in the EEPROM, and a reload that waited for it follows (R202, R204). -/
theorem exec_writeCompletion {s : State} {x : List Byte} (hp : s.powered = true) (hw : s.ss.writing = true)
    (hx : s.ss.image = some x) :
    exec .writeCompletion s = .next (if s.ss.start = .resetWait then reloadAfterReset (written x (takeGeometry s))
      else written x (takeGeometry s)) := by
  show execWriteCompletion s = _
  rw [execWriteCompletion, inEvent_of hp hw]
  show Host.Outcome.next (completeWrite (takeGeometry s)) = _
  unfold completeWrite written
  simp only [takeGeometry_ss, hx, Option.getD_some]

/-- What a load reads once the write has ended is the image written (R201). -/
theorem loadedImage_written (x : List Byte) (s : State) : loadedImage (written x s).ss = judgeImage x :=
  if_neg (by simp [written])

/-- A write that ends with the reload waiting for it and a position free: the reset ends (R202, R204). -/
theorem writeCompletion_of_free {s : State} {x : List Byte} (hp : s.powered = true) (hw : s.ss.writing = true)
    (hx : s.ss.image = some x) (hs : s.ss.start = .resetWait) (hfree : s.jl.reports.length < 16)
    (hwait : s.jl.waiting = []) :
    ∃ b, exec .writeCompletion s = .next (offerNotices { reloaded .running (written x s) with
      jl := { rateAsked (loadedValues (written x s).ss).1.rate s.jl with
        reports := s.jl.reports ++ [.rdy (judgeImage x).isSome], sending := b } }) := by
  have hgeo : takeGeometry s = s := takeGeometry_of_resetting (by simp [resetting, hs])
  obtain ⟨b, hb⟩ := reloadAfterReset_of_free (s := written x s) hfree hwait
  rw [loadedImage_written] at hb
  refine ⟨b, ?_⟩
  rw [exec_writeCompletion hp hw hx, if_pos hs, hgeo, hb]
  rfl

/-- With the queue full its RDY waits, and the reset goes on (R15, R16, R204). -/
theorem writeCompletion_of_full {s : State} {x : List Byte} (hp : s.powered = true) (hw : s.ss.writing = true)
    (hx : s.ss.image = some x) (hs : s.ss.start = .resetWait) (hfull : 16 ≤ s.jl.reports.length)
    (hwait : s.jl.waiting = []) :
    exec .writeCompletion s = .next (offerNotices { reloaded .resetRdy (written x s) with
      jl := { rateAsked (loadedValues (written x s).ss).1.rate s.jl with
        waiting := [.rdy (judgeImage x).isSome] } }) := by
  have hgeo : takeGeometry s = s := takeGeometry_of_resetting (by simp [resetting, hs])
  have hb := reloadAfterReset_of_full (s := written x s) hfull hwait
  rw [loadedImage_written] at hb
  rw [exec_writeCompletion hp hw hx, if_pos hs, hgeo, hb]
  rfl

/-! ## The geometry (R170, R204) -/

/-- No geometry comes into use where the engine becomes IDLE during a soft reset (R204). -/
theorem enterIdle_of_resetting {s : State} (h : resetting s = true) :
    (enterIdle s).pe = { s.pe with engine := .idle, stepTime := 0 } := by
  unfold enterIdle
  rw [takeGeometry_of_resetting]
  · simp
  · rw [← h]
    simp [resetting]

/-- The geometry that comes into use on an IDLE engine, and what becomes of the calibration (R170, R204). -/
theorem takeGeometry_of_idle {s : State} (he : s.pe.engine = .idle) (hr : resetting s = false) :
    let x := s.ss.settings
    let pe := (takeGeometry s).pe
    (x.media = s.pe.stock → x.pitch = s.pe.contPitch ∨ x.media ≠ .cont →
        pe.calibrated = s.pe.calibrated ∧ pe.tops = s.pe.tops)
      ∧ (x.media ≠ s.pe.stock → pe.calibrated = false ∧ pe.tops = [] ∧ pe.violations = 0 ∧ pe.lastCapture = none
        ∧ pe.lastGapStart = none)
      ∧ (x.pitch ≠ s.pe.contPitch → x.media = .cont → pe.calibrated = false ∧ pe.tops = []) := by
  intro x pe
  have hpe : pe = (applyGeometry s).pe := if_pos ⟨he, hr⟩
  rw [hpe]
  refine ⟨fun hm hor => ?_, fun hm => ?_, fun hp hc => ?_⟩
  · rcases hor with hp | hc
    · rw [applyGeometry_of_same hm hp]
      exact ⟨rfl, rfl⟩
    · simp only [applyGeometry, if_pos (show s.ss.settings.media = s.pe.stock from hm),
        if_neg (show ¬ s.ss.settings.media = .cont from hc)]
      split <;> exact ⟨rfl, rfl⟩
  · simp only [applyGeometry, if_neg (show ¬ s.ss.settings.media = s.pe.stock from hm), forgetStock]
    split <;> simp
  · have hc' : s.ss.settings.media = .cont := hc
    have hp' : ¬ s.ss.settings.pitch = s.pe.contPitch := hp
    by_cases hm : s.ss.settings.media = s.pe.stock
    · simp only [applyGeometry, if_pos hm, if_neg hp', if_pos hc', and_self]
    · simp only [applyGeometry, forgetStock, if_neg hm, if_neg hp', if_pos hc', and_self]

/-! ## The power commands (R201, R203) -/

/-- LOAD_COMPLETION with the transmitter at rest (R203). -/
theorem exec_loadCompletion {s : State} (hp : s.powered = true) (hs : s.ss.start = .loading)
    (hr : s.jl.reports = []) (hw : s.jl.waiting = []) :
    ∃ t, exec .loadCompletion s = .next (offerNotices t) ∧ t.ss = (reloaded .running s).ss
      ∧ t.cb = (loadedValues s.ss).2 ∧ t.stu = s.stu.load (loadedValues s.ss).1.energy ∧ t.fm = loadedFlags s
      ∧ t.os = s.os ∧ t.jq = s.jq ∧ t.lp = s.lp ∧ t.hi = s.hi ∧ t.jl.rate = (loadedValues s.ss).1.rate
      ∧ t.jl.reports = [.rdy (loadedImage s.ss).isSome] := by
  obtain ⟨t, ht, hrest⟩ := completeLoading_of_free (s := takeGeometry s) hr hw
  refine ⟨t, ?_, hrest⟩
  show execLoadCompletion s = _
  rw [execLoadCompletion, inEvent_of hp (by rw [hs]; rfl), ht]

/-! ## The statement -/

/-- What a reload whose RDY enters the queue leaves of the settings, the counters, the energy, the link and the flags
(R201, R203, R204). -/
theorem reloaded_spec {s w : State} {jl : JobLink} {b : Bool} (hw : w = { reloaded .running s with
    jl := { rateAsked (loadedValues s.ss).1.rate jl with
      reports := jl.reports ++ [.rdy (loadedImage s.ss).isSome], sending := b } }) :
    (∀ y cb, loadedImage s.ss = some (y, cb) → w.ss.settings = y ∧ w.cb = cb ∧ w.stu.active = y.energy
      ∧ w.jl.reports = jl.reports ++ [.rdy true]
      ∧ (y.rate ≠ jl.rate → jl.reports = [] → w.jl.rate = y.rate ∧ w.jl.rateSwitch = none)
      ∧ (y.rate ≠ jl.rate → jl.reports ≠ [] →
        w.jl.rate = jl.rate ∧ w.jl.rateSwitch = some { rate := y.rate, noted := jl.reports.length }))
    ∧ (loadedImage s.ss = none → w.ss.settings = defaultSettings ∧ w.cb = Vector.replicate 8 defaultCounter
      ∧ w.stu.active = defaultEnergy ∧ w.jl.reports = jl.reports ++ [.rdy false]
      ∧ faultOf w .settingsLost = { active := true, latched := true, reported := true }) := by
  subst hw
  refine ⟨fun y cb h => ?_, fun h => ?_⟩
  · obtain ⟨hv, hsome⟩ := loadedValues_of_good h
    rw [hsome, hv]
    refine ⟨congrArg Prod.fst hv, congrArg Prod.snd hv, congrArg (fun v => v.1.energy) hv, rfl,
      fun hr he => rateAsked_of_empty hr he, fun hr he => rateAsked_of_reports hr he⟩
  · obtain ⟨hv, hsome⟩ := loadedValues_of_bad h
    rw [hsome, hv]
    exact ⟨congrArg Prod.fst hv, congrArg Prod.snd hv, congrArg (fun v => v.1.energy) hv, rfl,
      faultOf_loaded_of_bad h rfl⟩

/-- WRITE_COMPLETION (R202, R204). -/
theorem writeCompletion_spec (s : State) (x : List Byte) (hp : s.powered = true) (hw : s.ss.writing = true)
    (hx : s.ss.image = some x) :
    (s.ss.start ≠ .resetWait → exec .writeCompletion s = .next
      { takeGeometry s with ss := { s.ss with writing := false, torn := false, eeprom := x } })
    ∧ (s.ss.start = .resetWait → s.jl.rateSwitch = none → s.jl.reports.length < 16 → s.jl.waiting = [] →
      ∃ t, exec .writeCompletion s = .next t ∧ t.ss.eeprom = x ∧ t.ss.writing = false ∧ t.ss.torn = false
        ∧ t.ss.start = .running ∧ t.pe = s.pe
        ∧ (∀ y cb, judgeImage x = some (y, cb) → t.ss.settings = y ∧ t.cb = cb ∧ t.stu.active = y.energy
          ∧ t.jl.reports[s.jl.reports.length]? = some (.rdy true)
          ∧ (y.rate ≠ s.jl.rate → s.jl.reports = [] → t.jl.rate = y.rate ∧ t.jl.rateSwitch = none)
          ∧ (y.rate ≠ s.jl.rate → s.jl.reports ≠ [] →
            t.jl.rate = s.jl.rate ∧ t.jl.rateSwitch = some { rate := y.rate, noted := s.jl.reports.length }))
        ∧ (judgeImage x = none → t.ss.settings = defaultSettings ∧ t.cb = Vector.replicate 8 defaultCounter
          ∧ t.stu.active = defaultEnergy ∧ t.jl.reports[s.jl.reports.length]? = some (.rdy false)
          ∧ faultOf t .settingsLost = { active := true, latched := true, reported := true }))
    ∧ (s.ss.start = .resetWait → 16 ≤ s.jl.reports.length → s.jl.waiting = [] →
      ∃ t, exec .writeCompletion s = .next t ∧ t.ss.eeprom = x ∧ t.ss.writing = false ∧ t.ss.start = .resetRdy
        ∧ t.pe = s.pe ∧ t.jl.reports = s.jl.reports
        ∧ (∀ y cb, judgeImage x = some (y, cb) →
          t.ss.settings = y ∧ t.cb = cb ∧ t.jl.waiting.head? = some (.rdy true))
        ∧ (judgeImage x = none → t.ss.settings = defaultSettings ∧ t.cb = Vector.replicate 8 defaultCounter
          ∧ t.jl.waiting.head? = some (.rdy false))) := by
  have himage := loadedImage_written x s
  refine ⟨fun hs => ?_, fun hs _ hfree hwait => ?_, fun hs hfull hwait => ?_⟩
  · rw [exec_writeCompletion hp hw hx, if_neg hs]
    rfl
  · obtain ⟨b, hb⟩ := writeCompletion_of_free hp hw hx hs hfree hwait
    obtain ⟨w, hwe⟩ : ∃ w, w = { reloaded .running (written x s) with
      jl := { rateAsked (loadedValues (written x s).ss).1.rate s.jl with
        reports := s.jl.reports ++ [Report.rdy (judgeImage x).isSome], sending := b } } := ⟨_, rfl⟩
    have hspec := reloaded_spec (s := written x s) (w := w) (jl := s.jl) (b := b) (by rw [himage]; exact hwe)
    rw [himage] at hspec
    obtain ⟨hgood, hbad⟩ := hspec
    obtain ⟨hrate, hswitch⟩ := offerNotices_rate w
    have hkeep : w.ss.eeprom = x ∧ w.ss.writing = false ∧ w.ss.torn = false ∧ w.ss.start = .running ∧ w.pe = s.pe
        ∧ w.fm = loadedFlags (written x s) := by
      rw [hwe]
      exact ⟨rfl, rfl, rfl, rfl, rfl, rfl⟩
    obtain ⟨heeprom, hwriting, htorn, hstart, hpe, hfm⟩ := hkeep
    rw [← hwe] at hb
    have hrdy : ∀ g : Bool, w.jl.reports = s.jl.reports ++ [Report.rdy g] →
        (offerNotices w).jl.reports[s.jl.reports.length]? = some (Report.rdy g) := fun g hg =>
      getElem?_offerNotices (by rw [hg]; exact List.getElem?_concat_length)
    refine ⟨_, hb, ?_⟩
    simp only [offerNotices_frame, hrate, hswitch]
    refine ⟨heeprom, hwriting, htorn, hstart, hpe, fun y cb hj => ?_, fun hj => ?_⟩
    · obtain ⟨h1, h2, h3, h4, h5, h6⟩ := hgood y cb hj
      exact ⟨h1, h2, h3, hrdy _ h4, h5, h6⟩
    · obtain ⟨h1, h2, h3, h4, -⟩ := hbad hj
      exact ⟨h1, h2, h3, hrdy _ h4, faultOf_offerNotices_loaded (himage.trans hj) hfm⟩
  · have hb := writeCompletion_of_full hp hw hx hs hfull hwait
    obtain ⟨w, hwe⟩ : ∃ w, w = { reloaded .resetRdy (written x s) with
      jl := { rateAsked (loadedValues (written x s).ss).1.rate s.jl with
        waiting := [.rdy (judgeImage x).isSome] } } := ⟨_, rfl⟩
    rw [← hwe] at hb
    have hwaiting : w.jl.waiting = [.rdy (judgeImage x).isSome] := by rw [hwe]
    have hreports : w.jl.reports = s.jl.reports := by
      rw [hwe]
      exact (rateAsked_keeps _ _).1
    obtain ⟨hkept, hhead⟩ := offerNotices_of_waiting (s := w) (by simp [hwaiting])
    have hkeep : w.ss.eeprom = x ∧ w.ss.writing = false ∧ w.ss.start = .resetRdy ∧ w.pe = s.pe
        ∧ w.ss.settings = (loadedValues (written x s).ss).1 ∧ w.cb = (loadedValues (written x s).ss).2 := by
      rw [hwe]
      exact ⟨rfl, rfl, rfl, rfl, rfl, rfl⟩
    obtain ⟨heeprom, hwriting, hstart, hpe, hset, hcb⟩ := hkeep
    refine ⟨_, hb, ?_⟩
    simp only [offerNotices_frame, hkept, hhead, hset, hcb, hwaiting]
    refine ⟨heeprom, hwriting, hstart, hpe, hreports, fun y cb hj => ?_, fun hj => ?_⟩
    · obtain ⟨hv, -⟩ := loadedValues_of_good (himage.trans hj)
      rw [hv, hj]
      exact ⟨rfl, rfl, rfl⟩
    · obtain ⟨hv, -⟩ := loadedValues_of_bad (himage.trans hj)
      rw [hv, hj]
      exact ⟨rfl, rfl, rfl⟩

/-- What RESET leaves apart from the settings and RDY, which the reload does not touch (R204), before `P`, what the
reload makes of them. -/
theorem Discarded.kept {s v t : State} (h : Discarded s v)
    (hsame : t.jq = v.jq ∧ t.lp = v.lp ∧ t.pe = v.pe ∧ t.br = v.br ∧ t.re = v.re ∧ t.hi = v.hi)
    (hfm : t.fm = v.fm ∨ t.fm = loadedFlags v) {P : Prop} (hP : P) :
    t.jq.jobs = [] ∧ t.jq.assembly = s.jq.assembly ∧ t.lp.on = false ∧ t.lp.parcels = []
      ∧ t.lp.applyWait = none ∧ t.lp.conveyor = s.lp.conveyor ∧ t.lp.seq = s.lp.seq
      ∧ t.pe.pause = { panel := s.pe.pause.panel } ∧ t.pe.position = s.pe.position ∧ t.pe.sense = s.pe.sense
      ∧ t.pe.pitch = s.pe.pitch ∧ t.pe.calibrated = (removeRecord s).pe.calibrated
      ∧ t.pe.tops = (removeRecord s).pe.tops ∧ t.pe.stock = (removeRecord s).pe.stock
      ∧ (∀ b ∈ t.br.bands, b.state ≠ .filling ∧ b.state ≠ .ready) ∧ t.re.cursor = .idle
      ∧ (∀ k : FaultKind, k ≠ .settingsLost → t.fm[k.index] = { active := false, latched := false, reported := false })
      ∧ (strobing s = false → t.hi.power = .off) ∧ t.hi.defectCount = 0 ∧ t.hi.closing = false ∧ P := by
  obtain ⟨hjq, hlp, hpe, hbr, hre, hhi⟩ := hsame
  obtain ⟨hon, hparcels, happly, hconveyor, hseq⟩ := h.lp
  obtain ⟨hpos, hsense, hpitch, hcal, htops, hstock⟩ := h.media
  obtain ⟨hpower, hcount, hclosing⟩ := h.head
  rw [hlp, hpe, hbr, hre, hhi, hjq, h.jq]
  refine ⟨rfl, rfl, hon, hparcels, happly, hconveyor, hseq, h.pause, hpos, hsense, hpitch, hcal, htops, hstock, h.bands,
    h.cursor, fun k hk => ?_, hpower, hcount, hclosing, hP⟩
  have hclear : v.fm[k.index] = clearFault := h.faultOf_eq k
  rcases hfm with hfm | hfm
  · rw [hfm]
    exact hclear
  · rw [hfm, loadedFlags]
    split
    · exact (Vector.getElem_set_ne _ _ fun he => hk (FaultKind.index_injective he.symm)).trans hclear
    · exact hclear

/-- RESET with no write in progress: the reload, and RDY as the last report in the queue (R204). -/
theorem reset_reloads {s : State} (h : Takes .reset formNone () s) (hn : ∀ k, noticeOwed s k = false)
    (hw : s.ss.writing = false) :
    ∃ t jl b, exec .reset s = .next t ∧ t = { reloaded .running (emptied s) with
        jl := { rateAsked (loadedValues (emptied s).ss).1.rate jl with
          reports := jl.reports ++ [.rdy (loadedImage (emptied s).ss).isSome], sending := b } }
      ∧ jl.rate = s.jl.rate ∧ jl.reports = s.jl.reports := by
  have hd := emptied_discarded hn
  obtain ⟨b, hb⟩ := reloadAfterReset_emptied h hn
  have hreports : (removeRecord s).jl.reports = s.jl.reports := by simp
  refine ⟨_, (removeRecord s).jl, b, ?_, rfl, by simp, hreports⟩
  rw [exec_reset h, if_neg (by rw [hd.ss, hw]; decide), hb, hd.ss, hreports]

/-- Settles O59: the save, the write, the soft reset, and the power commands. -/
theorem settingsSavedAndLoaded : Obligations.SettingsSavedAndLoaded := by
  unfold Obligations.SettingsSavedAndLoaded
  refine ⟨fun s h => ⟨fun hw => ?_, fun hw => ?_⟩, writeCompletion_spec, fun s h hn => ?_,
    fun s => ⟨takeGeometry_of_busy, fun hs => ?_, fun he h1 h2 => ?_⟩, fun s hp hw => ?_, fun s x hp hw hx => ?_,
    fun s hor => ?_, fun s x cb hp hs hr hw _ hgood => ?_, fun s hp hs hr hw _ hbad => ?_⟩
  · rw [exec_save h, takeSave, if_neg (show ¬ (removeRecord s).ss.writing = true by rw [removeRecord_ss, hw]; decide)]
    rfl
  · rw [exec_save h, takeSave, if_pos (show (removeRecord s).ss.writing = true from hw)]
    rfl
  · have hd := emptied_discarded hn
    cases hw : s.ss.writing with
    | true =>
      have hx := exec_reset h
      rw [if_pos (by rw [hd.ss, hw])] at hx
      refine ⟨_, hx, hd.kept ⟨rfl, rfl, rfl, rfl, rfl, rfl⟩ (.inl rfl) ⟨fun l he hl ha =>
        emptied_of_arrived hn he hl ha, fun _ => ⟨by rw [hd.ss], hd.cb⟩, nofun, nofun⟩⟩
    | false =>
      obtain ⟨t, jl, b, hx, ht, hrate, hreports⟩ := reset_reloads h hn hw
      obtain ⟨hgood, hbad⟩ := reloaded_spec ht
      have hsame : (t.jq = (emptied s).jq ∧ t.lp = (emptied s).lp ∧ t.pe = (emptied s).pe ∧ t.br = (emptied s).br
          ∧ t.re = (emptied s).re ∧ t.hi = (emptied s).hi) ∧ t.fm = loadedFlags (emptied s)
          ∧ t.ss.start = .running := by
        rw [ht]
        exact ⟨⟨rfl, rfl, rfl, rfl, rfl, rfl⟩, rfl, rfl⟩
      obtain ⟨hsame, hfm, hstart⟩ := hsame
      rw [hd.ss, hrate, hreports] at hgood
      rw [hd.ss, hreports] at hbad
      obtain ⟨-, -, hpe, -, -, -⟩ := id hsame
      refine ⟨t, hx, hd.kept hsame (.inr hfm) ⟨fun l he hl ha => ?_, nofun, fun x cb _ hi => ?_, fun _ hi => ?_⟩⟩
      · rw [hpe]
        exact emptied_of_arrived hn he hl ha
      · obtain ⟨h1, h2, h3, h4, h5, h6⟩ := hgood x cb hi
        have hclear : faultOf t .settingsLost = clearFault := by
          rw [← hd.faultOf_eq .settingsLost]
          exact faultOf_congr (by rw [hfm, loadedFlags, hd.ss, hi]; rfl) _
        exact ⟨h1, h2, h3, hstart, h4, h5, h6, by rw [hclear]; rfl⟩
      · obtain ⟨h1, h2, h3, h4, h5⟩ := hbad hi
        exact ⟨h1, h2, h3, hstart, h4, h5⟩
  · have hres : resetting s = true := by rcases hs with hs | hs <;> simp [resetting, hs]
    exact ⟨takeGeometry_of_resetting hres, enterIdle_of_resetting hres⟩
  · have hres : resetting s = false := by simp [resetting, h1, h2]
    obtain ⟨hstock, hpitch⟩ := takeGeometry_settles he hres
    exact ⟨hstock, hpitch, takeGeometry_of_idle he hres⟩
  · show execPowerLoss s = _
    rw [execPowerLoss, if_pos hp, cutWrite, if_neg (by rw [hw]; decide)]
  · obtain ⟨bytes, hcut, hlen, hbytes⟩ := cutWrite_of_writing hw hx
    refine ⟨bytes, ?_, hlen, hbytes, rfl⟩
    show execPowerLoss s = _
    rw [execPowerLoss, if_pos hp, hcut]
  · have hkeep : (if s.powered then cutWrite s else s) = s := by
      rcases hor with hp | hw
      · rw [hp]
        rfl
      · rw [cutWrite, hw]
        simp
    show execPowerOn s = _
    rw [execPowerOn, hkeep]
    rfl
  · obtain ⟨t, ht, hss, hcb, hstu, -, hos, hjq, hlp, hhi, hrate, hreports⟩ := exec_loadCompletion hp hs hr hw
    obtain ⟨hv, hsome⟩ := loadedValues_of_good hgood
    have hset : t.ss.settings = (loadedValues s.ss).1 ∧ t.ss.start = .running := by
      rw [hss]
      exact ⟨rfl, rfl⟩
    rw [hv] at hset hcb hstu hrate
    have hfirst := getElem?_offerNotices (s := t) (i := 0) (r := .rdy true) (by rw [hreports, hsome]; rfl)
    refine ⟨_, ht, ?_⟩
    simp only [offerNotices_frame]
    rw [List.head?_eq_getElem?, hfirst, (offerNotices_rate t).1, hrate]
    exact ⟨hset.1, hcb, by rw [hstu]; rfl, rfl, hset.2, rfl, hos, hjq, hlp, hhi⟩
  · obtain ⟨t, ht, hss, hcb, hstu, hfm, -, -, -, -, hrate, hreports⟩ := exec_loadCompletion hp hs hr hw
    obtain ⟨hv, hsome⟩ := loadedValues_of_bad hbad
    have hset : t.ss.settings = (loadedValues s.ss).1 ∧ t.ss.start = .running := by
      rw [hss]
      exact ⟨rfl, rfl⟩
    rw [hv] at hset hcb hstu hrate
    have hfirst := getElem?_offerNotices (s := t) (i := 0) (r := .rdy false) (by rw [hreports, hsome]; rfl)
    refine ⟨_, ht, ?_⟩
    simp only [offerNotices_frame]
    rw [List.head?_eq_getElem?, hfirst, (offerNotices_rate t).1, hrate, faultOf_offerNotices_loaded hbad hfm]
    exact ⟨hset.1, hcb, by rw [hstu]; rfl, rfl, hset.2, rfl, rfl⟩

end Sys2Proof.Machine
end
